-- ==== Sys2Proof/Word.lean ====
section
/-! DEFINITION. The words of the block: bytes of frames, images and records, and 32-bit words of counters, flags and the
mask. Everything that needs more than the type stands in Machine/Bits.lean. -/

namespace Sys2Proof

/-- One byte of a frame, of the configuration image or of a panel transaction (R81, R159, R183). -/
abbrev Byte := BitVec 8

/-- A 32-bit word: a counter (R171), the event flags (R176), the mask (R177), a command's argument (R188). -/
abbrev Word32 := BitVec 32

/-- A raw code of an analog input, 0..4095 (section 1.1). -/
abbrev RawCode := BitVec 12

end Sys2Proof
end

