-- ==== Sys2Proof/Syntax.lean ====
section
/-! DEFINITION. The commands of the block: one constructor of `Instr` per row of spec/opcode_table.json, and the types of
their operands. An operand is what the outside world supplies at the event: a sampled input, a frame's characters, a
panel transaction's bytes, or which of several like timers or valves the event is about (log 4). -/

namespace Sys2Proof

/-- The three pools; DISCHARGE is 0, SUPPLY is 1, BIOCIDE is 2 (00_scope.md, Conventions). -/
inductive Pool where
  | discharge | supply | biocide
deriving DecidableEq, Repr

/-- The five measurement channels (section 1.1). -/
inductive Chan where
  | cb | tb | cm | tm | lv
deriving DecidableEq, Repr

/-- The two valves: blowdown belongs to DISCHARGE, makeup to SUPPLY (section 6.1). -/
inductive Valve where
  | blowdown | makeup
deriving DecidableEq, Repr

/-- The position of a valve, commanded, settled or observed (section 6.1). -/
inductive ValvePos where
  | opened | closed
deriving DecidableEq, Repr

/-- The two meters (chapter 7). -/
inductive Meter where
  | makeup | blowdown
deriving DecidableEq, Repr

/-- The causes of a cold reset (R156). -/
inductive ResetCause where
  | power | pin | dip
deriving DecidableEq, Repr

/-- One character on the tower line (R81): its ten bits, the first on the line in the lowest place: a start bit, eight data bits
with the least significant first, and a stop bit. -/
abbrev LineChar := BitVec 10

/-- A character as the receiver keeps it: its byte, and whether its stop bit was not found, a framing error (R81). -/
structure RxChar where
  byte : Byte
  framingError : Bool
deriving DecidableEq, Repr

/-- What the line gave in the time of one character of an attempt (R94): the character read back, or none where none was
read back in time. -/
abbrev EchoChar := Option LineChar

/-- What the receiver has had from the line since it was last asked (R81): the characters that came, and for how many
microseconds after the last the line has been quiet, with no start bit. -/
structure Reception where
  chars : List LineChar
  quietMicros : Nat
deriving DecidableEq, Repr

/-- The levels that the panel controller gives the clock and the data line of the panel port, from one change of either to the
next, chip-select being low (R183). -/
structure SpiLevels where
  clock : Bool
  data : Bool
deriving DecidableEq, Repr

/-- The end of an attempt (R94): what the line gave for each character sent so far, and the levels of the straps. -/
structure AttemptEnd where
  readBack : List EchoChar
  straps : BitVec 5
deriving DecidableEq, Repr

/-- An input's level and for how many milliseconds it has stood there without a break (R105, R119). -/
structure Held (α : Type) where
  level : α
  heldFor : Nat
deriving DecidableEq, Repr

/-- The end of an open check (R107): the valve, and for how many milliseconds its feedback input has stood open without a
break, 0 while it stands closed. -/
structure OpenCheckEnd where
  valve : Valve
  openHeldFor : Nat
deriving DecidableEq, Repr

/-- The two owners that take CLEAR COUNTERS, each as an event of its own (R191): statistics and events, and the meter and
feed unit. -/
inductive ClearOwner where
  | statistics | feed
deriving DecidableEq, Repr

/-- The raw codes of one scan, one per channel; the code of a channel in OFF is not taken (R1). -/
structure Codes where
  cb : RawCode
  tb : RawCode
  cm : RawCode
  tm : RawCode
  lv : RawCode
deriving DecidableEq, Repr

/-- The input levels sampled at the end of START (R105, R119) with the codes of the first scan (R163). -/
structure StartInputs where
  blowdownFeedback : ValvePos
  makeupFeedback : ValvePos
  makeupMeter : Bool
  blowdownMeter : Bool
  codes : Codes
deriving DecidableEq, Repr

/-- What the serial memory does on the I2C lines in one attempt (R159): whether it acknowledges its address for writing,
the offset byte, and its address for reading; and the bytes it shifts out after that. -/
structure MemoryAnswer where
  acksWrite : Bool
  acksOffset : Bool
  acksRead : Bool
  bytes : List Byte
deriving DecidableEq, Repr

/-- The commands, in the order of spec/opcode_table.json. A `straps` operand holds the levels of the five strap inputs;
outside COLD_RESET it is read only if a warm restart takes effect within the event (R158, R170). -/
inductive Instr where
  | coldReset (cause : ResetCause) (straps : BitVec 5)
  | configAttempt (answer : MemoryAnswer) (inputs : StartInputs)
  | configRetryDelay
  | scan (codes : Codes)
  | holdTimerExpiry (channel : Chan)
  | hhTimerExpiry
  | llTimerExpiry
  | askWindowExpiry (pool : Pool)
  | confirmPeriodExpiry (pool : Pool)
  | ageingStep (pool : Pool)
  | minimumRunEnd (pool : Pool)
  | maxRunExpiry (pool : Pool)
  | reportProcessed (straps : BitVec 5)
  | leavingProcessed (straps : BitVec 5)
  | peerStale (number : Nat)
  | peerDropped (number : Nat)
  | frameEnd (received : Reception)
  | reportTimer
  | attemptStart (quietMicros : Nat)
  | echoMismatch (attempt : AttemptEnd)
  | delivery (attempt : AttemptEnd)
  | deliveryTimerExpiry
  | listenTimerExpiry
  | feedbackSettled (valve : Valve) (input : Held ValvePos)
  | openCheckExpiry (check : OpenCheckEnd)
  | closeCheckExpiry (valve : Valve)
  | strokePulseEnd
  | meterSettled (meter : Meter) (input : Held Bool)
  | slotBoundary
  | noFlowHoldTime
  | strokeClockExpiry
  | intervalTimerExpiry
  | prebleedShort
  | doseTimeExpiry
  | contactTimeExpiry
  | readStation
  | readMeasure
  | readPool (pool : Pool)
  | readPeer (index : Byte)
  | readCounter (index : Byte)
  | readHistogram
  | readEvents
  | readBalance
  | readBiocide
  | readConfig
  | readResetCause
  | outOfRange (record index : Byte)
  | unknownTransaction (firstByte : Byte)
  | readMailbox
  | postCommand (code : Byte) (argument : Word32)
  | acknowledge
  | biocideNow
  | hold
  | resume
  | clearCounters
  | setMask
  | lineRestart
  | restart (straps : BitVec 5)
  | heldInReset (cause : ResetCause)
deriving DecidableEq, Repr

/-- The pool a valve belongs to (section 6.1). -/
def Valve.pool : Valve → Pool
  | .blowdown => .discharge
  | .makeup => .supply

/-- The pool's number in frames, records and panel indices (00_scope.md, Conventions). -/
def Pool.index : Pool → Nat
  | .discharge => 0
  | .supply => 1
  | .biocide => 2

/-- The pool a valve or none belongs to: BIOCIDE has no valve (R60). -/
def Pool.valve : Pool → Option Valve
  | .discharge => some .blowdown
  | .supply => some .makeup
  | .biocide => none

end Sys2Proof
end

