-- ==== Sys2Proof/WellFormed.lean ====
section
/-! DEFINITION. Which commands the outside world can send at all: operands within the ranges the spec gives them. A
command that is not well formed is no event of the hardware; the machine still gives it a next state. -/

namespace Sys2Proof

/-- Records 1..11 with the index ranges of R184. -/
def recordIndexInRange (record index : Byte) : Bool :=
  let i := index.toNat
  match record.toNat with
  | 1 | 2 | 6 | 7 | 8 | 9 | 10 | 11 => i == 0
  | 3 => i ≤ 2
  | 4 => 1 ≤ i && i ≤ 31
  | 5 => 1 ≤ i && i ≤ 20
  | _ => false

/-- R81: a character begins with a start bit, which is low. -/
def LineChar.started (c : LineChar) : Bool := !c.getLsbD 0

/-- R81: what was read back of an attempt are characters, or nothing. -/
def AttemptEnd.started (a : AttemptEnd) : Bool := a.readBack.all (fun c => c.all LineChar.started)

/-- The check, command by command: the serial memory is read for 64 bytes (R159), a peer's number is 1..31 (R65), MINIMUM_RUN_END and
MAX_RUN_EXPIRY belong to the valve pools (R60), a character on the tower line has its
start bit (R81), record indices are in range or, for OUT_OF_RANGE, out of it (R184), and
an unknown transaction does not begin with 0x01, 0x02 or 0x03 (R183). -/
def Instr.wf : Instr → Bool
  | .configAttempt answer _ => answer.bytes.length == 64
  | .minimumRunEnd p => p != .biocide
  | .maxRunExpiry p => p != .biocide
  | .peerStale n => 1 ≤ n && n ≤ 31
  | .peerDropped n => 1 ≤ n && n ≤ 31
  | .readPeer i => recordIndexInRange 4 i
  | .readCounter i => recordIndexInRange 5 i
  | .outOfRange r i => !recordIndexInRange r i
  | .unknownTransaction b => b != 1 && b != 2 && b != 3
  | .coldReset _ _ | .configRetryDelay | .scan _ | .holdTimerExpiry _ | .hhTimerExpiry | .llTimerExpiry => true
  | .askWindowExpiry _ | .confirmPeriodExpiry _ | .ageingStep _ | .reportProcessed _ | .leavingProcessed _ => true
  | .frameEnd r => r.chars.all LineChar.started
  | .echoMismatch a | .delivery a => a.started
  | .reportTimer | .attemptStart _ | .deliveryTimerExpiry => true
  | .listenTimerExpiry | .feedbackSettled _ _ | .openCheckExpiry _ | .closeCheckExpiry _ | .strokePulseEnd => true
  | .meterSettled _ _ | .slotBoundary | .noFlowHoldTime | .strokeClockExpiry | .intervalTimerExpiry => true
  | .prebleedShort | .doseTimeExpiry | .contactTimeExpiry | .readStation | .readMeasure | .readPool _ => true
  | .readHistogram | .readEvents | .readBalance | .readBiocide | .readConfig | .readResetCause | .readMailbox => true
  | .postCommand _ _ | .acknowledge | .biocideNow | .hold | .resume | .clearCounters | .setMask => true
  | .lineRestart | .restart _ | .heldInReset _ => true

end Sys2Proof
end

