-- ==== Sys2Proof/Decode.lean ====
section
/-! DEFINITION. The block has no instruction words: spec/opcode_table.json gives no row any bits (98_reader.md counts
0 rows with fixed bits and 0 with fields), so no word spells a command. What spells commands on this block is the panel
port's transactions (R183): the bytes of one, from the fall of chip-select to its rise, name the command it is. -/

namespace Sys2Proof

/-- The command that a word spells by the table's bits: none for every word, since the table gives no row bits. -/
def decodeTableWord (_nbits _w : Nat) : Option Instr := none

/-! ## The panel port's bits (R183): SPI mode 0, the most significant bit of a byte first -/

/-- What the part samples, or the controller: the data line at each rising edge of the clock, which idles low. `clock` is the
clock's level before. -/
def spiSampled (clock : Bool) : List SpiLevels → List Bool
  | [] => []
  | l :: rest => if !clock && l.clock then l.data :: spiSampled l.clock rest else spiSampled l.clock rest

/-- The bytes of sampled bits; a byte that is not complete is none. -/
def spiBytes : List Bool → List Byte
  | b7 :: b6 :: b5 :: b4 :: b3 :: b2 :: b1 :: b0 :: rest =>
    BitVec.ofBoolListBE [b7, b6, b5, b4, b3, b2, b1, b0] :: spiBytes rest
  | _ => []

/-- The bits of a byte in the order they go. -/
def spiBits (b : Byte) : List Bool := (List.range 8).map (fun i => b.getLsbD (7 - i))

/-- The bytes the controller sends with these levels from the fall of chip-select to its rise. -/
def spiReceived (levels : List SpiLevels) : List Byte := spiBytes (spiSampled false levels)

/-- The part's data line while each of these levels stands: the first bit from the fall of chip-select on, and the next from
each falling edge of the clock on. -/
def spiDriven (clock : Bool) (bits : List Bool) : List SpiLevels → List Bool
  | [] => []
  | l :: rest =>
    if clock && !l.clock then bits.tail.headD false :: spiDriven l.clock bits.tail rest
    else bits.headD false :: spiDriven l.clock bits rest

/-! ## Panel transactions (R183) -/

/-- The pool of a POOL index (R184). -/
def poolOfIndex (index : Byte) : Pool :=
  match index.toNat with
  | 0 => .discharge
  | 1 => .supply
  | _ => .biocide

/-- R184: the read that a record number and an index name; OUT_OF_RANGE for every pair the table does not give. -/
def readCommand (record index : Byte) : Instr :=
  if !recordIndexInRange record index then .outOfRange record index
  else match record.toNat with
    | 1 => .readStation
    | 2 => .readMeasure
    | 3 => .readPool (poolOfIndex index)
    | 4 => .readPeer index
    | 5 => .readCounter index
    | 6 => .readHistogram
    | 7 => .readEvents
    | 8 => .readBalance
    | 9 => .readBiocide
    | 10 => .readConfig
    | _ => .readResetCause

/-- R183: the command of a transaction, from the bytes the controller sends: READ RECORD, POST COMMAND and READ MAILBOX by
the first byte, once the last request byte is complete, whatever bytes follow it; a first byte that is none of the three
makes an unknown transaction; one that ends early is no command. -/
def transactionCommand : List Byte → Option Instr
  | [] => none
  | first :: rest =>
    if first = 1 then
      match rest with
      | record :: index :: _ => some (readCommand record index)
      | _ => none
    else if first = 2 then
      match rest with
      | code :: a :: b :: c :: d :: _ => some (.postCommand code (a ++ b ++ c ++ d))
      | _ => none
    else if first = 3 then some .readMailbox
    else some (.unknownTransaction first)

/-- R183: the request bytes of a transaction, its first byte included. -/
def requestLength (first : Byte) : Nat := if first = 1 then 3 else if first = 2 then 6 else 1

/-- R183: what the part shifts out while the controller sends these bytes: 0x00 with the request, then the response, then
0x00 again. -/
def shiftedOut (sent response : List Byte) : List Byte :=
  (List.replicate (requestLength (sent.headD 0)) 0 ++ response ++ List.replicate sent.length 0).take sent.length

end Sys2Proof
end

