-- ==== Sys2Proof/Config.lean ====
section
/-! DEFINITION. What is fixed for the machine: the timing constants of 00_scope.md in milliseconds (log 1), the shape of
the effective configuration (section 9.3), and the free values, opaque constants for the orders the manual leaves open
(log 8, log 9, log 13, log 23, log 31). -/

namespace Sys2Proof

/-! Timing constants (00_scope.md, "Timing constants"), in milliseconds. -/

def Config.reportPeriod : Nat := 2000
def Config.askWindow : Nat := 2500
def Config.confirmPeriod : Nat := 2500
def Config.staleAfter : Nat := 6000
def Config.dropAfter : Nat := 20000
def Config.failsafe : Nat := 10000
def Config.listenPeriod : Nat := 8000
def Config.minimumRun : Nat := 20000
def Config.ageingStep : Nat := 4000
def Config.ageingMax : Nat := 55
def Config.scanPeriod : Nat := 1000
def Config.holdLimit : Nat := 60000
def Config.alarmDelay : Nat := 60000
def Config.retryDelay : Nat := 3600000
def Config.slotSpan : Nat := 5000
def Config.noFlowTime : Nat := 60000
def Config.strokePulse : Nat := 200
def Config.attemptGap : Nat := 5
def Config.settleTime : Nat := 250

/-- Good codes in a row that bring a channel back from FAULT (R6). -/
def Config.recoveryCodes : Nat := 5
/-- Codes an averaging window holds at most (R4). -/
def Config.windowSize : Nat := 4
/-- Attempts at one sequence number (R96). -/
def Config.maxFailures : Nat := 8
/-- Frames the receive queue holds at most (R84). -/
def Config.queueSize : Nat := 4
/-- Characters of quiet that end a frame (R81). -/
def Config.frameEndQuiet : Nat := 2
/-- The tower line's bits in a second (R81). -/
def Config.lineRate : Nat := 19200
/-- The bits of a character (R81). -/
def Config.charBits : Nat := 10
/-- Characters of a frame that are kept (R81). -/
def Config.frameMax : Nat := 31
/-- Owed strokes at most (R126). -/
def Config.owedMax : Nat := 250
/-- Configuration attempts at most (R159). -/
def Config.maxAttempts : Nat := 3
/-- The serial memory's 7-bit device address (R159). -/
def Config.memoryAddress : BitVec 7 := 0x50
/-- The offset the part writes before it reads (R159). -/
def Config.imageOffset : Byte := 0x00

/-! Free values: nothing constrains them. Each is applied to `State.freeIx`, which advances at every use. -/

/-- At an event that evaluates all three engines while BIOCIDE yields and DISCHARGE's evaluation acts too: is BIOCIDE
evaluated before DISCHARGE? R43: "not ordered among themselves" (log 8). -/
opaque Config.evalBiocideFirst : Nat → Bool

/-- At an event in which BIOCIDE ABORTED and another alarm kind are latched with no order between their owners: does
BIOCIDE ABORTED join the list first? R178: "not ordered among themselves" (log 9). -/
opaque Config.abortAlarmFirst : Nat → Bool

/-- At the entry to CLOSING, does the forced release reach the DISCHARGE engine before the need-false notice? R144:
"either may be taken first" (log 13). -/
opaque Config.releaseBeforeNeed : Nat → Bool

/-- Where counters of different blocks, or of different pools, cross in one event: which of them is the last, as an index
into their list. R173: "either may be second" (log 23). -/
opaque Config.lastCrossing : Nat → Nat

/-- Of the two owners that take CLEAR COUNTERS as separate events, do statistics and events take it first? R191 gives no
order (log 31). -/
opaque Config.statisticsClearFirst : Nat → Bool

/-- The quantity DISCHARGE demand is controlled on: conductivity or cycles (R20). -/
inductive ControlMode where
  | c | k
deriving DecidableEq, Repr

/-- Which settled changes of a meter are pulses (R120). -/
inductive EdgeMode where
  | rising | falling | both
deriving DecidableEq, Repr

/-- The effective configuration (section 9.3, R162): the image after checks, clamps and repairs. -/
structure EffConfig where
  enableCb : Bool
  enableTb : Bool
  enableCm : Bool
  enableTm : Bool
  enableLv : Bool
  mode : ControlMode
  fsB : Nat
  fsM : Nat
  alpha : Nat
  sp : Nat
  db : Nat
  hh : Nat
  cyclesSp : Nat
  cyclesDb : Nat
  lOn : Nat
  lOff : Nat
  ll : Nat
  kM : Nat
  kB : Nat
  edgeMakeup : EdgeMode
  edgeBlowdown : EdgeMode
  debounce : Nat
  milliPerLitre : Nat
  strokeInterval : Nat
  biocideInterval : Nat
  prebleedDrop : Nat
  feedbackBlowdown : Bool
  feedbackMakeup : Bool
  prebleedLimit : Nat
  doseTime : Nat
  contactTime : Nat
  capDischarge : Nat
  capSupply : Nat
  capBiocide : Nat
  amountBiocide : Nat
  amountDischarge : Nat
  amountSupply : Nat
  maxRunDischarge : Nat
  maxRunSupply : Nat
  confirmTime : Nat
  tolerance : Nat
  balanceInterval : Nat
deriving DecidableEq, Repr

/-- The configuration while none is loaded: every field 0 (R162: "the CONFIG record is marked not loaded and its fields
are 0"). -/
def EffConfig.zero : EffConfig :=
  { enableCb := false, enableTb := false, enableCm := false, enableTm := false, enableLv := false, mode := .c,
    fsB := 0, fsM := 0, alpha := 0, sp := 0, db := 0, hh := 0, cyclesSp := 0, cyclesDb := 0, lOn := 0, lOff := 0, ll := 0,
    kM := 0, kB := 0, edgeMakeup := .rising, edgeBlowdown := .rising, debounce := 0, milliPerLitre := 0,
    strokeInterval := 0, biocideInterval := 0, prebleedDrop := 0, feedbackBlowdown := false, feedbackMakeup := false,
    prebleedLimit := 0, doseTime := 0, contactTime := 0, capDischarge := 0, capSupply := 0, capBiocide := 0,
    amountBiocide := 0, amountDischarge := 0, amountSupply := 0, maxRunDischarge := 0, maxRunSupply := 0,
    confirmTime := 0, tolerance := 0, balanceInterval := 0 }

/-- This station's own configured cap for a pool (section 3.1). -/
def EffConfig.cap (c : EffConfig) : Pool → Nat
  | .discharge => c.capDischarge
  | .supply => c.capSupply
  | .biocide => c.capBiocide

/-- This station's amount for a pool, already clamped to the own cap (R35). -/
def EffConfig.amount (c : EffConfig) : Pool → Nat
  | .discharge => c.amountDischarge
  | .supply => c.amountSupply
  | .biocide => c.amountBiocide

/-- The configured maximum run of a valve pool in milliseconds; BIOCIDE has none (R50, R60). -/
def EffConfig.maxRun (c : EffConfig) : Pool → Nat
  | .discharge => c.maxRunDischarge * 1000
  | .supply => c.maxRunSupply * 1000
  | .biocide => 0

end Sys2Proof
end

