-- ==== Sys2Proof/Machine/Bits.lean ====
section
/-! DEFINITION. Rounding, clamping, byte order and the CRC-16: the conventions of 00_scope.md and R89. -/

namespace Sys2Proof.Machine

/-- Division rounded to nearest, a half rounded up (00_scope.md, "Rounding"). -/
def roundDiv (a b : Nat) : Nat := (2 * a + b) / (2 * b)

/-- `x` clamped to `lo..hi` (00_scope.md, "Clamping"). -/
def clampNat (lo hi x : Nat) : Nat := if x < lo then lo else if hi < x then hi else x

/-- The difference of two numbers without its sign (R130). -/
def absDiff (a b : Nat) : Nat := if a ≤ b then b - a else a - b

/-- One byte holding a number below 256. -/
def byte1 (n : Nat) : List Byte := [BitVec.ofNat 8 n]

/-- Two bytes, high byte first (00_scope.md, "Byte order"). -/
def be16 (n : Nat) : List Byte := [BitVec.ofNat 8 (n / 256), BitVec.ofNat 8 n]

/-- Four bytes, high byte first. -/
def be32 (n : Nat) : List Byte := be16 (n / 65536) ++ be16 (n % 65536)

/-- A mark or flag as one byte, 1 for set and 0 for clear (R185). -/
def markByte (b : Bool) : List Byte := [if b then 1 else 0]

/-- The byte at an offset; a frame or image that passed its length check has every byte read here. -/
def byteAt (bs : List Byte) (i : Nat) : Byte := bs.getD i 0

/-- The one-byte number at an offset. -/
def nat1At (bs : List Byte) (i : Nat) : Nat := (byteAt bs i).toNat

/-- The two-byte number at an offset, high byte first. -/
def nat2At (bs : List Byte) (i : Nat) : Nat := nat1At bs i * 256 + nat1At bs (i + 1)

/-- Bit `i` of the weight of `b`, for marks gathered in one byte (section 5.3, R186, R187). -/
def bitIf (b : Bool) (i : Nat) : Nat := if b then 2 ^ i else 0

/-- One bit of the CRC register of R89: generator x^16 + x^12 + x^5 + 1, most significant bit first. -/
def crcBit (c : BitVec 16) : BitVec 16 := if c.msb then (c <<< 1) ^^^ 0x1021#16 else c <<< 1

/-- One byte into the CRC register. -/
def crcByte (c : BitVec 16) (b : Byte) : BitVec 16 :=
  crcBit (crcBit (crcBit (crcBit (crcBit (crcBit (crcBit (crcBit (c ^^^ (b.zeroExtend 16 <<< 8)))))))))

/-- The CRC-16 of a list of bytes in the order they are sent (R89). -/
def crc16 (bs : List Byte) : BitVec 16 := bs.foldl crcByte 0xFFFF#16

/-- The CRC's two bytes, high byte first (R89). -/
def crcBytes (bs : List Byte) : List Byte := be16 (crc16 bs).toNat

/-- R81: a byte as the ten bits of its character: stop bit, data, start bit, from the last on the line to the first (log 34). -/
def lineChar (b : Byte) : LineChar := 1#1 ++ b ++ 0#1

/-- R81: ten bits from the line as the receiver keeps them. -/
def rxChar (c : LineChar) : RxChar := { byte := c.extractLsb' 1 8, framingError := !c.getLsbD 9 }

/-- R81: the bits of a character in the order in which they stand on the line. -/
def lineBits (c : LineChar) : List Bool := (List.range 10).map c.getLsbD

/-- R81: characters sent back to back, with no idle time between them. -/
def backToBack (bytes : List Byte) : List Bool := bytes.flatMap (fun b => lineBits (lineChar b))

/-- R81: the whole character times in a time of so many microseconds. -/
def charTimes (micros : Nat) : Nat := micros * Config.lineRate / (1000000 * Config.charBits)

/-- A running time one millisecond later, standing at its limit once it has reached it (log 3). -/
def upTo (limit t : Nat) : Nat := if t < limit then t + 1 else limit

end Sys2Proof.Machine
end

