-- ==== Sys2Proof/Machine/Types.lean ====
section
/-! DEFINITION. The records the blocks keep, one structure per record of the manual. Times are milliseconds (log 1); a
timer that can be stopped is an Option, none while it is stopped. -/

namespace Sys2Proof.Machine
open Sys2Proof

/-! Measurement unit (chapter 1) -/

/-- Channel states (section 1.2). -/
inductive ChanState where
  | good | holding | fault | off
deriving DecidableEq, Repr

/-- The channel record (section 1.1). -/
structure ChannelRec where
  state : ChanState
  window : List Nat
  averaged : Nat
  present : Bool
  holdTimer : Nat
  recovery : Nat
deriving DecidableEq, Repr

/-- The derived set of the most recent complete scan (R15); none is "marked unknown", and is shown as 0. -/
structure Derived where
  rawB : Option Nat
  rawM : Option Nat
  t10B : Option Nat
  t10M : Option Nat
  lv10 : Option Nat
  k25B : Option Nat
  k25M : Option Nat
  coc : Option Nat
  cyclesLimit : Bool
deriving DecidableEq, Repr

/-- The measurement unit: five channel records, the derived set, the time since the last scan (R1). -/
structure Measurement where
  cb : ChannelRec
  tb : ChannelRec
  cm : ChannelRec
  tm : ChannelRec
  lv : ChannelRec
  derived : Derived
  scanClock : Option Nat
deriving DecidableEq, Repr

/-! Demand unit (chapter 2) -/

/-- The demand unit's state (chapter 2, table of items). -/
structure Demand where
  mode : ControlMode
  dMark : Bool
  dDemand : Bool
  dBase : Nat
  sMark : Bool
  sDemand : Bool
  sBase : Nat
  bBase : Nat
  hhTimer : Option Nat
  hhCondition : Bool
  llTimer : Option Nat
  llCondition : Bool
  force : Bool
  suppress : Bool
deriving DecidableEq, Repr

/-! Claim engine (chapter 3) -/

/-- Pool engine states (section 3.2). -/
inductive EngineState where
  | rest | asking | confirming | holding | releasing | stuck | locked
deriving DecidableEq, Repr

/-- The pool engine record (section 3.2), with the pool's effective cap (R36). The current urgency is a view. -/
structure Engine where
  state : EngineState
  amount : Nat
  effCap : Nat
  base : Nat
  ageing : Nat
  ageingClock : Nat
  heldUrgency : Nat
  phase : Option Nat
  windowExpired : Bool
  holdStart : Option Nat
  releaseDeferred : Bool
  maxRun : Option Nat
  reask : Bool
  lock : Bool
  grantWait : Option Nat
  need : Bool
deriving DecidableEq, Repr

/-- The three pool engines. -/
structure Claim where
  discharge : Engine
  supply : Engine
  biocide : Engine
deriving DecidableEq, Repr

/-! Peer table (chapter 4) -/

/-- Freshness of a peer entry (R65). -/
inductive Freshness where
  | fresh | stale
deriving DecidableEq, Repr

/-- Station flags, byte 4 of a frame (section 5.3). -/
structure StationFlags where
  listening : Bool
  hold : Bool
  isolated : Bool
  alarm : Bool
  capMismatch : Bool
  modeK : Bool
deriving DecidableEq, Repr

/-- Fault summary, byte 28 of a REPORT (section 5.3). -/
structure FaultSummary where
  probe : Bool
  valve : Bool
  balance : Bool
  backlog : Bool
deriving DecidableEq, Repr

/-- A pool record as a peer carries it (R65). -/
structure PoolRecord where
  state : EngineState
  amount : Nat
  urgency : Nat
  cap : Nat
deriving DecidableEq, Repr

/-- A peer entry (R65). -/
structure PeerEntry where
  number : Nat
  freshness : Freshness
  age : Nat
  lastSeq : Byte
  missed : Nat
  flags : StationFlags
  discharge : PoolRecord
  supply : PoolRecord
  biocide : PoolRecord
  k25B : Nat
  coc : Nat
  cycleCode : Nat
  faults : FaultSummary
  mismatch : Bool
deriving DecidableEq, Repr

/-! Line interface (chapter 5) -/

/-- What the receiver does with the characters on the line (R83, R85, R102). -/
inductive RxMode where
  /-- START, or held in reset: the line is not read (R85). -/
  | off
  /-- Waits for a frame end; what it closes is neither checked nor counted (R85, R102). -/
  | skip
  /-- Collects a frame and checks it (R82). -/
  | collect
  /-- The next frame end closes this station's own delivered frame: consumed (R83). -/
  | ownEcho
  /-- The next frame end closes a frame during which this station's attempt failed: counted damaged once (R83), whatever
  characters it closes (log 29). -/
  | ownDamaged
deriving DecidableEq, Repr

/-- The kinds of frame (section 5.3). -/
inductive FrameKind where
  | report | leaving
deriving DecidableEq, Repr

/-- A composed frame: the snapshot of R86 and R88, without sequence number and CRC. `payload` is bytes 5..28 of a
REPORT and empty for a LEAVING. -/
structure TxFrame where
  kind : FrameKind
  source : Byte
  flags : Byte
  payload : List Byte
deriving DecidableEq, Repr

/-- The on-line slot (section 5.4): the frame, its bytes with the sequence number and CRC filled in, the failures of
its chain, and whether an attempt is being sent. -/
structure OnLine where
  frame : TxFrame
  bytes : List Byte
  failures : Nat
  sending : Bool
deriving DecidableEq, Repr

/-- The line interface (R103 lists its state). `rxChars` is the frame being collected, at most 31 characters of it, and
`rxTooLong` marks one that has reached a 32nd (R81). -/
structure Line where
  rxMode : RxMode
  rxChars : List RxChar
  rxTooLong : Bool
  rxQueue : List (List Byte)
  onLine : Option OnLine
  nextSlot : Option TxFrame
  seq : Byte
  reportTimer : Option Nat
  deliveryTimer : Option Nat
  leavingComposed : Bool
deriving DecidableEq, Repr

/-! Output unit (chapter 6) -/

/-- What the output unit is waiting for at a valve (section 6.1). -/
inductive Check where
  | none | openCheck | closeCheck | closeWatch
deriving DecidableEq, Repr

/-- The valve record (section 6.1); the observed position is a view. -/
structure ValveRec where
  commanded : ValvePos
  feedbackPresent : Bool
  settled : ValvePos
  check : Check
  timer : Option Nat
deriving DecidableEq, Repr

/-- The output unit: two valve records and the output pins (R113). `inhibitorPulse` is the time since the inhibitor
output went high, none while it is low (R116). -/
structure Output where
  blowdown : ValveRec
  makeup : ValveRec
  biocidePump : Bool
  inhibitorPulse : Option Nat
  relay : Bool
deriving DecidableEq, Repr

/-! Meter and feed unit (chapter 7) -/

/-- The no-flow watch while it is watching (R125). `tested` says that the test at 60 s has been made (log 21). -/
structure NoFlowWatch where
  holdTime : Nat
  raised : Bool
  tested : Bool
deriving DecidableEq, Repr

/-- Outcome of a balance interval (section 7.5). -/
inductive BalanceResult where
  | none | ok | mismatch | skipped | uncompared
deriving DecidableEq, Repr

/-- The last balance record (section 7.5). -/
structure BalanceRec where
  makeupLitres : Nat
  blowdownLitres : Nat
  metered : Nat
  measured : Nat
  result : BalanceResult
deriving DecidableEq, Repr

/-- The meter and feed unit (chapter 7, table of items). A ring is its twelve slots, oldest first, the current slot
last. `strokeClock` none is "no stroke yet"; `strokePassed` says that the clock's reaching of the stroke interval has been
taken (log 37). -/
structure Feed where
  makeupLevel : Bool
  blowdownLevel : Bool
  makeupRing : List Nat
  blowdownRing : List Nat
  slotClock : Option Nat
  noFlow : Option NoFlowWatch
  remainder : Nat
  owed : Nat
  backlog : Bool
  strokeClock : Option Nat
  strokePassed : Bool
  makeupAcc : Nat
  blowdownAcc : Nat
  balance : BalanceRec
  mismatch : Bool
deriving DecidableEq, Repr

/-! Biocide sequencer (chapter 8) -/

/-- Cycle states (section 8.1). -/
inductive Cycle where
  | idle | due | prebleed | closing | dosing | contact
deriving DecidableEq, Repr

/-- The sequencer record (section 8.1); the force and suppression requests stand at the demand unit. `interval` and
`phase` are remaining times. -/
structure Sequencer where
  cycle : Cycle
  interval : Option Nat
  overdue : Option Nat
  phase : Option Nat
  target : Nat
  abortMark : Bool
deriving DecidableEq, Repr

/-! Station control (chapter 9) -/

/-- Station states (section 9.1). -/
inductive StationState where
  | start | configFault | listen | run | hold | isolated | quiet
deriving DecidableEq, Repr

/-- Why the station is in CONFIG FAULT (chapter 9). -/
inductive FaultReason where
  | none | noNumber | noAnswer | format | length | crc
deriving DecidableEq, Repr

/-- The reset-cause record (R157). -/
structure CauseMarks where
  power : Bool
  pin : Bool
  dip : Bool
  command : Bool
deriving DecidableEq, Repr

/-- What START is doing (R159): nothing, the given attempt (1..3), or the wait of 5 ms after that attempt. -/
inductive StartWork where
  | idle
  | attempt (n : Nat)
  | retryWait (n elapsed : Nat)
deriving DecidableEq, Repr

/-- An act of the part on its I2C lines, as the controller of the bus (R159): a start, a byte sent, a repeated start, a byte
received with the acknowledge the part gives it, a stop. -/
inductive BusAct where
  | start
  | send (byte : Byte)
  | repeatedStart
  | receive (byte : Byte) (acknowledged : Bool)
  | stop
deriving DecidableEq, Repr

/-- Station control's record (chapter 9). `listen` is the time remaining in the listen period; `bus` is the transaction of
the last configuration attempt, act by act (R159, log 33). -/
structure Station where
  state : StationState
  number : Nat
  cfg : EffConfig
  loaded : Bool
  fault : FaultReason
  listen : Option Nat
  restartPending : Bool
  causes : CauseMarks
  work : StartWork
  bus : List BusAct
deriving DecidableEq, Repr

/-! Statistics and events (chapter 10) -/

/-- The nine alarm kinds (section 10.5). -/
inductive AlarmKind where
  | highConductivity | lowLevel | probeFault | valveFault | duplicateStation | isolated | balanceMismatch
  | biocideAborted | configFault
deriving DecidableEq, Repr

/-- An entry of the latched alarm list (section 10.5). -/
structure AlarmEntry where
  kind : AlarmKind
  active : Bool
  unack : Bool
deriving DecidableEq, Repr

/-- Statistics and events: counter n is entry n - 1; the histogram cell of pool p and bucket b is entry 5 p + b - 1;
alarm entries oldest first. -/
structure Stats where
  counters : List Word32
  histogram : List Nat
  lastCounter : Nat
  flags : Word32
  mask : Word32
  alarms : List AlarmEntry
deriving DecidableEq, Repr

/-! Panel port (chapter 11) -/

/-- Mailbox states (section 11.4). -/
inductive MailState where
  | empty | pending | done
deriving DecidableEq, Repr

/-- Results of a command (section 11.4). -/
inductive MailResult where
  | none | ok | notNow | unknown | badArgument
deriving DecidableEq, Repr

/-- The mailbox (section 11.4). -/
structure Mailbox where
  state : MailState
  code : Byte
  argument : Word32
  result : MailResult
deriving DecidableEq, Repr

/-- The panel port: the mailbox, the attention output (R177), the bytes the last transaction shifts out from the byte
after its request on (R183, log 15), and the owner that has already taken the pending CLEAR COUNTERS, none while neither
has (R191, log 31). -/
structure Port where
  mailbox : Mailbox
  attention : Bool
  response : List Byte
  clearedBy : Option ClearOwner
deriving DecidableEq, Repr

end Sys2Proof.Machine
end

