-- ==== Sys2Proof/Machine/ResetValues.lean ====
section
/-! DEFINITION. What each block holds after a cold reset, and what a warm restart makes of it, owner by owner (R16, R33,
R63, R77, R103, R113, R133, R152, R153, R181, R190). Values the manual gives only at the configuration load are in log 11. -/

namespace Sys2Proof.Machine
open Sys2Proof

/-- R16: GOOD with no value present. -/
def ChannelRec.reset : ChannelRec :=
  { state := .good, window := [], averaged := 0, present := false, holdTimer := 0, recovery := 0 }

/-- R7: a channel whose enable mark is 0 is in OFF after the load. -/
def ChannelRec.loaded (enabled : Bool) : ChannelRec :=
  { ChannelRec.reset with state := if enabled then .good else .off }

/-- R16: all 0, all marked unknown, the cycles limit mark clear. -/
def Derived.reset : Derived :=
  { rawB := none, rawM := none, t10B := none, t10M := none, lv10 := none, k25B := none, k25M := none, coc := none,
    cyclesLimit := false }

/-- R16, for a cold reset and a warm restart alike. -/
def Measurement.reset : Measurement :=
  { cb := ChannelRec.reset, tb := ChannelRec.reset, cm := ChannelRec.reset, tm := ChannelRec.reset,
    lv := ChannelRec.reset, derived := Derived.reset, scanClock := none }

/-- R7 at a configuration load. -/
def Measurement.loaded (c : EffConfig) : Measurement :=
  { Measurement.reset with
    cb := ChannelRec.loaded c.enableCb, tb := ChannelRec.loaded c.enableTb, cm := ChannelRec.loaded c.enableCm,
    tm := ChannelRec.loaded c.enableTm, lv := ChannelRec.loaded c.enableLv }

/-- R33, for a cold reset and a warm restart alike; the mode in force before the load is log 11. -/
def Demand.reset : Demand :=
  { mode := .c, dMark := false, dDemand := false, dBase := 0, sMark := false, sDemand := false, sBase := 0, bBase := 0,
    hhTimer := none, hhCondition := false, llTimer := none, llCondition := false, force := false, suppress := false }

/-- R63; amount and effective cap before the load are log 11. -/
def Engine.reset : Engine :=
  { state := .rest, amount := 0, effCap := 0, base := 0, ageing := 0, ageingClock := 0, heldUrgency := 0, phase := none,
    windowExpired := false, holdStart := none, releaseDeferred := false, maxRun := none, reask := false, lock := false,
    grantWait := none, need := false }

/-- R63, the three engines before the load. -/
def Claim.reset : Claim := { discharge := Engine.reset, supply := Engine.reset, biocide := Engine.reset }

/-- R103, for a cold reset and a warm restart alike. -/
def Line.reset : Line :=
  { rxMode := .off, rxChars := [], rxTooLong := false, rxQueue := [], onLine := none, nextSlot := none, seq := 0,
    reportTimer := none, deliveryTimer := none, leavingComposed := false }

/-- R113; feedback present and settled feedback before the first load are log 11. -/
def ValveRec.cold : ValveRec :=
  { commanded := .closed, feedbackPresent := false, settled := .closed, check := .none, timer := none }

/-- R113: command CLOSED and check NONE with the timer stopped; the feedback-present flag stands until the next load
(R105). -/
def ValveRec.restarted (v : ValveRec) : ValveRec :=
  { v with commanded := .closed, check := .none, timer := none }

/-- R113 before any configuration load: the flags and the settled feedback are the model's own (log 11). -/
def Output.cold : Output :=
  { blowdown := ValveRec.cold, makeup := ValveRec.cold, biocidePump := false, inhibitorPulse := none, relay := false }

/-- R113 at a reset or a warm restart of a part that may have loaded: the flags of the last load stand (R105). -/
def Output.restarted (o : Output) : Output :=
  { blowdown := o.blowdown.restarted, makeup := o.makeup.restarted, biocidePump := false, inhibitorPulse := none,
    relay := false }

/-- R113 at a cold reset. At POWER, the supply's first rise (R156), no load has been; at PIN and DIP the flags of the last one
stand (R105). -/
def Output.afterCold (o : Output) : ResetCause → Output
  | .power => Output.cold
  | .pin | .dip => o.restarted

/-- Twelve empty slots (R133). -/
def emptyRing : List Nat := List.replicate 12 0

/-- R133: result NONE, all fields 0. -/
def BalanceRec.reset : BalanceRec :=
  { makeupLitres := 0, blowdownLitres := 0, metered := 0, measured := 0, result := .none }

/-- R133, cold reset; the settled levels before the end of START are log 11. -/
def Feed.cold : Feed :=
  { makeupLevel := false, blowdownLevel := false, makeupRing := emptyRing, blowdownRing := emptyRing,
    slotClock := none, noFlow := none, remainder := 0, owed := 0, backlog := false, strokeClock := none, strokePassed := false, makeupAcc := 0,
    blowdownAcc := 0, balance := BalanceRec.reset, mismatch := false }

/-- R133, warm restart: remainder, owed, backlog mark, accumulators, last balance record and mismatch mark are kept. -/
def Feed.restarted (f : Feed) : Feed :=
  { f with makeupRing := emptyRing, blowdownRing := emptyRing, slotClock := none, noFlow := none, strokeClock := none, strokePassed := false }

/-- R153, cold reset; the interval timer is loaded at the entry to LISTEN (log 14). -/
def Sequencer.cold : Sequencer :=
  { cycle := .idle, interval := none, overdue := none, phase := none, target := 0, abortMark := false }

/-- R152: IDLE and CONTACT keep their state and remaining time; every other state becomes IDLE with the retry delay.
The abort mark and the prebleed target are kept. -/
def Sequencer.restarted (b : Sequencer) : Sequencer :=
  match b.cycle with
  | .idle => { b with overdue := none, phase := none }
  | .contact => { b with interval := none, overdue := none }
  | .due | .prebleed | .closing | .dosing =>
    { b with cycle := .idle, interval := some Config.retryDelay, overdue := none, phase := none }

/-- R181, cold reset. -/
def Stats.cold : Stats :=
  { counters := List.replicate 20 0, histogram := List.replicate 15 0, lastCounter := 0, flags := 0,
    mask := BitVec.allOnes 32, alarms := [] }

/-- R181, warm restart: counters, histogram cells and last counter are kept. -/
def Stats.restarted (t : Stats) : Stats := { t with flags := 0, mask := BitVec.allOnes 32, alarms := [] }

/-- R190: EMPTY, with command code, argument and result 0. -/
def Mailbox.reset : Mailbox := { state := .empty, code := 0, argument := 0, result := .none }

/-- The panel port after any reset: the mailbox EMPTY, the attention line released, nothing to shift out, no CLEAR
COUNTERS half taken. -/
def Port.reset : Port := { mailbox := Mailbox.reset, attention := false, response := [], clearedBy := none }

/-- R157: a POWER reset sets POWER and clears the others; PIN and DIP set their own mark and keep the rest. -/
def CauseMarks.afterCold (m : CauseMarks) : ResetCause → CauseMarks
  | .power => { power := true, pin := false, dip := false, command := false }
  | .pin => { m with pin := true }
  | .dip => { m with dip := true }

/-- No cause recorded. -/
def CauseMarks.clear : CauseMarks := { power := false, pin := false, dip := false, command := false }

/-- Station control as START begins, before the straps are read: not loaded, no fault, nothing in progress, no
attempt yet on the I2C lines (R156, R162, log 11, log 12, log 33). -/
def Station.starting (m : CauseMarks) : Station :=
  { state := .start, number := 0, cfg := EffConfig.zero, loaded := false, fault := .none, listen := none,
    restartPending := false, causes := m, work := .idle, bus := [] }

end Sys2Proof.Machine
end

