-- ==== Sys2Proof/Machine/State.lean ====
section
/-! DEFINITION. The state of the part: every block's record (Machine/Types.lean), the reset cause that holds it, and the
queue of waiting commands. Plain data. Also the ways a step can stop (none does) and the state after reset. -/

namespace Sys2Proof.Machine
open Sys2Proof

/-- Faults of a step. There is none: the manual gives every event an effect, and its own fault states are ordinary
states. A closed type without constructors, so that a claim about faults is about no run at all (safe). -/
inductive Fault where
deriving DecidableEq, Repr

/-- Refusals of a step. -/
inductive Refusal where
  /-- Answered by exec's arm of a command that has no meaning yet; no arm of this model answers it. Safe: the machine
  stops where the hardware goes on. -/
  | notModelled (mnemonic : String)
deriving DecidableEq, Repr

/-- The machine. `now` is the present time in milliseconds and `freeIx` selects the next free value (model's own); `held`
is the cause that holds the part in reset (R156); `pending` is the queue of waiting commands, first in, first out. -/
structure State where
  now : Nat
  freeIx : Nat
  held : Option ResetCause
  station : Station
  meas : Measurement
  demand : Demand
  claim : Claim
  peers : List PeerEntry
  line : Line
  out : Output
  feed : Feed
  bio : Sequencer
  stats : Stats
  port : Port
  pending : List Instr
deriving DecidableEq, Repr

/-- The machine right after a POWER reset: the cold values of every block, START with the straps read as station 1
(DESIGN CHOICE, log 10) and the first configuration attempt in progress (R156 to R159). -/
def State.reset : State :=
  { now := 0, freeIx := 0, held := none,
    station := { Station.starting (CauseMarks.afterCold CauseMarks.clear .power) with number := 1, work := .attempt 1 },
    meas := Measurement.reset, demand := Demand.reset, claim := Claim.reset, peers := [], line := Line.reset,
    out := Output.cold, feed := Feed.cold, bio := Sequencer.cold, stats := Stats.cold, port := Port.reset, pending := [] }

end Sys2Proof.Machine
end

