-- ==== Sys2Proof/Machine/Operands.lean ====
section
/-! DEFINITION. Operand forms: the fields of the configuration image (section 9.3, R160 to R162), the fields of received
frames (section 5.3, R67, R82), and the frames and codes this station sends. -/

namespace Sys2Proof.Machine
open Sys2Proof

/-! ## Codes -/

/-- R67, the codes of the engine states. -/
def EngineState.code : EngineState → Nat
  | .rest => 0
  | .asking => 1
  | .confirming => 2
  | .holding => 3
  | .releasing => 4
  | .stuck => 5
  | .locked => 6

/-- R67: a code of 7 or above is decoded as STUCK. -/
def EngineState.ofCode : Nat → EngineState
  | 0 => .rest
  | 1 => .asking
  | 2 => .confirming
  | 3 => .holding
  | 4 => .releasing
  | 6 => .locked
  | _ => .stuck

/-- Biocide cycle state codes, byte 27 of a REPORT (section 5.3). -/
def Cycle.code : Cycle → Nat
  | .idle => 0
  | .due => 1
  | .prebleed => 2
  | .closing => 3
  | .dosing => 4
  | .contact => 5

/-- Station state codes (R186). -/
def StationState.code : StationState → Nat
  | .start => 0
  | .configFault => 1
  | .listen => 2
  | .run => 3
  | .hold => 4
  | .isolated => 5
  | .quiet => 6

/-- Fault reason codes (R186). -/
def FaultReason.code : FaultReason → Nat
  | .none => 0
  | .noNumber => 1
  | .noAnswer => 2
  | .format => 3
  | .length => 4
  | .crc => 5

/-- Channel state codes (R185). -/
def ChanState.code : ChanState → Nat
  | .good => 0
  | .holding => 1
  | .fault => 2
  | .off => 3

/-- Freshness codes (R185). -/
def Freshness.code : Freshness → Nat
  | .fresh => 0
  | .stale => 1

/-- Balance result codes (R185). -/
def BalanceResult.code : BalanceResult → Nat
  | .none => 0
  | .ok => 1
  | .mismatch => 2
  | .skipped => 3
  | .uncompared => 4

/-- Valve check codes (R187). -/
def Check.code : Check → Nat
  | .none => 0
  | .openCheck => 1
  | .closeCheck => 2
  | .closeWatch => 3

/-- Mailbox state codes (section 11.4). -/
def MailState.code : MailState → Nat
  | .empty => 0
  | .pending => 1
  | .done => 2

/-- Result codes (section 11.4). -/
def MailResult.code : MailResult → Nat
  | .none => 0
  | .ok => 1
  | .notNow => 2
  | .unknown => 3
  | .badArgument => 4

/-- Alarm kind codes, in the order of the table of section 10.5 (R186). -/
def AlarmKind.code : AlarmKind → Nat
  | .highConductivity => 1
  | .lowLevel => 2
  | .probeFault => 3
  | .valveFault => 4
  | .duplicateStation => 5
  | .isolated => 6
  | .balanceMismatch => 7
  | .biocideAborted => 8
  | .configFault => 9

/-- Control mode code, byte 3 of the image (section 9.3). -/
def controlModeCode : ControlMode → Nat
  | .c => 0
  | .k => 1

/-- Edge mode code, byte 30 of the image (section 9.3). -/
def edgeModeCode : EdgeMode → Nat
  | .rising => 0
  | .falling => 1
  | .both => 2

/-! ## The configuration image -/

/-- A numeric field of the image: offset, width in bytes (1 or 2) and range (section 9.3). -/
structure ImageField where
  offset : Nat
  width : Nat
  lo : Nat
  hi : Nat
deriving DecidableEq, Repr

/-- The value the image holds in a field, high byte first. -/
def ImageField.raw (f : ImageField) (b : List Byte) : Nat :=
  if f.width = 1 then nat1At b f.offset else nat2At b f.offset

/-- The field's value after the clamp of R161. -/
def ImageField.value (f : ImageField) (b : List Byte) : Nat := clampNat f.lo f.hi (f.raw b)

/-- Does the clamp of R161 change the field? -/
def ImageField.clamped (f : ImageField) (b : List Byte) : Bool := f.value b != f.raw b

def imgMode : ImageField := ⟨3, 1, 0, 1⟩
def imgFsB : ImageField := ⟨4, 2, 500, 20000⟩
def imgFsM : ImageField := ⟨6, 2, 100, 20000⟩
def imgAlpha : ImageField := ⟨8, 2, 100, 300⟩
def imgSp : ImageField := ⟨10, 2, 100, 20000⟩
def imgDb : ImageField := ⟨12, 2, 10, 2000⟩
def imgHh : ImageField := ⟨14, 2, 100, 20000⟩
def imgCyclesSp : ImageField := ⟨16, 2, 150, 2500⟩
def imgCyclesDb : ImageField := ⟨18, 2, 5, 500⟩
def imgLOn : ImageField := ⟨20, 2, 0, 1000⟩
def imgLOff : ImageField := ⟨22, 2, 0, 1000⟩
def imgLl : ImageField := ⟨24, 2, 0, 1000⟩
def imgKM : ImageField := ⟨26, 2, 1, 1000⟩
def imgKB : ImageField := ⟨28, 2, 1, 1000⟩
def imgDebounce : ImageField := ⟨31, 1, 1, 100⟩
def imgMilli : ImageField := ⟨32, 2, 1, 10000⟩
def imgStrokeInterval : ImageField := ⟨34, 1, 1, 60⟩
def imgBiocideInterval : ImageField := ⟨35, 1, 1, 168⟩
def imgPrebleedDrop : ImageField := ⟨36, 1, 0, 50⟩
def imgPrebleedLimit : ImageField := ⟨38, 2, 60, 3600⟩
def imgDoseTime : ImageField := ⟨40, 2, 10, 3600⟩
def imgContactTime : ImageField := ⟨42, 2, 600, 14400⟩
def imgCapDischarge : ImageField := ⟨44, 2, 10, 5000⟩
def imgCapSupply : ImageField := ⟨46, 2, 10, 10000⟩
def imgCapBiocide : ImageField := ⟨48, 1, 1, 8⟩
def imgUnits : ImageField := ⟨49, 1, 1, 8⟩
def imgAmountDischarge : ImageField := ⟨50, 2, 1, 1000⟩
def imgAmountSupply : ImageField := ⟨52, 2, 1, 2000⟩
def imgMaxRunDischarge : ImageField := ⟨54, 2, 60, 3600⟩
def imgMaxRunSupply : ImageField := ⟨56, 2, 60, 3600⟩
def imgConfirm : ImageField := ⟨58, 1, 2, 60⟩
def imgTolerance : ImageField := ⟨59, 1, 5, 50⟩
def imgBalanceInterval : ImageField := ⟨60, 2, 10, 10000⟩

/-- Every numeric field of the image, in the order of section 9.3. -/
def imageFields : List ImageField :=
  [imgMode, imgFsB, imgFsM, imgAlpha, imgSp, imgDb, imgHh, imgCyclesSp, imgCyclesDb, imgLOn, imgLOff, imgLl] ++
  [imgKM, imgKB, imgDebounce, imgMilli, imgStrokeInterval, imgBiocideInterval, imgPrebleedDrop, imgPrebleedLimit] ++
  [imgDoseTime, imgContactTime, imgCapDischarge, imgCapSupply, imgCapBiocide, imgUnits, imgAmountDischarge] ++
  [imgAmountSupply, imgMaxRunDischarge, imgMaxRunSupply, imgConfirm, imgTolerance, imgBalanceInterval]

/-- The two edge mode codes of byte 30: makeup in bits 1-0, blowdown in bits 3-2 (section 9.3). -/
def edgeCodes (b : List Byte) : Nat × Nat := (nat1At b 30 % 4, nat1At b 30 / 4 % 4)

/-- R161: an edge mode code of 3 becomes 2 (BOTH). -/
def EdgeMode.ofCode : Nat → EdgeMode
  | 0 => .rising
  | 1 => .falling
  | _ => .both

/-- Does any clamp of R161 change a field? Bits marked as ignored are not clamps. -/
def imageOutOfRange (b : List Byte) : Bool :=
  imageFields.any (fun f => f.clamped b) || (edgeCodes b).1 == 3 || (edgeCodes b).2 == 3

/-- The fields after the clamps of R161, before the repairs. -/
def clampedConfig (b : List Byte) : EffConfig :=
  { enableCb := (byteAt b 2).getLsbD 0, enableTb := (byteAt b 2).getLsbD 1, enableCm := (byteAt b 2).getLsbD 2,
    enableTm := (byteAt b 2).getLsbD 3, enableLv := (byteAt b 2).getLsbD 4,
    mode := if imgMode.value b = 0 then .c else .k,
    fsB := imgFsB.value b, fsM := imgFsM.value b, alpha := imgAlpha.value b, sp := imgSp.value b, db := imgDb.value b,
    hh := imgHh.value b, cyclesSp := imgCyclesSp.value b, cyclesDb := imgCyclesDb.value b, lOn := imgLOn.value b,
    lOff := imgLOff.value b, ll := imgLl.value b, kM := imgKM.value b, kB := imgKB.value b,
    edgeMakeup := EdgeMode.ofCode (edgeCodes b).1, edgeBlowdown := EdgeMode.ofCode (edgeCodes b).2,
    debounce := imgDebounce.value b, milliPerLitre := imgMilli.value b, strokeInterval := imgStrokeInterval.value b,
    biocideInterval := imgBiocideInterval.value b, prebleedDrop := imgPrebleedDrop.value b,
    feedbackBlowdown := (byteAt b 37).getLsbD 0, feedbackMakeup := (byteAt b 37).getLsbD 1,
    prebleedLimit := imgPrebleedLimit.value b, doseTime := imgDoseTime.value b, contactTime := imgContactTime.value b,
    capDischarge := imgCapDischarge.value b, capSupply := imgCapSupply.value b, capBiocide := imgCapBiocide.value b,
    amountBiocide := imgUnits.value b, amountDischarge := imgAmountDischarge.value b,
    amountSupply := imgAmountSupply.value b, maxRunDischarge := imgMaxRunDischarge.value b,
    maxRunSupply := imgMaxRunSupply.value b, confirmTime := imgConfirm.value b, tolerance := imgTolerance.value b,
    balanceInterval := imgBalanceInterval.value b }

/-- R162, repair 1: CB is never in OFF. -/
def repairCb (c : EffConfig) : EffConfig := { c with enableCb := true }

/-- R162, repair 2: L_off is greater than L_on. -/
def repairLevelBand (c : EffConfig) : EffConfig :=
  if c.lOff ≤ c.lOn then
    if c.lOn = 1000 then { c with lOn := 999, lOff := 1000 } else { c with lOff := c.lOn + 1 }
  else c

/-- R162, repair 3: DB does not exceed SP. -/
def repairDeadband (c : EffConfig) : EffConfig := if c.sp < c.db then { c with db := c.sp } else c

/-- R35 and R162, repair 4: each amount is at most the own cap of its pool. -/
def repairAmounts (c : EffConfig) : EffConfig :=
  { c with
    amountDischarge := min c.amountDischarge c.capDischarge, amountSupply := min c.amountSupply c.capSupply,
    amountBiocide := min c.amountBiocide c.capBiocide }

/-- The effective configuration of an image (R161, R162, R35). -/
def effectiveConfig (b : List Byte) : EffConfig :=
  repairAmounts (repairDeadband (repairLevelBand (repairCb (clampedConfig b))))

/-- Does the load raise CONFIG CLAMPED: did a clamp, a repair or the clamp of an amount change a value (R35, R161, R162)? -/
def configClampedBy (b : List Byte) : Bool :=
  imageOutOfRange b || effectiveConfig b != clampedConfig b

/-- R160: the first check the image fails, in order: format mark, length, CRC over bytes 0 to 61. -/
def imageFault (b : List Byte) : Option FaultReason :=
  if byteAt b 0 ≠ 0x4B then some .format
  else if byteAt b 1 ≠ 64 then some .length
  else if crcBytes (b.take 62) ≠ (b.drop 62).take 2 then some .crc
  else none

/-- The 60 field bytes of the CONFIG record: the effective values in the field order of the image, ignored bits 0
(R185). A configured time takes the width of its field in the image: it is read as a quantity with a stated range, not as
one of R185's four-byte times (log 15). -/
def configFieldBytes (c : EffConfig) : List Byte :=
  byte1 (bitIf c.enableCb 0 + bitIf c.enableTb 1 + bitIf c.enableCm 2 + bitIf c.enableTm 3 + bitIf c.enableLv 4) ++
  byte1 (controlModeCode c.mode) ++ be16 c.fsB ++ be16 c.fsM ++ be16 c.alpha ++ be16 c.sp ++ be16 c.db ++ be16 c.hh ++
  be16 c.cyclesSp ++ be16 c.cyclesDb ++ be16 c.lOn ++ be16 c.lOff ++ be16 c.ll ++ be16 c.kM ++ be16 c.kB ++
  byte1 (edgeModeCode c.edgeMakeup + 4 * edgeModeCode c.edgeBlowdown) ++ byte1 c.debounce ++ be16 c.milliPerLitre ++
  byte1 c.strokeInterval ++ byte1 c.biocideInterval ++ byte1 c.prebleedDrop ++
  byte1 (bitIf c.feedbackBlowdown 0 + bitIf c.feedbackMakeup 1) ++ be16 c.prebleedLimit ++ be16 c.doseTime ++
  be16 c.contactTime ++ be16 c.capDischarge ++ be16 c.capSupply ++ byte1 c.capBiocide ++ byte1 c.amountBiocide ++
  be16 c.amountDischarge ++ be16 c.amountSupply ++ be16 c.maxRunDischarge ++ be16 c.maxRunSupply ++
  byte1 c.confirmTime ++ byte1 c.tolerance ++ be16 c.balanceInterval

/-! ## Frames -/

/-- The kinds of frame, byte 1 (section 5.3). -/
def FrameKind.code : FrameKind → Byte
  | .report => 1
  | .leaving => 2

/-- What a complete frame is worth (R82): the counter of the first check it fails, or good. -/
inductive FrameVerdict where
  | damaged | foreign | good
deriving DecidableEq, Repr

/-- The checks of R82 in their order on a frame's characters. -/
def frameVerdict (chars : List RxChar) : FrameVerdict :=
  let bytes := chars.map RxChar.byte
  let n := bytes.length
  if chars.any RxChar.framingError || 31 < n then .damaged
  else if n < 4 then .damaged
  else if byteAt bytes 0 ≠ 0xB4 then .damaged
  else if crcBytes ((bytes.take (n - 2)).drop 1) ≠ bytes.drop (n - 2) then .damaged
  else if byteAt bytes 1 ≠ 1 ∧ byteAt bytes 1 ≠ 2 then .foreign
  else if (byteAt bytes 1 = 1 ∧ n ≠ 31) ∨ (byteAt bytes 1 = 2 ∧ n ≠ 7) then .damaged
  else if byteAt bytes 2 = 0 then .foreign
  else .good

/-- Station flags as carried, byte 4; the spare bits are not stored (R65). -/
def StationFlags.ofByte (b : Byte) : StationFlags :=
  { listening := b.getLsbD 0, hold := b.getLsbD 1, isolated := b.getLsbD 2, alarm := b.getLsbD 3,
    capMismatch := b.getLsbD 4, modeK := b.getLsbD 5 }

/-- Station flags as sent, spare bits 0 (section 5.3). -/
def StationFlags.toByte (f : StationFlags) : Byte :=
  BitVec.ofNat 8 (bitIf f.listening 0 + bitIf f.hold 1 + bitIf f.isolated 2 + bitIf f.alarm 3 + bitIf f.capMismatch 4 +
    bitIf f.modeK 5)

/-- Fault summary as carried, byte 28; the spare bits are not stored (R65). -/
def FaultSummary.ofByte (b : Byte) : FaultSummary :=
  { probe := b.getLsbD 0, valve := b.getLsbD 1, balance := b.getLsbD 2, backlog := b.getLsbD 3 }

/-- Fault summary as sent, spare bits 0 (section 5.3). -/
def FaultSummary.toByte (f : FaultSummary) : Byte :=
  BitVec.ofNat 8 (bitIf f.probe 0 + bitIf f.valve 1 + bitIf f.balance 2 + bitIf f.backlog 3)

/-- A pool record at an offset of a REPORT (section 5.3, R67). -/
def PoolRecord.ofBytes (b : List Byte) (at_ : Nat) : PoolRecord :=
  { state := EngineState.ofCode (nat1At b at_), amount := nat2At b (at_ + 1), urgency := nat1At b (at_ + 3),
    cap := nat2At b (at_ + 4) }

/-- The six bytes of a pool record (section 5.3). -/
def PoolRecord.toBytes (r : PoolRecord) : List Byte :=
  byte1 r.state.code ++ be16 r.amount ++ byte1 r.urgency ++ be16 r.cap

/-- An entry made from a REPORT alone (R68): FRESH, age 0, missed count 0, the mismatch mark still to be computed. -/
def PeerEntry.ofReport (b : List Byte) : PeerEntry :=
  { number := nat1At b 2, freshness := .fresh, age := 0, lastSeq := byteAt b 3, missed := 0,
    flags := StationFlags.ofByte (byteAt b 4), discharge := PoolRecord.ofBytes b 5, supply := PoolRecord.ofBytes b 11,
    biocide := PoolRecord.ofBytes b 17, k25B := nat2At b 23, coc := nat2At b 25, cycleCode := nat1At b 27,
    faults := FaultSummary.ofByte (byteAt b 28), mismatch := false }

/-- The pool record an entry carries for a pool. -/
def PeerEntry.pool (e : PeerEntry) : Pool → PoolRecord
  | .discharge => e.discharge
  | .supply => e.supply
  | .biocide => e.biocide

/-- The bytes of a frame on line: sync, kind, source, sequence number, station flags, payload, CRC over all but the
sync (section 5.3, R89, R92). -/
def TxFrame.encode (f : TxFrame) (seq : Byte) : List Byte :=
  let covered := [f.kind.code, f.source, seq, f.flags] ++ f.payload
  0xB4 :: covered ++ crcBytes covered

/-- The commands of section 11.4, by code. -/
inductive PanelCommand where
  | acknowledge | biocideNow | hold | resume | clearCounters | setMask | lineRestart | restart
deriving DecidableEq, Repr

/-- Command codes (section 11.4). -/
def PanelCommand.code : PanelCommand → Byte
  | .acknowledge => 1
  | .biocideNow => 2
  | .hold => 3
  | .resume => 4
  | .clearCounters => 5
  | .setMask => 6
  | .lineRestart => 7
  | .restart => 8

end Sys2Proof.Machine
end

