-- ==== Sys2Proof/Machine/Flags.lean ====
section
/-! DEFINITION. Statistics and events (chapter 10): raising an event, counting, the grant-wait histogram, the latched alarm
list, and the two output lines that follow them. -/

namespace Sys2Proof.Machine
open Sys2Proof

/-- The thirty-two events (section 10.4), in the order of their numbers. -/
inductive Event where
  | probeFault | probeRecovered | highConductivity | lowLevel | cyclesLimit | modeFallback | valveFailOpen | valveStuck
  | valveCleared | yield | withdraw | noFlow | maxRun | peerJoined | peerStale | peerDropped
  | duplicateStation | capMismatch | isolated | reportLost | receiveOverrun | balanceMismatch | balanceSkipped
  | inhibitorBacklog | prebleedShort | biocideAborted | biocideComplete | counterHalf | counterWrap | configClamped
  | mailboxCollision | commandDone
deriving DecidableEq, Repr

/-- The flag's bit: number less 1 (section 10.4). -/
def Event.bit : Event → Nat
  | .probeFault => 0
  | .probeRecovered => 1
  | .highConductivity => 2
  | .lowLevel => 3
  | .cyclesLimit => 4
  | .modeFallback => 5
  | .valveFailOpen => 6
  | .valveStuck => 7
  | .valveCleared => 8
  | .yield => 9
  | .withdraw => 10
  | .noFlow => 11
  | .maxRun => 12
  | .peerJoined => 13
  | .peerStale => 14
  | .peerDropped => 15
  | .duplicateStation => 16
  | .capMismatch => 17
  | .isolated => 18
  | .reportLost => 19
  | .receiveOverrun => 20
  | .balanceMismatch => 21
  | .balanceSkipped => 22
  | .inhibitorBacklog => 23
  | .prebleedShort => 24
  | .biocideAborted => 25
  | .biocideComplete => 26
  | .counterHalf => 27
  | .counterWrap => 28
  | .configClamped => 29
  | .mailboxCollision => 30
  | .commandDone => 31

/-- R176: a raised event sets its flag; a flag already set stays set. -/
def Stats.raise (t : Stats) (e : Event) : Stats := { t with flags := t.flags ||| BitVec.twoPow 32 e.bit }

/-- R176 at the machine. -/
def State.raise (s : State) (e : Event) : State := { s with stats := s.stats.raise e }

/-- Is an event's flag set? -/
def Stats.flag (t : Stats) (e : Event) : Bool := t.flags.getLsbD e.bit

/-- The twenty counters (section 10.1). -/
inductive Counter where
  | makeupLitres | blowdownLitres | inhibitorStrokes | biocideDoses | reportsDelivered | reportsLost | reportsSuperseded
  | framesReceived | framesDamaged | framesForeign | receiveOverruns
  | grants (p : Pool) | yields (p : Pool) | withdrawals (p : Pool)
deriving DecidableEq, Repr

/-- Counter numbers 1..20 (section 10.1). -/
def Counter.number : Counter → Nat
  | .makeupLitres => 1
  | .blowdownLitres => 2
  | .inhibitorStrokes => 3
  | .biocideDoses => 4
  | .reportsDelivered => 5
  | .reportsLost => 6
  | .reportsSuperseded => 7
  | .framesReceived => 8
  | .framesDamaged => 9
  | .framesForeign => 10
  | .receiveOverruns => 11
  | .grants p => 12 + p.index
  | .yields p => 15 + p.index
  | .withdrawals p => 18 + p.index

/-- The value of counter `n`, 1..20. -/
def Stats.counterAt (t : Stats) (n : Nat) : Word32 := t.counters.getD (n - 1) 0

/-- The value of a counter. -/
def Stats.counter (t : Stats) (c : Counter) : Word32 := t.counterAt c.number

/-- The value of a counter in the machine. -/
def State.counter (s : State) (c : Counter) : Word32 := s.stats.counter c

/-- R171 and R172: the counter takes its value plus the amount modulo 2^32; a wrap raises COUNTER WRAP, reaching 2^31
from below raises COUNTER HALF, and either sets the last counter field. -/
def Stats.count (t : Stats) (c : Counter) (amount : Nat) : Stats :=
  let old := (t.counter c).toNat
  let sum := old + amount
  let t1 := { t with counters := t.counters.set (c.number - 1) (BitVec.ofNat 32 sum) }
  if 2 ^ 32 ≤ sum then { t1.raise .counterWrap with lastCounter := c.number }
  else if old < 2 ^ 31 ∧ 2 ^ 31 ≤ sum then { t1.raise .counterHalf with lastCounter := c.number }
  else t1

/-- R171 and R172 at the machine. -/
def State.count (s : State) (c : Counter) (amount : Nat) : State := { s with stats := s.stats.count c amount }

/-- R172: has a counter crossed 2^31 from below, or wrapped, between two values less than 2^31 apart? -/
def crosses (before after : Word32) : Bool :=
  after.toNat < before.toNat || (before.toNat < 2 ^ 31 && 2 ^ 31 ≤ after.toNat)

/-- R172: has this counter crossed between two states of the counters? -/
def Stats.crossed (before after : Stats) (c : Counter) : Bool := crosses (before.counter c) (after.counter c)

/-- Groups of counters whose increments are ordered, each in the order in which its block counts them within an event (R173):
meters and feed, the sequencer, the line interface, and one group for each counter of the claim engine, whose evaluations
of the three pools are not ordered among themselves (R43). -/
def Counter.groups : List (List Counter) :=
  [[.makeupLitres, .blowdownLitres, .inhibitorStrokes], [.biocideDoses],
   [.reportsDelivered, .reportsLost, .framesReceived, .framesDamaged, .framesForeign, .receiveOverruns, .reportsSuperseded],
   [.grants .discharge], [.grants .supply], [.grants .biocide], [.yields .discharge], [.yields .supply],
   [.yields .biocide], [.withdrawals .discharge], [.withdrawals .supply], [.withdrawals .biocide]]

/-- R173: the last counter of a group that crossed. -/
def Stats.lastOf (before after : Stats) (g : List Counter) : Option Counter :=
  (g.filter (fun c => before.crossed after c)).getLast?

/-- R173: the counters that may have made the last crossing of an event, one of each group that has any. -/
def Stats.lastCrossings (before after : Stats) : List Counter := Counter.groups.filterMap (before.lastOf after)

/-- R172, R173: the last counter field at the end of an event that began in `base`. Where counters of several groups crossed
in it, "either may be second": a free value says which is last (log 23). A field that CLEAR COUNTERS has cleared stays 0. -/
def State.nameLast (s base : State) : State :=
  let l := base.stats.lastCrossings s.stats
  if s.stats.lastCounter = 0 ∨ l.length < 2 then s
  else
    { s with freeIx := s.freeIx + 1,
             stats := { s.stats with
               lastCounter := (l.map Counter.number).getD (Config.lastCrossing s.freeIx % l.length) 0 } }

/-- R174: the bucket, 0..4, that holds a grant wait in whole seconds. -/
def waitBucket (seconds : Nat) : Nat :=
  if seconds ≤ 5 then 0 else if seconds ≤ 29 then 1 else if seconds ≤ 119 then 2 else if seconds ≤ 599 then 3 else 4

/-- The cell of a pool and bucket in the list of fifteen. -/
def cellIndex (p : Pool) (bucket : Nat) : Nat := 5 * p.index + bucket

/-- R174: 1 joins the cell whose bucket holds the wait; a cell at 65535 stays there. -/
def Stats.grantWait (t : Stats) (p : Pool) (seconds : Nat) : Stats :=
  let i := cellIndex p (waitBucket seconds)
  { t with histogram := t.histogram.set i (min 65535 (t.histogram.getD i 0 + 1)) }

/-- R174 at the machine. -/
def State.recordWait (s : State) (p : Pool) (seconds : Nat) : State := { s with stats := s.stats.grantWait p seconds }

/-- The entry of a kind in the latched alarm list, if there is one. -/
def alarmEntry (l : List AlarmEntry) (k : AlarmKind) : Option AlarmEntry := l.find? (fun e => e.kind == k)

/-- R178: at an occurrence a kind without an entry joins the tail with both marks set; an entry has both marks set. -/
def latchAlarm (l : List AlarmEntry) (k : AlarmKind) : List AlarmEntry :=
  if l.any (fun e => e.kind == k) then
    l.map (fun e => if e.kind == k then { e with active := true, unack := true } else e)
  else l ++ [{ kind := k, active := true, unack := true }]

/-- R178: a notice that the condition has become inactive clears the active mark and leaves the rest. -/
def calmAlarm (l : List AlarmEntry) (k : AlarmKind) : List AlarmEntry :=
  l.map (fun e => if e.kind == k then { e with active := false } else e)

/-- R179: every entry is acknowledged, and every entry whose active mark is clear is removed. -/
def acknowledgeAlarms (l : List AlarmEntry) : List AlarmEntry :=
  (l.map (fun e => { e with unack := false })).filter (fun e => e.active)

/-- R178 at the machine: an occurrence. -/
def State.occur (s : State) (k : AlarmKind) : State :=
  { s with stats := { s.stats with alarms := latchAlarm s.stats.alarms k } }

/-- R178 at the machine: the condition has become inactive. -/
def State.calm (s : State) (k : AlarmKind) : State :=
  { s with stats := { s.stats with alarms := calmAlarm s.stats.alarms k } }

/-- R180: the alarm condition of the list, at least one entry unacknowledged. -/
def State.alarmCondition (s : State) : Bool := s.stats.alarms.any (fun e => e.unack)

/-- R117, R113, R156: what the alarm relay output shows: the alarm condition, but off in START, in CONFIG FAULT and while
the part is held in reset. -/
def State.relayLevel (s : State) : Bool :=
  s.held.isNone && s.station.state != .start && s.station.state != .configFault && s.alarmCondition

/-- R177, R164, R156: what the attention line shows: asserted while an unmasked flag is set, throughout CONFIG FAULT, and
never while the part is held in reset. -/
def State.attentionLevel (s : State) : Bool :=
  s.held.isNone && (s.station.state == .configFault || (s.stats.flags &&& s.stats.mask) != 0)

/-- The two lines follow the list, the flags and the mask within the event (R117, R177). -/
def State.driveLines (s : State) : State :=
  { s with out := { s.out with relay := s.relayLevel }, port := { s.port with attention := s.attentionLevel } }

end Sys2Proof.Machine
end

