-- ==== Sys2Proof/Machine/Ops.lean ====
section
/-! DEFINITION. Shared operations of the claim engine and the output unit: accessors and views, the pure changes of a pool
engine record, the evaluation's sets and walk, valve commands and valve notices, and need notices. -/

namespace Sys2Proof.Machine
open Sys2Proof

/-! ## Accessors -/

/-- The engine of a pool. -/
def State.engine (s : State) : Pool → Engine
  | .discharge => s.claim.discharge
  | .supply => s.claim.supply
  | .biocide => s.claim.biocide

/-- The state with a pool's engine replaced. -/
def State.setEngine (s : State) (p : Pool) (e : Engine) : State :=
  match p with
  | .discharge => { s with claim := { s.claim with discharge := e } }
  | .supply => { s with claim := { s.claim with supply := e } }
  | .biocide => { s with claim := { s.claim with biocide := e } }

/-- The record of a valve. -/
def State.valve (s : State) : Valve → ValveRec
  | .blowdown => s.out.blowdown
  | .makeup => s.out.makeup

/-- The state with a valve's record replaced. -/
def State.setValve (s : State) (v : Valve) (r : ValveRec) : State :=
  match v with
  | .blowdown => { s with out := { s.out with blowdown := r } }
  | .makeup => { s with out := { s.out with makeup := r } }

/-- The record of a channel. -/
def Measurement.channel (m : Measurement) : Chan → ChannelRec
  | .cb => m.cb
  | .tb => m.tb
  | .cm => m.cm
  | .tm => m.tm
  | .lv => m.lv

/-- The measurement unit with a channel's record replaced. -/
def Measurement.setChannel (m : Measurement) (c : Chan) (r : ChannelRec) : Measurement :=
  match c with
  | .cb => { m with cb := r }
  | .tb => { m with tb := r }
  | .cm => { m with cm := r }
  | .tm => { m with tm := r }
  | .lv => { m with lv := r }

/-- The five station states after START in which the part works (R1, R114, R119, R136). -/
def StationState.working : StationState → Bool
  | .listen | .run | .hold | .isolated | .quiet => true
  | .start | .configFault => false

/-- The four station states in which reports are composed (R90). -/
def StationState.reporting : StationState → Bool
  | .listen | .run | .hold | .isolated => true
  | .start | .configFault | .quiet => false

/-- The station states in which the inhibitor feed runs (R128). -/
def StationState.feedRuns : StationState → Bool
  | .listen | .run | .isolated | .quiet => true
  | .start | .configFault | .hold => false

/-- The station is in RUN. -/
def State.inRun (s : State) : Bool := s.station.state == .run

/-! ## Views -/

/-- R38: the current urgency. -/
def Engine.urgency (e : Engine) : Nat := min 255 (e.base + e.ageing)

/-- R62: the urgency an engine reports and is ranked on: held in CONFIRMING and HOLDING, current otherwise. -/
def Engine.reportedUrgency (e : Engine) : Nat :=
  match e.state with
  | .confirming | .holding => e.heldUrgency
  | .rest | .asking | .releasing | .stuck | .locked => e.urgency

/-- R105: the observed position: the settled feedback, or the command where there is no feedback. -/
def ValveRec.observed (r : ValveRec) : ValvePos := if r.feedbackPresent then r.settled else r.commanded

/-- Section 1.2: a channel is usable in GOOD or HOLDING with a value present. -/
def ChannelRec.usable (r : ChannelRec) : Bool := (r.state == .good || r.state == .holding) && r.present

/-- R5: the probe-fault mark: at least one channel is in FAULT. -/
def Measurement.probeFault (m : Measurement) : Bool :=
  m.cb.state == .fault || m.tb.state == .fault || m.cm.state == .fault || m.tm.state == .fault || m.lv.state == .fault

/-- R59 for one engine: STUCK, LOCKED, or RELEASING with its lock mark. -/
def Engine.valveFault (e : Engine) : Bool :=
  e.state == .stuck || e.state == .locked || (e.state == .releasing && e.lock)

/-- R59: the valve-fault mark of the fault summary and the VALVE FAULT condition. -/
def State.valveFault (s : State) : Bool := s.claim.discharge.valveFault || s.claim.supply.valveFault

/-- R76: the station's cap mismatch mark: the mismatch set is not empty. -/
def State.capMismatch (s : State) : Bool := s.peers.any (fun e => e.mismatch)

/-- The entry of a station number, if its slot holds one (R65). -/
def State.peerAt (s : State) (n : Nat) : Option PeerEntry := s.peers.find? (fun e => e.number == n)

/-- R62: a committed engine state. -/
def EngineState.committed : EngineState → Bool
  | .confirming | .holding | .releasing | .stuck => true
  | .rest | .asking | .locked => false

/-! ## Changes of an engine record -/

/-- The fields that belong to waiting and holding, cleared on leaving HOLDING (R47, R49, R50, R56, R61; log 12). -/
def Engine.endHold (e : Engine) : Engine := { e with holdStart := none, maxRun := none, releaseDeferred := false }

/-- R38: ageing and the ageing clock set to 0. -/
def Engine.noAgeing (e : Engine) : Engine := { e with ageing := 0, ageingClock := 0 }

/-- Arrival in REST: no ageing (R38), no phase timer, no window mark, no re-ask or lock mark (R40, R48, R53, R55). -/
def Engine.toRest (e : Engine) : Engine :=
  { e.noAgeing with state := .rest, phase := none, windowExpired := false, reask := false, lock := false }

/-- Entry to ASKING with the ageing as it stands (R40, R53): a new ask window, the mark clear, the wait from now. -/
def Engine.toAsking (e : Engine) (now : Nat) : Engine :=
  { e with state := .asking, phase := some 0, windowExpired := false, reask := false, grantWait := some now }

/-- R44: entry to CONFIRMING: the held urgency is fixed (R39) and the confirm period starts. -/
def Engine.toConfirming (e : Engine) : Engine :=
  { e with state := .confirming, windowExpired := false, heldUrgency := e.urgency, phase := some 0 }

/-- R45: a withdraw to ASKING with a new ask window; ageing, ageing clock and grant-wait start are kept. -/
def Engine.withdrawn (e : Engine) : Engine :=
  { e with state := .asking, phase := some 0, windowExpired := false }

/-- R46: entry to HOLDING; the max-run timer of a valve pool starts. -/
def Engine.granted (e : Engine) (now : Nat) (hasValve : Bool) : Engine :=
  { e with state := .holding, phase := none, holdStart := some now, releaseDeferred := false,
           maxRun := if hasValve then some 0 else none }

/-- Entry to RELEASING (R51): the marks as the cause gives them; only a yield keeps the ageing (R38). -/
def Engine.toReleasing (e : Engine) (reask lock keepAgeing : Bool) : Engine :=
  { (if keepAgeing then e.endHold else e.endHold.noAgeing) with
    state := .releasing, phase := none, reask := reask, lock := lock }

/-- R54: entry to STUCK from RELEASING: the lock and re-ask marks are cleared; a yield's ageing stands until REST (R38). -/
def Engine.toStuck (e : Engine) : Engine := { e with state := .stuck, reask := false, lock := false }

/-- R57: entry to STUCK from an unbidden opening: phase timer, marks and ageing are cleared. -/
def Engine.toStuckUnbidden (e : Engine) : Engine := { e.toStuck.noAgeing with phase := none, windowExpired := false }

/-- R53, first way: LOCKED. -/
def Engine.toLocked (e : Engine) : Engine := { e.noAgeing with state := .locked, lock := false, reask := false }

/-! ## Arrival in REST and entry to ASKING -/

/-- R40 on an engine that stands in REST: it enters ASKING if its ask condition holds (R37). -/
def State.askFromRest (s : State) (p : Pool) : State :=
  let e := s.engine p
  if e.state == .rest && s.inRun && e.need then s.setEngine p (e.noAgeing.toAsking s.now) else s

/-- An engine arrives in REST, where R40 applies within the same event. -/
def State.arriveRest (s : State) (p : Pool) : State := (s.setEngine p (s.engine p).toRest).askFromRest p

/-! ## Valve notices and commands (R53 to R57, R106 to R112) -/

/-- R52: the re-ask mark at the end of RELEASING, where it stands for whether the engine still has a need; without one, R37
lets no engine enter ASKING (log 28). -/
def Engine.standingReask (e : Engine) : Bool := e.reask && e.need

/-- The closed notice: ends RELEASING in LOCKED, ASKING or REST, in the first of R53's three ways that applies, and STUCK in
REST with VALVE CLEARED (R55). -/
def State.closedNotice (s : State) (v : Valve) : State :=
  let p := v.pool
  let e := s.engine p
  match e.state with
  | .releasing =>
    if e.lock then s.setEngine p e.toLocked
    else if e.standingReask && s.inRun then s.setEngine p (e.toAsking s.now)
    else s.arriveRest p
  | .stuck => (s.raise .valveCleared).arriveRest p
  | .rest | .asking | .confirming | .holding | .locked => s

/-- R59, R178: the VALVE FAULT occurrence of an entry to STUCK. Where the DISCHARGE engine's entry aborts the cycle in
CLOSING within the same event (R145), the abort's occurrence stands in no order to it: a free value says which alarm
joins the list first (log 9). An occurrence before the abort's own changes nothing else. -/
def State.stuckAlarms (s : State) (p : Pool) : State :=
  if p == .discharge && s.bio.cycle == .closing then
    let s1 := { s with freeIx := s.freeIx + 1 }
    if Config.abortAlarmFirst s.freeIx then (s1.occur .biocideAborted).occur .valveFault else s1.occur .valveFault
  else s.occur .valveFault

/-- Entry to STUCK, the engine's record as its cause leaves it, with the event and the alarm occurrence (R54, R57, R59). -/
def State.enterStuck (s : State) (p : Pool) (e : Engine) : State :=
  ((s.setEngine p e).raise .valveStuck).stuckAlarms p

/-- The close-failed notice (R54): acts on an engine in RELEASING. -/
def State.closeFailedNotice (s : State) (v : Valve) : State :=
  if (s.engine v.pool).state == .releasing then s.enterStuck v.pool (s.engine v.pool).toStuck else s

/-- The unbidden-open notice (R57): acts on an engine in REST, ASKING, CONFIRMING or LOCKED. -/
def State.unbiddenOpenNotice (s : State) (v : Valve) : State :=
  match (s.engine v.pool).state with
  | .rest | .asking | .confirming | .locked => s.enterStuck v.pool (s.engine v.pool).toStuckUnbidden
  | .holding | .releasing | .stuck => s

/-- A close command (R106, R109): the check starts, and a valve with feedback that is seen closed gives the closed
notice within the event. -/
def State.closeCommand (s : State) (v : Valve) : State :=
  let r := s.valve v
  if r.feedbackPresent && r.settled == .closed then
    (s.setValve v { r with commanded := .closed, check := .none, timer := none }).closedNotice v
  else s.setValve v { r with commanded := .closed, check := .closeCheck, timer := some 0 }

/-- An open command (R106, R107): the check starts, and passes at once if the valve is seen open. -/
def State.openCommand (s : State) (v : Valve) : State :=
  let r := { s.valve v with commanded := .opened }
  if r.observed == .opened then s.setValve v { r with check := .none, timer := none }
  else s.setValve v { r with check := .openCheck, timer := some 0 }

/-- R125: the no-flow watch follows the DISCHARGE engine: it starts at its entry to HOLDING. -/
def State.startNoFlow (s : State) (v : Valve) : State :=
  match v with
  | .blowdown => { s with feed := { s.feed with noFlow := some { holdTime := 0, raised := false, tested := false } } }
  | .makeup => s

/-- R125: the watch ends when the DISCHARGE engine leaves HOLDING. -/
def State.endNoFlow (s : State) (v : Valve) : State :=
  match v with
  | .blowdown => { s with feed := { s.feed with noFlow := none } }
  | .makeup => s

/-- A valve engine leaves HOLDING for RELEASING (R51): the record changes, the watch ends, the valve is commanded
closed. -/
def State.release (s : State) (v : Valve) (reask lock keepAgeing : Bool) : State :=
  ((s.setEngine v.pool ((s.engine v.pool).toReleasing reask lock keepAgeing)).endNoFlow v).closeCommand v

/-- The open-failed notice (R56): acts on an engine in HOLDING. -/
def State.openFailedNotice (s : State) (v : Valve) : State :=
  if (s.engine v.pool).state == .holding then
    ((s.release v false true false).raise .valveFailOpen).occur .valveFault
  else s

/-! ## Need notices (R37, R48, R49, R52, R60) -/

/-- The engine goes from ASKING or CONFIRMING to REST (R48, R61): the wait for a grant is over. -/
def State.giveUpWaiting (s : State) (p : Pool) : State :=
  (s.setEngine p { s.engine p with grantWait := none }).arriveRest p

/-- The need of an engine turns true. -/
def State.needRises (s : State) (p : Pool) : State :=
  let e := s.engine p
  match e.state with
  | .rest => s.askFromRest p
  | .holding => s.setEngine p { e with releaseDeferred := false }
  | .releasing => s.setEngine p { e with reask := !e.lock }
  | .asking | .confirming | .stuck | .locked => s

/-- R49: has the minimum run passed since the hold start? -/
def State.minimumRunOver (s : State) (e : Engine) : Bool :=
  match e.holdStart with
  | some t => Config.minimumRun ≤ s.now - t
  | none => true

/-- The need of an engine turns false. In HOLDING the BIOCIDE engine changes nothing but its need (R60). -/
def State.needFalls (s : State) (p : Pool) : State :=
  let e := s.engine p
  match e.state with
  | .asking | .confirming => s.giveUpWaiting p
  | .holding =>
    match p.valve with
    | some v => if s.minimumRunOver e then s.release v false false false else s.setEngine p { e with releaseDeferred := true }
    | none => s
  | .releasing => s.setEngine p { e with reask := false }
  | .rest | .stuck | .locked => s

/-- A need notice with the base it carries (R32, R37): the fields are set, and a change of need acts. -/
def State.needNotice (s : State) (p : Pool) (need : Bool) (base : Nat) : State :=
  let e := s.engine p
  let s1 := s.setEngine p { e with need := need, base := base }
  if need && !e.need then s1.needRises p
  else if !need && e.need then s1.needFalls p
  else s1

/-! ## The evaluation (R41, R42) -/

/-- A member of a set: its amount, the urgency it is ranked on and its station number. -/
structure Member where
  amount : Nat
  urgency : Nat
  station : Nat
deriving DecidableEq, Repr

/-- The member a peer is in a pool's sets. -/
def PeerEntry.member (e : PeerEntry) (p : Pool) : Member :=
  { amount := (e.pool p).amount, urgency := (e.pool p).urgency, station := e.number }

/-- R41: does a peer belong to U, the unconditional claims? -/
def PeerEntry.inU (e : PeerEntry) (p : Pool) : Bool :=
  match e.freshness, (e.pool p).state with
  | .stale, .confirming | .stale, .holding | .stale, .releasing | .stale, .stuck => true
  | .fresh, .releasing | .fresh, .stuck => true
  | _, _ => false

/-- R41: does a FRESH peer's pool record show the given state? -/
def PeerEntry.freshIn (e : PeerEntry) (p : Pool) (st : EngineState) : Bool :=
  e.freshness == .fresh && (e.pool p).state == st

/-- R41: the sum of the amounts of U. -/
def State.sumU (s : State) (p : Pool) : Nat :=
  ((s.peers.filter (fun e => e.inU p)).map (fun e => (e.pool p).amount)).sum

/-- This station as a member: the held urgency in CONFIRMING and HOLDING, the current urgency otherwise (R41). -/
def State.ownMember (s : State) (p : Pool) : Member :=
  { amount := (s.engine p).amount, urgency := (s.engine p).reportedUrgency, station := s.station.number }

/-- R41: E, P or Q: the FRESH peers whose record shows the state, and this station if its engine is in it. -/
def State.members (s : State) (p : Pool) (st : EngineState) : List Member :=
  (if (s.engine p).state == st then [s.ownMember p] else []) ++
  (s.peers.filter (fun e => e.freshIn p st)).map (fun e => e.member p)

/-- The sum of a set's amounts (R41). -/
def sumAmounts (l : List Member) : Nat := (l.map Member.amount).sum

/-- Ranked before or level: higher urgency, or equal urgency and lower or equal station number (00_scope.md,
"Ranking"). -/
def Member.before (a b : Member) : Bool := b.urgency < a.urgency || (a.urgency == b.urgency && a.station ≤ b.station)

/-- Insertion into a ranked list. -/
def insertRanked (m : Member) : List Member → List Member
  | [] => [m]
  | x :: rest => if m.before x then m :: x :: rest else x :: insertRanked m rest

/-- A set in rank order. -/
def ranked : List Member → List Member
  | [] => []
  | m :: rest => insertRanked m (ranked rest)

/-- R42: the walk: does it reach the given station and subtract its amount? No overtaking: it stops at the first member
whose amount exceeds the remaining headroom. -/
def walkFits (headroom : Int) (station : Nat) : List Member → Bool
  | [] => false
  | m :: rest =>
    if (m.amount : Int) ≤ headroom then
      m.station == station || walkFits (headroom - m.amount) station rest
    else false

/-- Does this station fit in the walk over one of its sets against a headroom (R42)? -/
def State.fitsIn (s : State) (p : Pool) (st : EngineState) (headroom : Int) : Bool :=
  walkFits headroom s.station.number (ranked (s.members p st))

/-- R44: the headroom of an engine in ASKING. -/
def State.headroomAsking (s : State) (p : Pool) : Int :=
  (s.engine p).effCap - (s.sumU p : Int) - sumAmounts (s.members p .holding) - sumAmounts (s.members p .confirming)

/-- R45: the headroom of an engine in CONFIRMING. -/
def State.headroomConfirming (s : State) (p : Pool) : Int :=
  (s.engine p).effCap - (s.sumU p : Int) - sumAmounts (s.members p .holding)

/-- R47: the headroom of an engine in HOLDING. -/
def State.headroomHolding (s : State) (p : Pool) : Int := (s.engine p).effCap - (s.sumU p : Int)

/-- Does this station fit at its engine's evaluation (R44, R45, R47)? States that are not evaluated do not fit. -/
def State.fits (s : State) (p : Pool) : Bool :=
  match (s.engine p).state with
  | .asking => s.fitsIn p .asking (s.headroomAsking p)
  | .confirming => s.fitsIn p .confirming (s.headroomConfirming p)
  | .holding => s.fitsIn p .holding (s.headroomHolding p)
  | .rest | .releasing | .stuck | .locked => false

/-- R36: the effective cap: the smallest of the own cap and the caps FRESH peers carry. -/
def State.effectiveCap (s : State) (p : Pool) : Nat :=
  (s.peers.filter (fun e => e.freshness == .fresh)).foldl (fun c e => min c (e.pool p).cap) (s.station.cfg.cap p)

/-- R36: the three effective caps are recomputed. -/
def State.recomputeCaps (s : State) : State :=
  { s with claim :=
    { discharge := { s.claim.discharge with effCap := s.effectiveCap .discharge },
      supply := { s.claim.supply with effCap := s.effectiveCap .supply },
      biocide := { s.claim.biocide with effCap := s.effectiveCap .biocide } } }

end Sys2Proof.Machine
end

