-- ==== Sys2Proof/Machine/Measure.lean ====
section
/-! DEFINITION. The measurement unit (chapter 1): codes into channel records, the derived set, the scan. -/

namespace Sys2Proof.Machine
open Sys2Proof

/-! ## Codes (R2 to R6) -/

/-- A rail code: 0 or 4095 (section 1.1). -/
def railCode (code : Nat) : Bool := code == 0 || code == 4095

/-- R4: the window after a good code has joined it: at most the last four. -/
def joinWindow (w : List Nat) (code : Nat) : List Nat := (w ++ [code]).drop (w.length + 1 - Config.windowSize)

/-- R4: the averaged code of a window that is not empty. -/
def windowMean (w : List Nat) : Nat := roundDiv w.sum w.length

/-- R2, R3: a good code taken in GOOD or HOLDING. -/
def ChannelRec.joinGood (r : ChannelRec) (code : Nat) : ChannelRec :=
  let w := joinWindow r.window code
  { r with state := .good, window := w, averaged := windowMean w, present := true, holdTimer := 0 }

/-- R6: the recovering code becomes the window's single member. -/
def ChannelRec.recovered (r : ChannelRec) (code : Nat) : ChannelRec :=
  { r with state := .good, window := [code], averaged := code, present := true, recovery := 0 }

/-- One code applied to a channel record (section 1.2, R2, R3, R6, R7). -/
def ChannelRec.take (r : ChannelRec) (code : Nat) : ChannelRec :=
  match r.state with
  | .good => if railCode code then { r with state := .holding, holdTimer := 0 } else r.joinGood code
  | .holding => if railCode code then r else r.joinGood code
  | .fault =>
    if railCode code then { r with recovery := 0 }
    else if Config.recoveryCodes ≤ r.recovery + 1 then r.recovered code
    else { r with recovery := r.recovery + 1 }
  | .off => r

/-- The code of a scan for a channel. -/
def scanCode (k : Codes) : Chan → Nat
  | .cb => k.cb.toNat
  | .tb => k.tb.toNat
  | .cm => k.cm.toNat
  | .tm => k.tm.toNat
  | .lv => k.lv.toNat

/-- R6, steps 4 and 5, when a channel has just left FAULT. -/
def State.probeRecovered (s : State) : State :=
  let s1 := s.raise .probeRecovered
  if s1.meas.probeFault then s1 else s1.calm .probeFault

/-- One channel of the scan: its code applied, and a recovery reported. -/
def State.scanChannel (s : State) (k : Codes) (c : Chan) : State :=
  let r := s.meas.channel c
  let r1 := r.take (scanCode k c)
  let s1 := { s with meas := s.meas.setChannel c r1 }
  if r.state == .fault && r1.state == .good then s1.probeRecovered else s1

/-! ## Conversions (R8 to R14) -/

/-- R8: uncompensated conductivity. -/
def conductivity (fullScale code : Nat) : Nat := roundDiv (code * fullScale) 4095

/-- R9: a temperature in tenths of a degree. -/
def temperature (code : Nat) : Nat := roundDiv (code * 600) 4095

/-- R9: a level in tenths of a percent. -/
def level (code : Nat) : Nat := roundDiv (code * 1000) 4095

/-- R10: the compensation divisor; the products stay above 0 for every value in range. -/
def divisor (alpha t10 : Nat) : Nat := 100000 + alpha * t10 - alpha * 250

/-- R10: a conductivity at 25 degrees, clamped to 0..20000. -/
def compensate (alpha raw t10 : Nat) : Nat := min 20000 (roundDiv (raw * 100000) (divisor alpha t10))

/-- R12: cycles of concentration in hundredths. -/
def cycles (k25B k25M : Nat) : Nat := if k25M < 20 then 2500 else clampNat 100 2500 (roundDiv (k25B * 100) k25M)

/-- The averaged code of a usable channel, none if the channel is not usable. -/
def ChannelRec.reading (r : ChannelRec) : Option Nat := if r.usable then some r.averaged else none

/-- R15: the derived set of five channel records. -/
def Measurement.derive (m : Measurement) (c : EffConfig) : Derived :=
  let rawB := m.cb.reading.map (conductivity c.fsB)
  let rawM := m.cm.reading.map (conductivity c.fsM)
  let t10B := m.tb.reading.map temperature
  let t10M := m.tm.reading.map temperature
  let tempB := t10B.getD 250
  let tempM := t10M.getD tempB
  let k25B := rawB.map (fun r => compensate c.alpha r tempB)
  let k25M := rawM.map (fun r => compensate c.alpha r tempM)
  let known := k25B.isSome && k25M.isSome
  { rawB := rawB, rawM := rawM, t10B := t10B, t10M := t10M, lv10 := m.lv.reading.map level, k25B := k25B, k25M := k25M,
    coc := if known then some (cycles (k25B.getD 0) (k25M.getD 0)) else none,
    cyclesLimit := known && k25M.getD 0 < 20 }

/-- R14, R15: the derived set is replaced whole, and CYCLES LIMIT is raised when its mark becomes set. -/
def State.replaceDerived (s : State) : State :=
  let d := s.meas.derive s.station.cfg
  let s1 := { s with meas := { s.meas with derived := d } }
  if d.cyclesLimit && !s.meas.derived.cyclesLimit then s1.raise .cyclesLimit else s1

/-- R1, R15: the five codes in order, then the derived set; the scan clock starts again. -/
def State.takeScan (s : State) (k : Codes) : State :=
  let s1 := ((((s.scanChannel k .cb).scanChannel k .tb).scanChannel k .cm).scanChannel k .tm).scanChannel k .lv
  let s2 := s1.replaceDerived
  { s2 with meas := { s2.meas with scanClock := some 0 } }

/-- R5: a channel enters FAULT. -/
def State.probeFails (s : State) (c : Chan) : State :=
  let r := s.meas.channel c
  let s1 := { s with meas := s.meas.setChannel c { r with state := .fault, recovery := 0, holdTimer := 0 } }
  (s1.raise .probeFault).occur .probeFault

end Sys2Proof.Machine
end

