-- ==== Sys2Proof/Machine/Demand.lean ====
section
/-! DEFINITION. The demand unit (chapter 2): mode in force, hysteresis marks, the layered demands and bases, the alarm
timers, and the demand notices to the claim engine. -/

namespace Sys2Proof.Machine
open Sys2Proof

/-! ## DISCHARGE (R20 to R27) -/

/-- R20: the mode in force after a scan. -/
def modeInForce (c : EffConfig) (d : Derived) : ControlMode :=
  match c.mode with
  | .c => .c
  | .k => if d.coc.isSome then .k else .c

/-- R21: the measured value X of a mode; read only where it is known. -/
def controlled (mode : ControlMode) (d : Derived) : Nat :=
  match mode with
  | .c => d.k25B.getD 0
  | .k => d.coc.getD 0

/-- R21: the setpoint S of a mode. -/
def setpoint (c : EffConfig) : ControlMode → Nat
  | .c => c.sp
  | .k => c.cyclesSp

/-- R22: the deadband W of a mode. -/
def deadband (c : EffConfig) : ControlMode → Nat
  | .c => c.db
  | .k => c.cyclesDb

/-- R21: the off threshold F of a mode; in mode K never below 100. -/
def offThreshold (c : EffConfig) : ControlMode → Nat
  | .c => c.sp - c.db
  | .k => max 100 (c.cyclesSp - c.cyclesDb)

/-- R24: is the basin conductivity known and at or above HH? -/
def aboveHh (c : EffConfig) (d : Derived) : Bool :=
  match d.k25B with
  | some k => c.hh ≤ k
  | none => false

/-- R21, R23, R24: the DISCHARGE hysteresis mark after a scan. -/
def dischargeMark (c : EffConfig) (d : Derived) (mode : ControlMode) (mark : Bool) : Bool :=
  if d.k25B.isNone then false
  else if aboveHh c d then true
  else if setpoint c mode ≤ controlled mode d then true
  else if controlled mode d ≤ offThreshold c mode then false
  else mark

/-- R22: the formula base. -/
def formulaBase (c : EffConfig) (d : Derived) (mode : ControlMode) : Nat :=
  min 200 (roundDiv (100 * (controlled mode d + deadband c mode - setpoint c mode)) (deadband c mode))

/-- The DISCHARGE demand and base: the first line of the table of section 2.3 that holds. -/
def dischargeDemand (c : EffConfig) (d : Derived) (q : Demand) : Bool × Nat :=
  if q.suppress then (false, 0)
  else if q.force then
    (true, if aboveHh c d then 255 else max 120 (if d.k25B.isSome then formulaBase c d q.mode else 0))
  else if d.k25B.isNone then (false, 0)
  else if aboveHh c d then (true, 255)
  else if q.dMark then (true, formulaBase c d q.mode)
  else (false, 0)

/-! ## SUPPLY (R28, R29) -/

/-- R29: is the level known and at or below LL? -/
def belowLl (c : EffConfig) (d : Derived) : Bool :=
  match d.lv10 with
  | some l => l ≤ c.ll
  | none => false

/-- R28, R29: the SUPPLY hysteresis mark after a scan. -/
def supplyMark (c : EffConfig) (d : Derived) (mark : Bool) : Bool :=
  match d.lv10 with
  | none => false
  | some l => if l ≤ c.ll then true else if l ≤ c.lOn then true else if c.lOff ≤ l then false else mark

/-- R28: the SUPPLY formula base. -/
def supplyBase (c : EffConfig) (l : Nat) : Nat := min 200 (roundDiv (100 * (c.lOff - l)) (c.lOff - c.lOn))

/-- The SUPPLY demand and base: the first line of the table of section 2.6 that holds. -/
def supplyDemand (c : EffConfig) (d : Derived) (q : Demand) : Bool × Nat :=
  match d.lv10 with
  | none => (false, 0)
  | some l => if l ≤ c.ll then (true, 255) else if q.sMark then (true, supplyBase c l) else (false, 0)

/-! ## BIOCIDE (R31) -/

/-- R31: the BIOCIDE base. -/
def biocideBase (b : Sequencer) : Nat :=
  match b.cycle with
  | .due | .prebleed | .closing | .dosing => 100 + min 100 (roundDiv (b.overdue.getD 0) 60000)
  | .idle | .contact => 0

/-! ## Notices (R32) -/

/-- DISCHARGE is recomputed from the most recent scan; a change is handed on (R19, R32). -/
def State.recomputeDischarge (s : State) : State :=
  let r := dischargeDemand s.station.cfg s.meas.derived s.demand
  if r.1 == s.demand.dDemand && r.2 == s.demand.dBase then s
  else { s with demand := { s.demand with dDemand := r.1, dBase := r.2 } }.needNotice .discharge r.1 r.2

/-- SUPPLY is recomputed; a change is handed on (R19, R32). -/
def State.recomputeSupply (s : State) : State :=
  let r := supplyDemand s.station.cfg s.meas.derived s.demand
  if r.1 == s.demand.sDemand && r.2 == s.demand.sBase then s
  else { s with demand := { s.demand with sDemand := r.1, sBase := r.2 } }.needNotice .supply r.1 r.2

/-- The BIOCIDE base is recomputed and handed on; it leaves the engine's need as it is (R31, R32). -/
def State.recomputeBiocide (s : State) : State :=
  let base := biocideBase s.bio
  { s with demand := { s.demand with bBase := base } }.needNotice .biocide (s.engine .biocide).need base

/-! ## The scan-complete notice (R19) -/

/-- R25, R30: a timer that measures an unbroken run: it starts at 0, runs on, or stops. -/
def runTimer (holds : Bool) (t : Option Nat) : Option Nat := if holds then some (t.getD 0) else none

/-- The demand unit's own fields after a scan, before the demands (R20, R21, R24, R25, R28 to R30). -/
def Demand.scanned (q : Demand) (c : EffConfig) (d : Derived) : Demand :=
  let mode := modeInForce c d
  { q with
    mode := mode, dMark := dischargeMark c d mode q.dMark, sMark := supplyMark c d q.sMark,
    hhTimer := runTimer (aboveHh c d) q.hhTimer, hhCondition := q.hhCondition && aboveHh c d,
    llTimer := runTimer (belowLl c d) q.llTimer, llCondition := q.llCondition && belowLl c d }

/-- R25, R30: a condition that a scan has ended is told to the alarm list. -/
def State.calmEnded (s : State) (before : Demand) : State :=
  let s1 := if before.hhCondition && !s.demand.hhCondition then s.calm .highConductivity else s
  if before.llCondition && !s1.demand.llCondition then s1.calm .lowLevel else s1

/-- R19, R20: the demand unit's whole recomputation at a scan-complete notice. -/
def State.scanDemand (s : State) : State :=
  let q := s.demand
  let s1 := { s with demand := q.scanned s.station.cfg s.meas.derived }
  let s2 := if q.mode == .k && s1.demand.mode == .c then s1.raise .modeFallback else s1
  (((s2.calmEnded q).recomputeDischarge).recomputeSupply).recomputeBiocide

/-- R26, R27: the requests change together, and DISCHARGE is recomputed at once. -/
def State.request (s : State) (force suppress : Bool) : State :=
  { s with demand := { s.demand with force := force, suppress := suppress } }.recomputeDischarge

/-- R25: the HH timer has run out. -/
def State.hhExpires (s : State) : State :=
  ({ s with demand := { s.demand with hhCondition := true } }.raise .highConductivity).occur .highConductivity

/-- R30: the LL timer has run out. -/
def State.llExpires (s : State) : State :=
  ({ s with demand := { s.demand with llCondition := true } }.raise .lowLevel).occur .lowLevel

end Sys2Proof.Machine
end

