-- ==== Sys2Proof/Machine/LineOps.lean ====
section
/-! DEFINITION. The transmit path of the line interface (chapter 5): the snapshot of a REPORT, the two slots, composition,
loss and delivery; the echo check of an attempt; and the reports an event composes at its end. -/

namespace Sys2Proof.Machine
open Sys2Proof

/-! ## The snapshot (R86 to R88) -/

/-- R87: the station flags as they stand. -/
def State.stationFlags (s : State) : StationFlags :=
  { listening := s.station.state == .listen, hold := s.station.state == .hold,
    isolated := s.station.state == .isolated, alarm := s.alarmCondition, capMismatch := s.capMismatch,
    modeK := s.demand.mode == .k }

/-- R87: the fault summary as it stands. -/
def State.faultSummary (s : State) : FaultSummary :=
  { probe := s.meas.probeFault, valve := s.valveFault, balance := s.feed.mismatch, backlog := s.feed.backlog }

/-- R62: the pool record handed to the line. -/
def State.poolRecord (s : State) (p : Pool) : PoolRecord :=
  { state := (s.engine p).state, amount := (s.engine p).amount, urgency := (s.engine p).reportedUrgency,
    cap := s.station.cfg.cap p }

/-- R86: bytes 5 to 28 of a REPORT. -/
def State.reportPayload (s : State) : List Byte :=
  (s.poolRecord .discharge).toBytes ++ (s.poolRecord .supply).toBytes ++ (s.poolRecord .biocide).toBytes ++
  be16 (s.meas.derived.k25B.getD 0) ++ be16 (s.meas.derived.coc.getD 0) ++ byte1 s.bio.cycle.code ++
  [s.faultSummary.toByte]

/-- R86: the REPORT of this moment. -/
def State.reportFrame (s : State) : TxFrame :=
  { kind := .report, source := BitVec.ofNat 8 s.station.number, flags := s.stationFlags.toByte,
    payload := s.reportPayload }

/-- R88: the LEAVING of this moment. -/
def State.leavingFrame (s : State) : TxFrame :=
  { kind := .leaving, source := BitVec.ofNat 8 s.station.number, flags := s.stationFlags.toByte, payload := [] }

/-! ## The two slots (R91, R92, R95 to R98) -/

/-- R92: the frame in next moves on line when the on-line slot is empty. -/
def Line.moveUp (l : Line) : Line :=
  match l.onLine, l.nextSlot with
  | none, some f =>
    { l with onLine := some { frame := f, bytes := f.encode l.seq, failures := 0, sending := false }, nextSlot := none }
  | _, _ => l

/-- R92 at the machine. -/
def State.moveUp (s : State) : State := { s with line := s.line.moveUp }

/-- R91: a composed frame goes into next, over the REPORT that waits there, and on line if the slot is empty. -/
def State.placeFrame (s : State) (f : TxFrame) : State :=
  let s1 := if s.line.nextSlot.isSome then s.count .reportsSuperseded 1 else s
  { s1 with line := { s1.line with nextSlot := some f } }.moveUp

/-- R90: are REPORTs composed at all in this state? -/
def State.composes (s : State) : Bool := s.station.state.reporting && !s.line.leavingComposed

/-- R90: a REPORT is composed, where the station state and an earlier LEAVING allow it. -/
def State.composeReport (s : State) : State := if s.composes then s.placeFrame s.reportFrame else s

/-- R90: the REPORTs of `n` triggers that fall in one event, one for each. -/
def State.composeReports (s : State) : Nat → State
  | 0 => s
  | n + 1 => s.composeReport.composeReports n

/-- R88: a LEAVING is composed. -/
def State.composeLeaving (s : State) : State :=
  { s.placeFrame s.leavingFrame with line := { (s.placeFrame s.leavingFrame).line with leavingComposed := true } }

/-- R95: a frame in next takes the place of the on-line frame, with its number and its failures count. -/
def OnLine.supersede (o : OnLine) (f : TxFrame) (seq : Byte) (failures : Nat) : OnLine :=
  { o with frame := f, bytes := f.encode seq, failures := failures, sending := false }

/-- R95: a retry becomes due after a failure that leaves the count below 8. -/
def State.retry (s : State) (o : OnLine) (failures : Nat) : State :=
  match s.line.nextSlot with
  | some f =>
    let s1 := s.count .reportsSuperseded 1
    { s1 with line := { s1.line with onLine := some (o.supersede f s1.line.seq failures), nextSlot := none } }
  | none => { s with line := { s.line with onLine := some { o with failures := failures, sending := false } } }

/-- R96, R98: the on-line frame is counted as lost and leaves, and the sequence number advances. -/
def State.loseFrame (s : State) : State :=
  let s1 := (s.count .reportsLost 1).raise .reportLost
  { s1 with line := { s1.line with onLine := none, seq := s1.line.seq + 1 } }

/-- R97, R98: the on-line frame is delivered: it leaves, is counted, the number advances, the delivery timer restarts. -/
def State.deliverFrame (s : State) : State :=
  let s1 := s.count .reportsDelivered 1
  { s1 with line := { s1.line with onLine := none, seq := s1.line.seq + 1, deliveryTimer := some 0 } }

/-- R100, R170: both slots are emptied without any count. -/
def Line.emptySlots (l : Line) : Line := { l with onLine := none, nextSlot := none }

/-- Is an attempt being sent? -/
def Line.sending (l : Line) : Bool :=
  match l.onLine with
  | some o => o.sending
  | none => false

/-- R81, R93: the bits the transmitter puts on the line in the attempt being sent; it drives the line at no other time. At a
mismatch it stops before the character that would follow (R94). -/
def Line.drives (l : Line) : List Bool :=
  match l.onLine with
  | some o => if o.sending then backToBack o.bytes else []
  | none => []

/-! ## The echo check (R94) -/

/-- R94: is the character sent echoed: read back equal, with a stop bit? One read back with a framing error, read back
different or not read back in time is a mismatch. -/
def charEchoed (sent : Byte) : EchoChar → Bool
  | some c => rxChar c == { byte := sent, framingError := false }
  | none => false

/-- What the echo check has found so far. -/
inductive EchoResult where
  | sending | mismatch | delivered
deriving DecidableEq, Repr

/-- R94, R97: the characters of an attempt against what the line gave for them, in order: a mismatch at the first that is
not echoed, delivery when all are. -/
def echoCheck : List Byte → List EchoChar → EchoResult
  | [], _ => .delivered
  | _ :: _, [] => .sending
  | b :: sent, c :: readBack => if charEchoed b c then echoCheck sent readBack else .mismatch

/-- Has the attempt being sent come to this result? -/
def Line.echoes (l : Line) (readBack : List EchoChar) (r : EchoResult) : Bool :=
  match l.onLine with
  | some o => o.sending && echoCheck o.bytes readBack == r
  | none => false

/-! ## The reports at an event's end (R90) -/

/-- R90: has a pool's engine changed state between two states of the machine? -/
def engineDiffers (a b : State) (p : Pool) : Bool := (a.engine p).state != (b.engine p).state

/-- R87, R90: has the alarm summary changed? -/
def alarmSummaryDiffers (a b : State) : Bool :=
  a.alarmCondition != b.alarmCondition || a.faultSummary != b.faultSummary

/-- R90: how many triggers the change from `a` to `b` holds: each pool engine whose state is another, the biocide state,
and the alarm summary. An engine's pass through several states is one trigger, as R90 says; so are several changes of the
cycle state (R136) and, by the same reading, of the alarm summary (log 6). -/
def reportTriggers (a b : State) : Nat :=
  (engineDiffers a b .discharge).toNat + (engineDiffers a b .supply).toNat + (engineDiffers a b .biocide).toNat +
  (a.bio.cycle != b.bio.cycle).toNat + (alarmSummaryDiffers a b).toNat

end Sys2Proof.Machine
end

