-- ==== Sys2Proof/Machine/FeedOps.lean ====
section
/-! DEFINITION. The meter and feed unit (chapter 7): pulses, flow rings, inhibitor strokes, the no-flow test and the balance
check. -/

namespace Sys2Proof.Machine
open Sys2Proof

/-! ## Flow rings (R123, R124) -/

/-- R123: litres join the current slot, which stays at 65535 once there. -/
def addToRing (ring : List Nat) (litres : Nat) : List Nat := ring.set 11 (min 65535 (ring.getD 11 0 + litres))

/-- R123: a slot boundary: the current slot closes, the oldest is emptied and becomes the current one. -/
def turnRing (ring : List Nat) : List Nat := ring.drop 1 ++ [0]

/-- R124: the flow estimate in L/min. -/
def flowEstimate (ring : List Nat) : Nat := min 65535 ring.sum

/-! ## Inhibitor feed (R126 to R128) -/

/-- R126: milli-strokes are earned and converted to owed strokes; R128: the backlog mark is set at 250. -/
def Feed.earn (f : Feed) (milli : Nat) : Feed :=
  let total := f.remainder + milli
  let strokes := min (total / 1000) (Config.owedMax - f.owed)
  let rest := total - 1000 * strokes
  let owed := f.owed + strokes
  { f with owed := owed, remainder := if 1000 ≤ rest then 999 else rest, backlog := f.backlog || Config.owedMax ≤ owed }

/-- R127: does the stroke clock show the interval passed or no stroke yet? It shows the interval passed once its expiry has
been taken, so that of a pulse and an expiry at one instant the expiry gives the stroke where the pulse is taken first
(log 37). -/
def Feed.paced (f : Feed) : Bool := f.strokeClock.isNone || f.strokePassed

/-- R127: is a stroke due? -/
def State.strokeDue (s : State) : Bool := 0 < s.feed.owed && s.station.state.feedRuns && s.feed.paced

/-- R127, R128, R116: a stroke is requested, counted and begun. -/
def State.stroke (s : State) : State :=
  let owed := s.feed.owed - 1
  { s with
    feed := { s.feed with owed := owed, strokeClock := some 0, strokePassed := false,
                          backlog := s.feed.backlog && owed != 0 },
    out := { s.out with inhibitorPulse := some 0 } }.count .inhibitorStrokes 1

/-- R127: the test for a stroke. -/
def State.strokeTest (s : State) : State := if s.strokeDue then s.stroke else s

/-- R127: the stroke clock has reached the stroke interval, and stands there until a stroke. -/
def State.strokeIntervalPasses (s : State) : State :=
  { s with feed := { s.feed with strokePassed := true } }.strokeTest

/-- R128: the feed starts to run again when a change of station state has ended its stop. -/
def State.feedResumed (s : State) (before : StationState) : State :=
  if !before.feedRuns && s.station.state.feedRuns then s.strokeTest else s

/-- R126 to R128 at a makeup pulse: earning, INHIBITOR BACKLOG when the mark becomes set, and a stroke if one is due
through it. -/
def State.earnStrokes (s : State) (milli : Nat) : State :=
  let f := s.feed.earn milli
  let s1 := { s with feed := f }
  let s2 := if f.backlog && !s.feed.backlog then s1.raise .inhibitorBacklog else s1
  if s.feed.owed < f.owed then s2.strokeTest else s2

/-! ## The balance check (R129 to R131) -/

/-- R130: cycles from the meters, in hundredths. -/
def meteredCycles (makeup blowdown : Nat) : Nat := min 2500 (roundDiv (makeup * 100) blowdown)

/-- R130: the result of an interval. -/
def balanceResult (tolerance makeup blowdown : Nat) (coc : Option Nat) : BalanceResult :=
  if blowdown = 0 then .skipped
  else match coc with
    | none => .uncompared
    | some m =>
      if tolerance * m < absDiff (meteredCycles makeup blowdown) m * 100 then .mismatch else .ok

/-- R129, R130: the record of the interval that ends. -/
def State.balanceRecord (s : State) : BalanceRec :=
  { makeupLitres := s.feed.makeupAcc, blowdownLitres := s.feed.blowdownAcc,
    metered := if s.feed.blowdownAcc = 0 then 0 else meteredCycles s.feed.makeupAcc s.feed.blowdownAcc,
    measured := s.meas.derived.coc.getD 0,
    result := balanceResult s.station.cfg.tolerance s.feed.makeupAcc s.feed.blowdownAcc s.meas.derived.coc }

/-- R130, R131: what a result does to the mark, the events and the alarm. -/
def State.balanceOutcome (s : State) (r : BalanceResult) : State :=
  match r with
  | .mismatch => ({ s with feed := { s.feed with mismatch := true } }.raise .balanceMismatch).occur .balanceMismatch
  | .ok =>
    if s.feed.mismatch then { s with feed := { s.feed with mismatch := false } }.calm .balanceMismatch else s
  | .skipped => s.raise .balanceSkipped
  | .none | .uncompared => s

/-- R129: the interval ends: record, outcome, and both accumulators at 0. -/
def State.endBalance (s : State) : State :=
  let r := s.balanceRecord
  { s with feed := { s.feed with balance := r, makeupAcc := 0, blowdownAcc := 0 } }.balanceOutcome r.result

/-- R121, step 4: litres join M_i, and may end the interval. -/
def State.accumulateMakeup (s : State) (litres : Nat) : State :=
  let s1 := { s with feed := { s.feed with makeupAcc := s.feed.makeupAcc + litres } }
  if s.station.cfg.balanceInterval * 100 ≤ s1.feed.makeupAcc then s1.endBalance else s1

/-! ## Pulses (R120 to R122) -/

/-- R120: is a settled change to this level a pulse in this edge mode? -/
def edgePulse (m : EdgeMode) (high : Bool) : Bool :=
  match m with
  | .rising => high
  | .falling => !high
  | .both => true

/-- R121: a makeup pulse. -/
def State.makeupPulse (s : State) : State :=
  let k := s.station.cfg.kM
  let s1 := s.count .makeupLitres k
  let s2 := { s1 with feed := { s1.feed with makeupRing := addToRing s1.feed.makeupRing k } }
  (s2.earnStrokes (k * s.station.cfg.milliPerLitre)).accumulateMakeup k

/-- R122: a blowdown pulse. -/
def State.blowdownPulse (s : State) : State :=
  let k := s.station.cfg.kB
  let s1 := s.count .blowdownLitres k
  { s1 with feed :=
    { s1.feed with
      blowdownRing := addToRing s1.feed.blowdownRing k,
      blowdownAcc := min 4294967295 (s1.feed.blowdownAcc + k) } }

/-! ## The no-flow test (R125) -/

/-- R125: the test: an estimate of 0 raises NO FLOW once for a hold. -/
def State.noFlowTest (s : State) : State :=
  match s.feed.noFlow with
  | some w =>
    if flowEstimate s.feed.blowdownRing = 0 ∧ w.raised = false then
      { s with feed := { s.feed with noFlow := some { w with raised := true } } }.raise .noFlow
    else s
  | none => s

end Sys2Proof.Machine
end

