-- ==== Sys2Proof/Machine/Sequence.lean ====
section
/-! DEFINITION. The biocide sequencer's transitions (chapter 8), the forced release (R61), and the evaluation of the pool
engines (R43 to R47, R60), which act on one another within an event. -/

namespace Sys2Proof.Machine
open Sys2Proof

/-! ## Notices of the sequencer (R136) -/

/-- R136, R31, R60: the cycle-state notice: the BIOCIDE engine's need and the BIOCIDE base. -/
def State.cycleNotice (s : State) : State :=
  let base := biocideBase s.bio
  { s with demand := { s.demand with bBase := base } }.needNotice .biocide (s.bio.cycle == Cycle.due) base

/-- R60: the BIOCIDE engine goes from HOLDING straight to REST. -/
def State.biocideToRest (s : State) : State :=
  (s.setEngine .biocide (s.engine .biocide).endHold).arriveRest .biocide

/-- R60: a release request from the sequencer acts on an engine in HOLDING. -/
def State.releaseBiocide (s : State) : State :=
  if (s.engine .biocide).state == .holding then s.biocideToRest else s

/-- R115: the biocide pump output. -/
def State.pump (s : State) (on : Bool) : State := { s with out := { s.out with biocidePump := on } }

/-! ## Aborts (R148 to R150) -/

/-- The phases an abort ends (R148). -/
def Cycle.abortable : Cycle → Bool
  | .prebleed | .closing | .dosing => true
  | .idle | .due | .contact => false

/-- R149: the abort. -/
def State.abortCycle (s : State) : State :=
  let s1 := (if s.bio.cycle == .dosing then s.pump false else s).releaseBiocide
  let bio := { s1.bio with cycle := .idle, interval := some Config.retryDelay, overdue := none, phase := none,
                           abortMark := true }
  (((({ s1 with bio := bio }).raise .biocideAborted).occur .biocideAborted).cycleNotice).request false false

/-- R148: a lost notice or an entry to HOLD, ISOLATED or QUIET aborts a cycle in one of the three phases. -/
def State.abortIfRunning (s : State) : State := if s.bio.cycle.abortable then s.abortCycle else s

/-! ## Forced release (R61) -/

/-- R61 for one pool engine. -/
def State.forcedRelease (s : State) (p : Pool) : State :=
  match (s.engine p).state with
  | .holding =>
    match p.valve with
    | some v => s.release v false false false
    | none => s.biocideToRest.abortIfRunning
  | .asking | .confirming => s.giveUpWaiting p
  | .rest | .releasing | .stuck | .locked => s

/-- R61: station control's request for all three. -/
def State.releaseAll (s : State) : State :=
  ((s.forcedRelease .discharge).forcedRelease .supply).forcedRelease .biocide

/-! ## The phases (R137 to R147) -/

/-- R137, R138: the cycle becomes due. -/
def State.enterDue (s : State) : State :=
  { s with bio := { s.bio with cycle := .due, interval := none, overdue := some 0 } }.cycleNotice

/-- R144: entry to CLOSING. The need-false notice and the forced release are separate events, taken in either order: the
free value chooses (log 13). -/
def State.enterClosing (s : State) : State :=
  let s1 := { s with bio := { s.bio with cycle := .closing, phase := none }, freeIx := s.freeIx + 1 }.cycleNotice
  let s2 := { s1 with demand := { s1.demand with force := false, suppress := true } }
  if Config.releaseBeforeNeed s.freeIx then (s2.forcedRelease .discharge).recomputeDischarge
  else s2.recomputeDischarge.forcedRelease .discharge

/-- R141: the prebleed target. -/
def prebleedTarget (c : EffConfig) : Nat := roundDiv (c.sp * (100 - c.prebleedDrop)) 100

/-- R141, R142: is the basin known to be at or below the target? -/
def State.targetReached (s : State) : Bool :=
  match s.meas.derived.k25B with
  | some k => k ≤ s.bio.target
  | none => false

/-- R141: PREBLEED begins: the limit and the force request. -/
def State.startPrebleed (s : State) : State :=
  let bio := { s.bio with cycle := .prebleed, phase := some (s.station.cfg.prebleedLimit * 1000) }
  ({ s with bio := bio }.cycleNotice).request true s.demand.suppress

/-- R141: entry to PREBLEED, which passes straight to CLOSING where the basin needs no prebleed. -/
def State.enterPrebleed (s : State) : State :=
  let s1 := { s with bio := { s.bio with target := prebleedTarget s.station.cfg } }
  if s1.targetReached then s1.enterClosing else s1.startPrebleed

/-- R140: the BIOCIDE engine's holding notice. -/
def State.holdingNotice (s : State) : State :=
  if s.bio.cycle == .due then
    if 0 < s.station.cfg.prebleedDrop then s.enterPrebleed
    else { s with bio := { s.bio with target := s.station.cfg.sp } }.enterClosing
  else s.releaseBiocide

/-- R142: the scan-complete notice at the sequencer. -/
def State.prebleedTest (s : State) : State :=
  if s.bio.cycle == .prebleed && s.targetReached then s.enterClosing else s

/-- R146: entry to DOSING. -/
def State.enterDosing (s : State) : State :=
  { s with bio := { s.bio with cycle := .dosing, phase := some (s.station.cfg.doseTime * 1000) } }.cycleNotice.pump true

/-- R145: the test of the DISCHARGE engine in CLOSING. -/
def State.closingTest (s : State) : State :=
  match (s.engine .discharge).state with
  | .rest | .locked => s.enterDosing
  | .stuck => s.abortCycle
  | .asking | .confirming | .holding | .releasing => s

/-- R146: the dose ends. -/
def State.endDose (s : State) : State :=
  let s1 := ((s.pump false).releaseBiocide).count .biocideDoses 1
  { s1 with bio := { s1.bio with cycle := .contact, overdue := none,
                                 phase := some (s1.station.cfg.contactTime * 1000) } }.cycleNotice

/-- R137: the full biocide interval in milliseconds. -/
def fullInterval (c : EffConfig) : Nat := c.biocideInterval * 3600000

/-- R147, R150: the contact time ends. -/
def State.endContact (s : State) : State :=
  let s1 := (s.request s.demand.force false).raise .biocideComplete
  let s2 := if s1.bio.abortMark then s1.calm .biocideAborted else s1
  { s2 with bio := { s2.bio with cycle := .idle, interval := some (fullInterval s2.station.cfg), phase := none,
                                 abortMark := false } }.cycleNotice

/-! ## Evaluation (R43 to R47) -/

/-- R45: the withdraw. -/
def State.withdraw (s : State) (p : Pool) : State :=
  ((s.setEngine p (s.engine p).withdrawn).raise .withdraw).count (.withdrawals p) 1

/-- R47, R60: the yield. -/
def State.yieldPool (s : State) (p : Pool) : State :=
  match p.valve with
  | some v => ((s.release v true false true).raise .yield).count (.yields p) 1
  | none => ((s.biocideToRest.raise .yield).count (.yields p) 1).abortIfRunning

/-- R44: an engine in ASKING whose window has expired enters CONFIRMING if it fits. -/
def State.evaluateAsking (s : State) (p : Pool) : State :=
  if (s.engine p).windowExpired && s.fits p then s.setEngine p (s.engine p).toConfirming else s

/-- R43: one evaluation of one pool engine, at any trigger but the confirm period's expiry. -/
def State.evaluate (s : State) (p : Pool) : State :=
  match (s.engine p).state with
  | .asking => s.evaluateAsking p
  | .confirming => if s.fits p then s else s.withdraw p
  | .holding => if s.fits p then s else s.yieldPool p
  | .rest | .releasing | .stuck | .locked => s

/-- Does the BIOCIDE engine yield at its evaluation? Then the abort acts on DISCHARGE within the event. -/
def State.biocideYields (s : State) : Bool := (s.engine .biocide).state == .holding && !s.fits .biocide

/-- R43: the three evaluations of one event, "not ordered among themselves": where BIOCIDE yields, a free value says
whether it is taken before DISCHARGE (log 8). -/
def State.evaluateAll (s : State) : State :=
  if s.biocideYields then
    let s1 := { s with freeIx := s.freeIx + 1 }
    if Config.evalBiocideFirst s.freeIx then ((s1.evaluate .biocide).evaluate .discharge).evaluate .supply
    else ((s1.evaluate .discharge).evaluate .supply).evaluate .biocide
  else ((s.evaluate .discharge).evaluate .supply).evaluate .biocide

/-- R46: the grant wait in whole seconds. -/
def State.grantWait (s : State) (p : Pool) : Nat := roundDiv (s.now - (s.engine p).grantWait.getD s.now) 1000

/-- R46: the grant: record, counter, histogram, and the valve command or the holding notice. -/
def State.grant (s : State) (p : Pool) : State :=
  let wait := s.grantWait p
  let s1 := ((s.setEngine p ((s.engine p).granted s.now p.valve.isSome)).count (.grants p) 1).recordWait p wait
  match p.valve with
  | some v => (s1.openCommand v).startNoFlow v
  | none => s1.holdingNotice

/-- R46: the expiry of the confirm period. -/
def State.confirmExpires (s : State) (p : Pool) : State := if s.fits p then s.grant p else s.withdraw p

/-- R44: the expiry of the ask window: the mark is set, the timer stops, and the engine evaluates. -/
def State.askExpires (s : State) (p : Pool) : State :=
  (s.setEngine p { s.engine p with windowExpired := true, phase := none }).evaluate p

/-- R90: the periodic notice evaluates the engines in ASKING alone. -/
def State.evaluateIfAsking (s : State) (p : Pool) : State :=
  if (s.engine p).state == .asking then s.evaluate p else s

/-- R90: the periodic notice. -/
def State.periodicNotice (s : State) : State :=
  ((s.evaluateIfAsking .discharge).evaluateIfAsking .supply).evaluateIfAsking .biocide

end Sys2Proof.Machine
end

