-- ==== Sys2Proof/Machine/StationOps.lean ====
section
/-! DEFINITION. Station control's transitions (chapter 9), the resets, and what every event ends with: the closing test, the
valve-fault notice, the reports and the two output lines. -/

namespace Sys2Proof.Machine
open Sys2Proof

/-! ## Changes among the working states (R155, R165 to R168) -/

/-- R155: the station state changes, and the change composes a report where the new state is a reporting one. -/
def State.changeState (s : State) (st : StationState) (listen : Option Nat) : State :=
  { s with station := { s.station with state := st, listen := listen } }.composeReport

/-- R167: leaving ISOLATED ends its alarm condition. -/
def State.calmIsolated (s : State) (before : StationState) : State :=
  if before == .isolated then s.calm .isolated else s

/-- R165: entry to RUN; the engines whose need is true leave REST. -/
def State.enterRun (s : State) : State :=
  (((s.changeState .run none).askFromRest .discharge).askFromRest .supply).askFromRest .biocide

/-- R166: entry to HOLD from LISTEN, RUN or ISOLATED. Of the station-state notice, which aborts the cycle, and the releases either
may come first (R148, R155); the model takes the abort first, here and in enterIsolated and enterQuiet (its choice, log 7). -/
def State.enterHold (s : State) : State :=
  (((s.changeState .hold none).calmIsolated s.station.state).abortIfRunning).releaseAll

/-- R166, R167: entry to LISTEN from HOLD or ISOLATED: the listen and delivery timers start. -/
def State.enterListen (s : State) : State :=
  let s1 := { s with line := { s.line with deliveryTimer := some 0 } }
  ((s1.changeState .listen (some Config.listenPeriod)).calmIsolated s.station.state).feedResumed s.station.state

/-- R167, R148: ISOLATED's occurrence and an abort's stand in no order; a free value says which alarm joins the list
first (log 9). An occurrence before the abort's own changes nothing else. -/
def State.isolatedAlarms (s : State) : State :=
  if s.bio.cycle.abortable then
    let s1 := { s with freeIx := s.freeIx + 1 }
    if Config.abortAlarmFirst s.freeIx then (s1.abortCycle.raise .isolated).occur .isolated
    else ((s1.raise .isolated).occur .isolated).abortCycle
  else (s.raise .isolated).occur .isolated

/-- R167: entry to ISOLATED from LISTEN or RUN; the abort first, then the releases (R148, R155, log 7). -/
def State.enterIsolated (s : State) : State := ((s.changeState .isolated none).isolatedAlarms).releaseAll

/-- R100: the transmit path stops; the characters of an attempt cut off are discarded at the next frame end (R83). -/
def Line.quiet (l : Line) : Line :=
  { l.emptySlots with reportTimer := none, deliveryTimer := none, rxMode := if l.sending then .skip else l.rxMode }

/-- R77, R75: the peer table is emptied and each effective cap becomes the own cap. -/
def State.emptyPeers (s : State) : State := { s with peers := [] }.recomputeCaps

/-- R168: entry to QUIET; the abort first, then the releases (R148, R155, log 7). -/
def State.enterQuiet (s : State) : State :=
  let s1 := s.changeState .quiet none
  let s2 := { s1 with line := s1.line.quiet }.emptyPeers
  (((s2.calmIsolated s.station.state).abortIfRunning).releaseAll).feedResumed s.station.state

/-! ## START, CONFIG FAULT and the resets (R156 to R164, R170) -/

/-- R164, R85: entry to CONFIG FAULT; the receiver collects from the next frame end on. -/
def State.enterConfigFault (s : State) (reason : FaultReason) : State :=
  { s with
    station := { s.station with state := .configFault, cfg := EffConfig.zero, loaded := false, fault := reason,
                                work := .idle },
    line := { s.line with rxMode := .skip } }.occur .configFault

/-- R158: the straps are read; number 0 goes to CONFIG FAULT, any other starts the first attempt. -/
def State.readStraps (s : State) (straps : BitVec 5) : State :=
  let s1 := { s with station := { s.station with number := straps.toNat } }
  if straps = 0 then s1.enterConfigFault .noNumber
  else { s1 with station := { s1.station with work := .attempt 1 } }

/-- R156: every block at its cold values, START entered with the straps read. The spec says nothing of two causes that
overlap: the cause that ends is the operand's, and its end ends the hold (log 30). -/
def State.coldReset (s : State) (cause : ResetCause) (straps : BitVec 5) : State :=
  { s with
    held := none, station := Station.starting (s.station.causes.afterCold cause), meas := Measurement.reset,
    demand := Demand.reset, claim := Claim.reset, peers := [], line := Line.reset, out := s.out.afterCold cause, feed := Feed.cold,
    bio := Sequencer.cold, stats := Stats.cold, port := Port.reset }.readStraps straps

/-- R170: a warm restart takes effect: the COMMAND mark, every block's warm values, and START from the strap read.
The port's response is emptied with the mailbox (the model's choice, log 35). -/
def State.warmRestart (s : State) (straps : BitVec 5) : State :=
  { s with
    station := Station.starting { s.station.causes with command := true }, meas := Measurement.reset,
    demand := Demand.reset, claim := Claim.reset, peers := [], line := Line.reset, out := s.out.restarted,
    feed := s.feed.restarted, bio := s.bio.restarted, stats := s.stats.restarted, port := Port.reset }.readStraps straps

/-- R156: a reset cause begins: outputs closed and off, the attention line released, nothing answered, work abandoned. A
second cause that begins while one persists takes its place (log 30). -/
def State.holdInReset (s : State) (cause : ResetCause) : State :=
  { s with
    held := some cause, out := s.out.restarted, port := Port.reset,
    line := { s.line.emptySlots with rxMode := .off, leavingComposed := false },
    station := { s.station with work := .idle, restartPending := false } }

/-! ## Entry to LISTEN from START (R163) -/

/-- R105, R113: a valve's record at the end of START: the command and check of the reset, the feedback as loaded. -/
def ValveRec.loaded (present : Bool) (lvl : ValvePos) : ValveRec :=
  { commanded := .closed, feedbackPresent := present, settled := lvl, check := .none, timer := none }

/-- R35, R36, R63: an engine at the end of START, in REST. -/
def Engine.loaded (amount cap : Nat) : Engine := { Engine.reset with amount := amount, effCap := cap }

/-- The three engines at the end of START, before a valve seen open has been looked at. -/
def Claim.loaded (c : EffConfig) : Claim :=
  { discharge := Engine.loaded c.amountDischarge c.capDischarge,
    supply := Engine.loaded c.amountSupply c.capSupply, biocide := Engine.loaded c.amountBiocide c.capBiocide }

/-- R152, R153: the sequencer at the entry to LISTEN: kept times reduced to the loaded ones, or the full interval. -/
def Sequencer.atListen (b : Sequencer) (c : EffConfig) : Sequencer :=
  match b.cycle with
  | .idle => { b with interval := some (min (b.interval.getD (fullInterval c)) (fullInterval c)) }
  | .contact => { b with phase := b.phase.map (fun t => min t (c.contactTime * 1000)) }
  | .due | .prebleed | .closing | .dosing => b

/-- R163: every block set from the effective configuration. -/
def State.load (s : State) (c : EffConfig) (i : StartInputs) : State :=
  { s with
    station := { s.station with state := .listen, cfg := c, loaded := true, fault := .none,
                                listen := some Config.listenPeriod, work := .idle },
    meas := Measurement.loaded c, demand := { Demand.reset with mode := c.mode }, claim := Claim.loaded c,
    out := { s.out with blowdown := ValveRec.loaded c.feedbackBlowdown i.blowdownFeedback,
                        makeup := ValveRec.loaded c.feedbackMakeup i.makeupFeedback },
    feed := { s.feed with makeupLevel := i.makeupMeter, blowdownLevel := i.blowdownMeter, slotClock := some 0 },
    bio := s.bio.atListen c,
    line := { s.line with rxMode := .skip, reportTimer := some 0, deliveryTimer := some 0 } }

/-- R63, R113: a valve engine whose valve has feedback and is seen open starts in RELEASING. -/
def State.startValve (s : State) (v : Valve) : State :=
  let r := s.valve v
  if r.feedbackPresent && r.settled == .opened then
    (s.setEngine v.pool { s.engine v.pool with state := .releasing }).closeCommand v
  else s

/-- R133: the kept balance mismatch mark is reported. -/
def State.balanceAlarm (s : State) : State := if s.feed.mismatch then s.occur .balanceMismatch else s

/-- R152: the kept abort mark is reported. -/
def State.abortAlarm (s : State) : State := if s.bio.abortMark then s.occur .biocideAborted else s

/-- R152, R133: the two kept marks in the order a free value gives, where both stand (log 9). -/
def State.keptAlarms (s : State) : State :=
  if s.feed.mismatch && s.bio.abortMark then
    let s1 := { s with freeIx := s.freeIx + 1 }
    if Config.abortAlarmFirst s.freeIx then s1.abortAlarm.balanceAlarm else s1.balanceAlarm.abortAlarm
  else s.balanceAlarm.abortAlarm

/-- R152: a kept CONTACT makes its suppression request again. -/
def State.renewSuppression (s : State) : State := if s.bio.cycle == .contact then s.request false true else s

/-- R163: the end of START: CONFIG CLAMPED, the load, each block's first acts, the first scan, the first REPORT and those
of the entry's other triggers: an engine set to RELEASING (R51), an alarm reported again (R90, log 6). -/
def State.enterListenFromStart (s : State) (bytes : List Byte) (i : StartInputs) : State :=
  let s1 := if configClampedBy bytes then s.raise .configClamped else s
  let s2 := ((s1.load (effectiveConfig bytes) i).startValve .blowdown).startValve .makeup
  let s3 := (((s2.cycleNotice).renewSuppression).keptAlarms).feedResumed .start
  let s4 := (s3.takeScan i.codes).scanDemand
  s4.composeReport.composeReports (reportTriggers s s4)

/-! ## What every event ends with -/

/-- R145: is the closing test due: CLOSING was entered in this event, or the DISCHARGE engine has changed state in it? -/
def closingTestDue (a b : State) : Bool :=
  b.bio.cycle == .closing &&
  (a.bio.cycle != .closing || (a.engine .discharge).state != (b.engine .discharge).state)

/-- R59: the end of the VALVE FAULT condition is told to the alarm list. -/
def State.calmValveFault (s : State) (base : State) : State :=
  if base.valveFault && !s.valveFault then s.calm .valveFault else s

/-- The end of an event that began in `base`: the closing test (R145), the valve-fault notice (R59), one report for each
trigger of R90 (log 6), the last counter field (R173), and the two output lines (R117, R177). -/
def State.finish (base s : State) : State :=
  let s1 := if closingTestDue base s then s.closingTest else s
  let s2 := s1.calmValveFault base
  ((s2.composeReports (reportTriggers base s2)).nameLast base).driveLines

/-- An event: nothing while the part is held in reset or when the event cannot occur in this state (log 2); otherwise its
body and what every event ends with. -/
def event (due : Bool) (body : State → State) (s : State) : Host.Outcome State Fault Refusal :=
  if s.held.isSome || !due then .next s else .next (State.finish s (body s))

/-- An event after which nothing is compared: the end of an attempt of START, which composes its own reports. -/
def quietEvent (due : Bool) (body : State → State) (s : State) : Host.Outcome State Fault Refusal :=
  if s.held.isSome || !due then .next s else .next ((body s).nameLast s).driveLines

/-- A running timer has reached its limit; a stopped one has not. -/
def reached (limit : Nat) : Option Nat → Bool
  | some t => limit ≤ t
  | none => false

/-- A time that counts down has run out; a stopped one has not. -/
def ranOut : Option Nat → Bool
  | some t => t == 0
  | none => false

/-! ## Restarts within an event -/

/-- R169: does a RESTART take effect at once: QUIET, CONFIG FAULT, or an own engine STUCK? -/
def State.restartAtOnce (s : State) : Bool :=
  s.station.state == .quiet || s.station.state == .configFault || (s.engine .discharge).state == .stuck ||
  (s.engine .supply).state == .stuck || (s.engine .biocide).state == .stuck

/-- R88, R170: a leaving-finished notice lets the restart take effect. -/
def State.leavingFinished (s : State) (k : FrameKind) (straps : BitVec 5) : State :=
  match k with
  | .leaving => s.warmRestart straps
  | .report => s

end Sys2Proof.Machine
end

