-- ==== Sys2Proof/Machine/BiocideEvents.lean ====
section
/-! DEFINITION. The timer events of the biocide sequencer (chapter 8). -/

namespace Sys2Proof.Machine
open Sys2Proof

/-- R137: the interval timer has reached 0 in IDLE, in a state in which the sequencer's timers run (R136). -/
def State.intervalOver (s : State) : Bool :=
  s.station.state.working && s.bio.cycle == .idle && ranOut s.bio.interval

/-- INTERVAL_TIMER_EXPIRY (R137). -/
def execIntervalTimerExpiry (s : State) : Host.Outcome State Fault Refusal := event s.intervalOver State.enterDue s

/-- The phase timer has reached 0 in the given phase, in a state in which it runs (R136). -/
def State.phaseOver (s : State) (c : Cycle) : Bool :=
  s.station.state.working && s.bio.cycle == c && ranOut s.bio.phase

/-- R143: PREBLEED SHORT, and CLOSING. -/
def State.prebleedRunsOut (s : State) : State := (s.raise .prebleedShort).enterClosing

/-- PREBLEED_SHORT (R143, R144). -/
def execPrebleedShort (s : State) : Host.Outcome State Fault Refusal :=
  event (s.phaseOver .prebleed) State.prebleedRunsOut s

/-- DOSE_TIME_EXPIRY (R146). -/
def execDoseTimeExpiry (s : State) : Host.Outcome State Fault Refusal := event (s.phaseOver .dosing) State.endDose s

/-- CONTACT_TIME_EXPIRY (R147). -/
def execContactTimeExpiry (s : State) : Host.Outcome State Fault Refusal :=
  event (s.phaseOver .contact) State.endContact s

end Sys2Proof.Machine
end

