-- ==== Sys2Proof/Machine/ClaimEvents.lean ====
section
/-! DEFINITION. The timer events of the pool engines (R38, R44, R46, R49, R50). -/

namespace Sys2Proof.Machine
open Sys2Proof

/-- R44: the ask window of an engine in ASKING has run out. -/
def Engine.askOver (e : Engine) : Bool := e.state == .asking && !e.windowExpired && reached Config.askWindow e.phase

/-- ASK_WINDOW_EXPIRY (R44). -/
def execAskWindowExpiry (p : Pool) (s : State) : Host.Outcome State Fault Refusal :=
  event (s.engine p).askOver (fun s => s.askExpires p) s

/-- R46: the confirm period of an engine in CONFIRMING has run out. -/
def Engine.confirmOver (e : Engine) : Bool := e.state == .confirming && reached Config.confirmPeriod e.phase

/-- CONFIRM_PERIOD_EXPIRY (R45, R46). -/
def execConfirmPeriodExpiry (p : Pool) (s : State) : Host.Outcome State Fault Refusal :=
  event (s.engine p).confirmOver (fun s => s.confirmExpires p) s

/-- R38: does the ageing clock run? -/
def EngineState.ages : EngineState → Bool
  | .asking | .confirming => true
  | .rest | .holding | .releasing | .stuck | .locked => false

/-- R38: the ageing clock of a waiting engine has reached 4 s. -/
def Engine.ageingDue (e : Engine) : Bool := e.state.ages && Config.ageingStep ≤ e.ageingClock

/-- R38: one ageing step. -/
def Engine.aged (e : Engine) : Engine := { e with ageing := min Config.ageingMax (e.ageing + 1), ageingClock := 0 }

/-- AGEING_STEP (R38). -/
def execAgeingStep (p : Pool) (s : State) : Host.Outcome State Fault Refusal :=
  event (s.engine p).ageingDue (fun s => s.setEngine p (s.engine p).aged) s

/-- R49: the minimum run of a holding engine whose release is deferred has ended. -/
def State.minimumRunEnds (s : State) (p : Pool) : Bool :=
  (s.engine p).state == .holding && (s.engine p).releaseDeferred && s.minimumRunOver (s.engine p)

/-- R49: the deferred release. -/
def State.deferredRelease (s : State) (p : Pool) : State :=
  match p.valve with
  | some v => s.release v false false false
  | none => s

/-- MINIMUM_RUN_END (R49); the BIOCIDE engine has no deferred release (R60). -/
def execMinimumRunEnd (p : Pool) (s : State) : Host.Outcome State Fault Refusal :=
  event (p.valve.isSome && s.minimumRunEnds p) (fun s => s.deferredRelease p) s

/-- R50: the maximum run of a holding engine is over. -/
def State.maxRunOver (s : State) (p : Pool) : Bool :=
  (s.engine p).state == .holding && reached (s.station.cfg.maxRun p) (s.engine p).maxRun

/-- R50: release with re-ask and ageing 0, and MAX RUN. -/
def State.maxRunRelease (s : State) (p : Pool) : State :=
  match p.valve with
  | some v => (s.release v true false false).raise .maxRun
  | none => s

/-- MAX_RUN_EXPIRY (R50); the BIOCIDE engine has no maximum run (R60). -/
def execMaxRunExpiry (p : Pool) (s : State) : Host.Outcome State Fault Refusal :=
  event (p.valve.isSome && s.maxRunOver p) (fun s => s.maxRunRelease p) s

end Sys2Proof.Machine
end

