-- ==== Sys2Proof/Machine/Records.lean ====
section
/-! DEFINITION. The records of the panel port (chapter 11): the bytes of each record (R184 to R187, log 15), the snapshot
event, and what the mailbox does when a command has been taken (R189). -/

namespace Sys2Proof.Machine
open Sys2Proof

/-! ## Encodings (R185) -/

/-- A time in whole seconds, rounded to nearest, from milliseconds. -/
def secondsOf (ms : Nat) : Nat := roundDiv ms 1000

/-- A time in four bytes, 0xFFFFFFFF when it is stopped or none. -/
def time4 : Option Nat → List Byte
  | some ms => be32 (secondsOf ms)
  | none => be32 0xFFFFFFFF

/-- A two-byte value followed by its unknown mark (R185); an unknown value is 0 (R15). -/
def known2 (v : Option Nat) : List Byte := be16 (v.getD 0) ++ markByte v.isNone

/-- A 32-bit word, high byte first. -/
def word4 (w : Word32) : List Byte := be32 w.toNat

/-! ## The records -/

/-- An alarm list entry in one byte (R186). -/
def AlarmEntry.code (e : AlarmEntry) : Nat := e.kind.code + bitIf e.active 6 + bitIf e.unack 7

/-- Reset-cause marks in one byte (R186). -/
def CauseMarks.code (m : CauseMarks) : Nat := bitIf m.power 0 + bitIf m.pin 1 + bitIf m.dip 2 + bitIf m.command 3

/-- R186: STATION, 15 bytes. -/
def State.stationRecord (s : State) : List Byte :=
  byte1 s.station.state.code ++ byte1 s.station.number ++ byte1 s.station.causes.code ++ byte1 s.station.fault.code ++
  byte1 (bitIf s.alarmCondition 0 + bitIf s.out.relay 1 + bitIf s.station.restartPending 2 + bitIf s.port.attention 3) ++
  byte1 s.stats.alarms.length ++
  ((s.stats.alarms.flatMap (fun e : AlarmEntry => byte1 e.code)) ++ List.replicate 9 0).take 9

/-- R18: one channel of MEASURE: state, value present, averaged code, converted quantity with its unknown mark. -/
def ChannelRec.measure (r : ChannelRec) (quantity : Option Nat) : List Byte :=
  byte1 r.state.code ++ markByte r.present ++ be16 r.averaged ++ known2 quantity

/-- R18, R135: MEASURE. -/
def State.measureRecord (s : State) : List Byte :=
  let d := s.meas.derived
  s.meas.cb.measure d.rawB ++ s.meas.tb.measure d.t10B ++ s.meas.cm.measure d.rawM ++ s.meas.tm.measure d.t10M ++
  s.meas.lv.measure d.lv10 ++ known2 d.k25B ++ known2 d.k25M ++ known2 d.coc ++ markByte d.cyclesLimit ++
  be16 (flowEstimate s.feed.makeupRing) ++ be16 (flowEstimate s.feed.blowdownRing)

/-- R187: seconds since a time, at most 0xFFFE; 0xFFFF when there is none. -/
def State.since (s : State) : Option Nat → Nat
  | some t => min 0xFFFE (secondsOf (s.now - t))
  | none => 0xFFFF

/-- R187: what remains of a running timer, in units of `unit` milliseconds; 0xFFFF when it is stopped. -/
def remaining (limit unit : Nat) : Option Nat → Nat
  | some t => roundDiv (limit - t) unit
  | none => 0xFFFF

/-- R187, byte 8: the marks of an engine, with the requests and the mode for DISCHARGE. -/
def State.poolMarks (s : State) (p : Pool) : Nat :=
  let e := s.engine p
  bitIf e.need 0 + bitIf e.windowExpired 1 + bitIf e.releaseDeferred 2 + bitIf e.reask 3 + bitIf e.lock 4 +
  (if p = .discharge then bitIf s.demand.force 5 + bitIf s.demand.suppress 6 + bitIf (s.demand.mode == .k) 7 else 0)

/-- R187: the base a pool's record shows. -/
def State.poolBase (s : State) (p : Pool) : Nat := if p = .biocide then s.demand.bBase else (s.engine p).base

/-- R187, bytes 19 and 20 of a valve's pool. -/
def State.valveBytes (s : State) (v : Valve) : List Byte :=
  let r := s.valve v
  let left := match r.check with
    | .openCheck | .closeCheck => secondsOf (s.station.cfg.confirmTime * 1000 - r.timer.getD 0)
    | .none | .closeWatch => 0
  byte1 (bitIf (r.commanded == .opened) 0 + bitIf (r.observed == .opened) 1 + bitIf r.feedbackPresent 2 +
    16 * r.check.code) ++ byte1 left

/-- R187: POOL, 21 bytes. -/
def State.poolRecordBytes (s : State) (p : Pool) : List Byte :=
  let e := s.engine p
  byte1 p.index ++ byte1 e.state.code ++ be16 e.amount ++ byte1 e.urgency ++ byte1 e.ageing ++ byte1 e.heldUrgency ++
  byte1 (s.poolBase p) ++ byte1 (s.poolMarks p) ++ be16 e.effCap ++ be16 (remaining Config.askWindow 100 e.phase) ++
  be16 (s.since e.holdStart) ++ be16 (remaining (s.station.cfg.maxRun p) 1000 e.maxRun) ++
  be16 (s.since e.grantWait) ++
  match p.valve with
  | some v => s.valveBytes v
  | none => [0, 0]

/-- A stored set of station flags, one mark byte each (R185). -/
def StationFlags.marks (f : StationFlags) : List Byte :=
  markByte f.listening ++ markByte f.hold ++ markByte f.isolated ++ markByte f.alarm ++ markByte f.capMismatch ++
  markByte f.modeK

/-- A stored fault summary, one mark byte each (R185). -/
def FaultSummary.marks (f : FaultSummary) : List Byte :=
  markByte f.probe ++ markByte f.valve ++ markByte f.balance ++ markByte f.backlog

/-- R79: PEER. -/
def PeerEntry.record (e : PeerEntry) : List Byte :=
  byte1 e.number ++ byte1 e.freshness.code ++ byte1 (secondsOf e.age) ++ [e.lastSeq] ++ be16 e.missed ++
  e.flags.marks ++ e.faults.marks ++ e.discharge.toBytes ++ e.supply.toBytes ++ e.biocide.toBytes ++ be16 e.k25B ++
  be16 e.coc ++ byte1 e.cycleCode ++ markByte e.mismatch

/-- R182: COUNTER. -/
def State.counterRecord (s : State) (n : Nat) : List Byte := word4 (s.stats.counterAt n) ++ byte1 s.stats.lastCounter

/-- R182: HISTOGRAM, by pool and bucket. -/
def State.histogramRecord (s : State) : List Byte := s.stats.histogram.flatMap be16

/-- R176, R182: EVENTS. -/
def State.eventsRecord (s : State) : List Byte := word4 s.stats.flags ++ word4 s.stats.mask

/-- R135: BALANCE. -/
def State.balanceBytes (s : State) : List Byte :=
  let b := s.feed.balance
  be32 b.makeupLitres ++ be32 b.blowdownLitres ++ be16 b.metered ++ be16 b.measured ++ byte1 b.result.code ++
  be32 s.feed.makeupAcc ++ be32 s.feed.blowdownAcc ++ be32 (s.station.cfg.balanceInterval * 100) ++
  markByte s.feed.mismatch ++ byte1 s.feed.owed ++ be16 s.feed.remainder ++ markByte s.feed.backlog

/-- R185: the code of the phase the phase timer belongs to, 0 while it is stopped. -/
def Sequencer.phaseCode (b : Sequencer) : Nat := if b.phase.isSome then b.cycle.code else 0

/-- R154: BIOCIDE. -/
def State.biocideBytes (s : State) : List Byte :=
  byte1 s.bio.cycle.code ++ time4 s.bio.interval ++ time4 s.bio.overdue ++ time4 s.bio.phase ++
  byte1 s.bio.phaseCode ++ be16 s.bio.target ++ markByte s.demand.force ++ markByte s.demand.suppress ++
  markByte s.bio.abortMark ++ markByte s.out.biocidePump

/-- R185: CONFIG: the not-loaded mark, then the fields. -/
def State.configBytes (s : State) : List Byte := markByte (!s.station.loaded) ++ configFieldBytes s.station.cfg

/-- R157: RESET CAUSE. -/
def State.resetCauseBytes (s : State) : List Byte :=
  markByte s.station.causes.power ++ markByte s.station.causes.pin ++ markByte s.station.causes.dip ++
  markByte s.station.causes.command

/-! ## The snapshot event (R184) -/

/-- What a read finds: content, an empty slot, or nothing in range. -/
inductive Snapshot where
  | content (bytes : List Byte)
  | empty
  | outOfRange
deriving DecidableEq, Repr

/-- R184: status, length and content. -/
def Snapshot.response : Snapshot → List Byte
  | .content b => [0] ++ byte1 b.length ++ b
  | .empty => [1, 0]
  | .outOfRange => [2, 0]

/-- R184: what a record number and index name. -/
def State.snapshot (s : State) (rec idx : Nat) : Snapshot :=
  match rec, idx with
  | 1, 0 => .content s.stationRecord
  | 2, 0 => .content s.measureRecord
  | 3, 0 => .content (s.poolRecordBytes .discharge)
  | 3, 1 => .content (s.poolRecordBytes .supply)
  | 3, 2 => .content (s.poolRecordBytes .biocide)
  | 4, n =>
    if n = 0 ∨ 31 < n then .outOfRange
    else match s.peerAt n with
      | some e => .content e.record
      | none => .empty
  | 5, n => if n = 0 ∨ 20 < n then .outOfRange else .content (s.counterRecord n)
  | 6, 0 => .content s.histogramRecord
  | 7, 0 => .content s.eventsRecord
  | 8, 0 => .content s.balanceBytes
  | 9, 0 => .content s.biocideBytes
  | 10, 0 => .content s.configBytes
  | 11, 0 => .content s.resetCauseBytes
  | _, _ => .outOfRange

/-- R184, R176, R157: what the snapshot clears: the flags by EVENTS, the marks by RESET CAUSE. -/
def State.clearOnRead (s : State) (rec idx : Nat) : State :=
  if rec = 7 ∧ idx = 0 then { s with stats := { s.stats with flags := 0 } }
  else if rec = 11 ∧ idx = 0 then { s with station := { s.station with causes := CauseMarks.clear } }
  else s

/-- The bytes a transaction shifts out from the byte after its request on. -/
def State.respond (s : State) (bytes : List Byte) : State := { s with port := { s.port with response := bytes } }

/-- R183, R184, R156: a READ RECORD; while the part is held in reset it is not answered. Of a RESET CAUSE read and a reset that
ends at one instant (R157), a read served before the hold returns the earlier marks, one during it is not served, and one
queued behind the end is a later read (the model's choice, log 36). -/
def State.readRecord (s : State) (rec idx : Nat) : State :=
  if s.held.isSome then s.respond [] else ((s.respond (s.snapshot rec idx).response).clearOnRead rec idx).driveLines

/-- R188: the four fields of the mailbox. -/
def Mailbox.bytes (m : Mailbox) : List Byte :=
  byte1 m.state.code ++ [m.code] ++ word4 m.argument ++ byte1 m.result.code

/-! ## Taking a command (R189) -/

/-- R189: the result is set, the mailbox becomes DONE, and COMMAND DONE is raised. -/
def State.conclude (s : State) (r : MailResult) : State :=
  { s with port := { s.port with mailbox := { s.port.mailbox with state := .done, result := r } } }.raise .commandDone

/-- Does the mailbox hold this command for its owner to take? -/
def State.awaits (s : State) (c : PanelCommand) : Bool :=
  s.port.mailbox.state == .pending && s.port.mailbox.code == c.code && !s.station.restartPending

/-- R189, test 2: a command other than SET MASK with an argument that is not all zero. -/
def badArgument (code : Byte) (argument : Word32) : Bool := code != PanelCommand.setMask.code && argument != 0

/-- R189: the tests 2 and 3, the effect, and COMMAND DONE after it. -/
def State.takeCommand (s : State) (refused : Bool) (body : State → State) : State :=
  if badArgument s.port.mailbox.code s.port.mailbox.argument then s.conclude .badArgument
  else if refused then s.conclude .notNow
  else (body s).conclude .ok

end Sys2Proof.Machine
end

