-- ==== Sys2Proof/Machine/CommandEvents.lean ====
section
/-! DEFINITION. The takings of the eight panel commands by their owners (section 11.5). -/

namespace Sys2Proof.Machine
open Sys2Proof

/-! ## Commands on records, alarms and counters (R191) -/

/-- R58: the acknowledge notice takes an engine in LOCKED to REST, where R40 applies. -/
def State.unlock (s : State) (p : Pool) : State := if (s.engine p).state == .locked then s.arriveRest p else s

/-- R179: the list is acknowledged, then the engines hear of it. -/
def State.acknowledge (s : State) : State :=
  let s1 := { s with stats := { s.stats with alarms := acknowledgeAlarms s.stats.alarms } }
  ((s1.unlock .discharge).unlock .supply).unlock .biocide

/-- ACKNOWLEDGE (R179, R191). -/
def execAcknowledge (s : State) : Host.Outcome State Fault Refusal :=
  event (s.awaits .acknowledge) (fun s => s.takeCommand false State.acknowledge) s

/-- What an owner clears: counters, cells and last counter field at 0 (R175), or the balance interval restarted (R132). -/
def State.clearPart (s : State) : ClearOwner → State
  | .statistics =>
    { s with stats := { s.stats with counters := List.replicate 20 0, histogram := List.replicate 15 0, lastCounter := 0 } }
  | .feed => { s with feed := { s.feed with makeupAcc := 0, blowdownAcc := 0 } }

/-- R191: the owner whose taking comes next: the one a free value names, then the other (log 31). -/
def State.nextClearer (s : State) : ClearOwner :=
  match s.port.clearedBy with
  | none => if Config.statisticsClearFirst s.freeIx then .statistics else .feed
  | some .statistics => .feed
  | some .feed => .statistics

/-- R191: the taking of the command by owner `o`, the first of the two, leaves it PENDING for the other. -/
def State.clearedFirst (s : State) (o : ClearOwner) : State :=
  { s.clearPart o with port := { s.port with clearedBy := some o }, freeIx := s.freeIx + 1 }

/-- R191: the second owner's taking. -/
def State.clearLast (s : State) : State :=
  { s.clearPart s.nextClearer with port := { s.port with clearedBy := none } }

/-- R191, R189: the result is OK when both owners have taken the command; until then it stays PENDING. -/
def State.takeClear (s : State) : State :=
  if s.port.clearedBy.isSome || badArgument s.port.mailbox.code s.port.mailbox.argument then
    s.takeCommand false State.clearLast
  else s.clearedFirst s.nextClearer

/-- CLEAR_COUNTERS (R175, R132, R191): one of the two owners takes it, each in an event of its own. -/
def execClearCounters (s : State) : Host.Outcome State Fault Refusal :=
  event (s.awaits .clearCounters) State.takeClear s

/-- R177: the mask becomes the argument. -/
def State.setMask (s : State) : State := { s with stats := { s.stats with mask := s.port.mailbox.argument } }

/-- SET_MASK (R177, R191). -/
def execSetMask (s : State) : Host.Outcome State Fault Refusal :=
  event (s.awaits .setMask) (fun s => s.takeCommand false State.setMask) s

/-! ## Commands on the station, the line and the cycle (R192) -/

/-- R138: BIOCIDE NOW is refused unless the cycle is in IDLE and the station in RUN. -/
def State.biocideNowRefused (s : State) : Bool := !(s.bio.cycle == .idle && s.inRun)

/-- BIOCIDE_NOW (R138). -/
def execBiocideNow (s : State) : Host.Outcome State Fault Refusal :=
  event (s.awaits .biocideNow) (fun s => s.takeCommand s.biocideNowRefused State.enterDue) s

/-- R166: HOLD is refused in START, CONFIG FAULT and QUIET. -/
def State.holdRefused (s : State) : Bool := !s.station.state.reporting

/-- R166: HOLD in HOLD changes nothing. -/
def State.takeHold (s : State) : State := if s.station.state == .hold then s else s.enterHold

/-- HOLD (R166). -/
def execHold (s : State) : Host.Outcome State Fault Refusal :=
  event (s.awaits .hold) (fun s => s.takeCommand s.holdRefused State.takeHold) s

/-- RESUME (R166): refused in every state but HOLD. -/
def execResume (s : State) : Host.Outcome State Fault Refusal :=
  event (s.awaits .resume) (fun s => s.takeCommand (s.station.state != .hold) State.enterListen) s

/-- R102: the on-line frame, if there is one, is lost and the number advances. -/
def State.dropOnLine (s : State) : State := if s.line.onLine.isSome then s.loseFrame else s

/-- R102: the restart of the line interface. -/
def State.lineRestart (s : State) : State :=
  let s1 := s.dropOnLine
  { s1 with line := { s1.line with nextSlot := none, rxQueue := [], rxMode := .skip, rxChars := [],
                                    rxTooLong := false } }.composeReport

/-- LINE_RESTART (R102); refused in START (R192). -/
def execLineRestart (s : State) : Host.Outcome State Fault Refusal :=
  event (s.awaits .lineRestart) (fun s => s.takeCommand (s.station.state == .start) State.lineRestart) s

/-- R169: a RESTART that passes its tests: at once, or pending on its LEAVING. Neither ends DONE here (R190). -/
def State.takeRestart (s : State) (straps : BitVec 5) : State :=
  if s.restartAtOnce then s.warmRestart straps
  else { s with station := { s.station with restartPending := true } }.composeLeaving

/-- R189 for RESTART: the tests, then R169. -/
def State.restartCommand (s : State) (straps : BitVec 5) : State :=
  if badArgument s.port.mailbox.code s.port.mailbox.argument then s.conclude .badArgument
  else if s.station.state == .start then s.conclude .notNow
  else s.takeRestart straps

/-- RESTART (R169, R170, R190). -/
def execRestart (straps : BitVec 5) (s : State) : Host.Outcome State Fault Refusal :=
  event (s.awaits .restart) (fun s => s.restartCommand straps) s

end Sys2Proof.Machine
end

