-- ==== Sys2Proof/Machine/LineEvents.lean ====
section
/-! DEFINITION. The line interface's events (chapter 5) and the listen timer (R165). -/

namespace Sys2Proof.Machine
open Sys2Proof

/-! ## Receiving (R81 to R85) -/

/-- R84: a good frame joins the queue, or overruns it. -/
def State.queueFrame (s : State) (bytes : List Byte) : State :=
  if s.line.rxQueue.length < Config.queueSize then
    { s with line := { s.line with rxQueue := s.line.rxQueue ++ [bytes] } }.count .framesReceived 1
  else (s.count .receiveOverruns 1).raise .receiveOverrun

/-- R81: characters join the frame being collected; 31 are kept, and a 32nd marks the frame too long. -/
def Line.receive (l : Line) (chars : List RxChar) : Line :=
  let all := l.rxChars ++ chars
  { l with rxChars := all.take Config.frameMax, rxTooLong := l.rxTooLong || Config.frameMax < all.length }

/-- R81, R83: characters are collected as a frame in one mode alone. -/
def State.hears (s : State) (chars : List RxChar) : State :=
  match s.line.rxMode with
  | .collect => { s with line := s.line.receive chars }
  | .off | .skip | .ownEcho | .ownDamaged => s

/-- R81: the first character after this frame end begins a new frame. -/
def State.collectAnew (s : State) : State :=
  { s with line := { s.line with rxMode := .collect, rxChars := [], rxTooLong := false } }

/-- R82: what the collected frame is worth; one marked too long fails the first check. -/
def Line.verdict (l : Line) : FrameVerdict := if l.rxTooLong then .damaged else frameVerdict l.rxChars

/-- R82: the fate of the collected frame; a frame end that closes no character closes no frame. -/
def State.judgeFrame (s : State) : State :=
  if s.line.rxChars.isEmpty then s.collectAnew
  else match s.line.verdict with
    | .damaged => s.collectAnew.count .framesDamaged 1
    | .foreign => s.collectAnew.count .framesForeign 1
    | .good => s.collectAnew.queueFrame (s.line.rxChars.map RxChar.byte)

/-- R82, R83, R85: the frame end in each receiver mode. After a failed attempt the next frame end closes its frame and
counts it damaged, whatever it closes: a peer's frame, or none where no character was read back (log 29). -/
def State.frameEnds (s : State) : State :=
  match s.line.rxMode with
  | .off => s
  | .skip | .ownEcho => s.collectAnew
  | .ownDamaged => s.collectAnew.count .framesDamaged 1
  | .collect => s.judgeFrame

/-- R81: the characters are received, and a quiet time of 2 character times after them is a frame end; after a shorter one the
frame goes on. -/
def State.receivesFrom (s : State) (r : Reception) : State :=
  let s1 := s.hears (r.chars.map rxChar)
  if Config.frameEndQuiet ≤ charTimes r.quietMicros then s1.frameEnds else s1

/-- R83, R85: frame ends are taken after START while no attempt is being sent. -/
def State.receives (s : State) : Bool := s.station.state != .start && !s.line.sending

/-- FRAME_END (R81 to R85), with the characters that have come before it and the quiet time after them (log 5). -/
def execFrameEnd (r : Reception) (s : State) : Host.Outcome State Fault Refusal :=
  event s.receives (fun s => s.receivesFrom r) s

/-! ## Sending (R90 to R98) -/

/-- R90: the periodic firing: the composition, then the periodic notice. -/
def State.reportFires (s : State) : State :=
  ({ s with line := { s.line with reportTimer := some 0 } }.composeReport).periodicNotice

/-- REPORT_TIMER (R90). -/
def execReportTimer (s : State) : Host.Outcome State Fault Refusal :=
  event (reached Config.reportPeriod s.line.reportTimer) State.reportFires s

/-- R93: the access wait in character times. -/
def accessWait (number failures : Nat) : Nat := 4 + number + 8 * failures

/-- R93: may an attempt start after this quiet time? -/
def State.mayStart (s : State) (quietMicros : Nat) : Bool :=
  match s.line.onLine with
  | some o => !o.sending && accessWait s.station.number o.failures ≤ charTimes quietMicros
  | none => false

/-- R93: the attempt begins. -/
def State.startAttempt (s : State) : State :=
  { s with line := { s.line with onLine := s.line.onLine.map (fun o => { o with sending := true }) } }

/-- ATTEMPT_START (R93). -/
def execAttemptStart (quietMicros : Nat) (s : State) : Host.Outcome State Fault Refusal :=
  event (s.mayStart quietMicros) State.startAttempt s

/-- R94 to R96, R88: an attempt fails: retry, supersede or loss; a lost LEAVING lets the restart take effect. -/
def State.attemptMisses (s : State) (o : OnLine) (straps : BitVec 5) : State :=
  let s1 := { s with line := { s.line with rxMode := .ownDamaged } }
  if o.failures + 1 < Config.maxFailures then s1.retry o (o.failures + 1)
  else s1.loseFrame.moveUp.leavingFinished o.frame.kind straps

/-- ECHO_MISMATCH (R94 to R96): a character of the attempt is not echoed. -/
def execEchoMismatch (a : AttemptEnd) (s : State) : Host.Outcome State Fault Refusal :=
  event (s.line.echoes a.readBack .mismatch)
    (fun s => match s.line.onLine with
      | some o => s.attemptMisses o a.straps
      | none => s) s

/-- R97, R167: a delivery notice takes a station in ISOLATED to LISTEN. -/
def State.deliveryNotice (s : State) : State := if s.station.state == .isolated then s.enterListen else s

/-- R97, R83, R88: an attempt has echoed all its characters. -/
def State.attemptDelivers (s : State) (o : OnLine) (straps : BitVec 5) : State :=
  let s1 := { s with line := { s.line with rxMode := .ownEcho } }
  (s1.deliverFrame.moveUp.deliveryNotice).leavingFinished o.frame.kind straps

/-- DELIVERY (R94, R97): every character of the attempt is echoed. -/
def execDelivery (a : AttemptEnd) (s : State) : Host.Outcome State Fault Refusal :=
  event (s.line.echoes a.readBack .delivered)
    (fun s => match s.line.onLine with
      | some o => s.attemptDelivers o a.straps
      | none => s) s

/-! ## The failsafe and the listen period (R99, R165) -/

/-- R99: the station states in which the delivery timer isolates. -/
def StationState.isolable : StationState → Bool
  | .listen | .run => true
  | .start | .configFault | .hold | .isolated | .quiet => false

/-- DELIVERY_TIMER_EXPIRY (R99, R167). -/
def execDeliveryTimerExpiry (s : State) : Host.Outcome State Fault Refusal :=
  event (s.station.state.isolable && reached Config.failsafe s.line.deliveryTimer) State.enterIsolated s

/-- LISTEN_TIMER_EXPIRY (R165). -/
def execListenTimerExpiry (s : State) : Host.Outcome State Fault Refusal :=
  event (s.station.state == .listen && ranOut s.station.listen) State.enterRun s

end Sys2Proof.Machine
end

