-- ==== Sys2Proof/Machine/MeasureEvents.lean ====
section
/-! DEFINITION. The events of measurement and demand: the scan and the hold, HH and LL timers. -/

namespace Sys2Proof.Machine
open Sys2Proof

/-- R1: a scan falls due in the five working states, 1 s after the one before (log 25). -/
def State.scanDue (s : State) : Bool := s.station.state.working && reached Config.scanPeriod s.meas.scanClock

/-- SCAN (R1, R15, R19, R142): the codes, the derived set, demand, and the prebleed test. -/
def execScan (k : Codes) (s : State) : Host.Outcome State Fault Refusal :=
  event s.scanDue (fun s => ((s.takeScan k).scanDemand).prebleedTest) s

/-- R5: is a channel in HOLDING with its hold timer at 60 s? -/
def ChannelRec.holdOver (r : ChannelRec) : Bool := r.state == .holding && Config.holdLimit ≤ r.holdTimer

/-- HOLD_TIMER_EXPIRY (R5). -/
def execHoldTimerExpiry (c : Chan) (s : State) : Host.Outcome State Fault Refusal :=
  event (s.meas.channel c).holdOver (fun s => s.probeFails c) s

/-- HH_TIMER_EXPIRY (R25): once for each run of the timer. -/
def execHhTimerExpiry (s : State) : Host.Outcome State Fault Refusal :=
  event (reached Config.alarmDelay s.demand.hhTimer && !s.demand.hhCondition) State.hhExpires s

/-- LL_TIMER_EXPIRY (R30): once for each run of the timer. -/
def execLlTimerExpiry (s : State) : Host.Outcome State Fault Refusal :=
  event (reached Config.alarmDelay s.demand.llTimer && !s.demand.llCondition) State.llExpires s

end Sys2Proof.Machine
end

