-- ==== Sys2Proof/Machine/MeterEvents.lean ====
section
/-! DEFINITION. The meter and feed unit's events (chapter 7). -/

namespace Sys2Proof.Machine
open Sys2Proof

/-- The settled level of a meter (R119). -/
def Feed.level (f : Feed) : Meter → Bool
  | .makeup => f.makeupLevel
  | .blowdown => f.blowdownLevel

/-- The meter and feed unit with a meter's settled level replaced. -/
def Feed.setLevel (f : Feed) (m : Meter) (high : Bool) : Feed :=
  match m with
  | .makeup => { f with makeupLevel := high }
  | .blowdown => { f with blowdownLevel := high }

/-- The edge mode of a meter (R120). -/
def edgeMode (c : EffConfig) : Meter → EdgeMode
  | .makeup => c.edgeMakeup
  | .blowdown => c.edgeBlowdown

/-- R119: is this a change of a meter's settled level: a level that has held for the debounce time without a break, other
than the settled one, in a state in which meters are read? -/
def State.meterChanges (s : State) (m : Meter) (i : Held Bool) : Bool :=
  s.station.state.working && s.feed.level m != i.level && s.station.cfg.debounce ≤ i.heldFor

/-- R121, R122: a pulse of a meter. -/
def State.meterPulse (s : State) : Meter → State
  | .makeup => s.makeupPulse
  | .blowdown => s.blowdownPulse

/-- R119, R120: the level settles, and is a pulse or not by the edge mode. -/
def State.meterSettles (s : State) (m : Meter) (high : Bool) : State :=
  let s1 := { s with feed := s.feed.setLevel m high }
  if edgePulse (edgeMode s.station.cfg m) high then s1.meterPulse m else s1

/-- METER_SETTLED (R119 to R122): the new level has held for the debounce time. -/
def execMeterSettled (m : Meter) (i : Held Bool) (s : State) : Host.Outcome State Fault Refusal :=
  event (s.meterChanges m i) (fun s => s.meterSettles m i.level) s

/-- R123, R125: both rings turn, the clock starts again, and a hold past its 60 s is tested. Whether the estimate is read
before or after the boundary empties the oldest slot is the model's choice: after it (log 32). The spec gives both orders
only for a boundary at the instant of the 60 s. -/
def State.slotTurns (s : State) : State :=
  let s1 := { s with feed := { s.feed with makeupRing := turnRing s.feed.makeupRing,
                                           blowdownRing := turnRing s.feed.blowdownRing, slotClock := some 0 } }
  match s1.feed.noFlow with
  | some w => if w.tested then s1.noFlowTest else s1
  | none => s1

/-- SLOT_BOUNDARY (R123). -/
def execSlotBoundary (s : State) : Host.Outcome State Fault Refusal :=
  event (reached Config.slotSpan s.feed.slotClock) State.slotTurns s

/-- R125: has the watched hold reached 60 s, and is its first test still to be made? -/
def State.noFlowDue (s : State) : Bool :=
  match s.feed.noFlow with
  | some w => Config.noFlowTime ≤ w.holdTime && !w.tested
  | none => false

/-- R125: the first test of a hold. -/
def State.firstNoFlowTest (s : State) : State :=
  { s with feed := { s.feed with noFlow := s.feed.noFlow.map (fun (w : NoFlowWatch) => { w with tested := true }) } }.noFlowTest

/-- NO_FLOW_HOLD_TIME (R125). -/
def execNoFlowHoldTime (s : State) : Host.Outcome State Fault Refusal := event s.noFlowDue State.firstNoFlowTest s

/-- R127: has the stroke clock reached the stroke interval, and is that still to be taken? -/
def State.strokeClockOver (s : State) : Bool :=
  s.station.state.working && reached (s.station.cfg.strokeInterval * 1000) s.feed.strokeClock && !s.feed.strokePassed

/-- STROKE_CLOCK_EXPIRY (R127). -/
def execStrokeClockExpiry (s : State) : Host.Outcome State Fault Refusal := event s.strokeClockOver State.strokeIntervalPasses s

end Sys2Proof.Machine
end

