-- ==== Sys2Proof/Machine/OutputEvents.lean ====
section
/-! DEFINITION. The output unit's events (chapter 6): valve feedback, the confirm time of a check, the end of a pulse. -/

namespace Sys2Proof.Machine
open Sys2Proof

/-- R105: is this a change of the observed state of a valve with feedback: a level that has stood for 250 ms without a
break, other than the settled one, in a state in which feedback is compared? -/
def State.feedbackChanges (s : State) (v : Valve) (i : Held ValvePos) : Bool :=
  s.station.state.working && (s.valve v).feedbackPresent && (s.valve v).settled != i.level && Config.settleTime ≤ i.heldFor

/-- R107, R112: the valve is seen to open: an open check passes, an unbidden opening is reported and watched. -/
def State.seenOpen (s : State) (v : Valve) : State :=
  let r := { s.valve v with settled := .opened }
  match r.check with
  | .openCheck => s.setValve v { r with check := .none, timer := none }
  | .none =>
    if r.commanded == .closed then (s.setValve v { r with check := .closeWatch, timer := none }).unbiddenOpenNotice v
    else s.setValve v r
  | .closeCheck | .closeWatch => s.setValve v r

/-- R108, R109, R111: the valve is seen to close: a close check or watch ends, a drop-out starts an open check. -/
def State.seenClosed (s : State) (v : Valve) : State :=
  let r := { s.valve v with settled := .closed }
  match r.check with
  | .closeCheck | .closeWatch => (s.setValve v { r with check := .none, timer := none }).closedNotice v
  | .none =>
    if r.commanded == .opened then s.setValve v { r with check := .openCheck, timer := some 0 } else s.setValve v r
  | .openCheck => s.setValve v r

/-- The change of the observed state applied to the valve's check (R107 to R112). -/
def State.feedbackSettles (s : State) (v : Valve) (lvl : ValvePos) : State :=
  match lvl with
  | .opened => s.seenOpen v
  | .closed => s.seenClosed v

/-- FEEDBACK_SETTLED (R105): the new level has held for 250 ms. -/
def execFeedbackSettled (v : Valve) (i : Held ValvePos) (s : State) : Host.Outcome State Fault Refusal :=
  event (s.feedbackChanges v i) (fun s => s.feedbackSettles v i.level) s

/-- The confirm time in milliseconds (section 6.1). -/
def confirmMs (c : EffConfig) : Nat := c.confirmTime * 1000

/-- Has a valve's check of this kind run for the confirm time? -/
def State.checkOver (s : State) (v : Valve) (k : Check) : Bool :=
  s.station.state.working && (s.valve v).check == k && reached (confirmMs s.station.cfg) (s.valve v).timer

/-- R107: an observed OPEN that falls at the instant of the expiry is seen with it: the feedback input of a valve with
feedback has then stood open for the settle time. -/
def ValveRec.openedBy (r : ValveRec) (openHeldFor : Nat) : ValveRec :=
  if r.feedbackPresent && Config.settleTime ≤ openHeldFor then { r with settled := .opened } else r

/-- R107: the check returns to NONE, and the open-failed notice is sent. Where an observed OPEN falls at the same instant,
the valve is commanded closed while it is seen open, and its close check runs. -/
def State.openFails (s : State) (v : Valve) (openHeldFor : Nat) : State :=
  (s.setValve v { (s.valve v).openedBy openHeldFor with check := .none, timer := none }).openFailedNotice v

/-- OPEN_CHECK_EXPIRY (R107). -/
def execOpenCheckExpiry (k : OpenCheckEnd) (s : State) : Host.Outcome State Fault Refusal :=
  event (s.checkOver k.valve .openCheck) (fun s => s.openFails k.valve k.openHeldFor) s

/-- R109, R110: a valve still seen open goes to CLOSE WATCH with the close-failed notice; any other gives the closed
notice. -/
def State.closeCheckEnds (s : State) (v : Valve) : State :=
  let r := s.valve v
  if r.observed == .opened then
    (s.setValve v { r with check := .closeWatch, timer := none }).closeFailedNotice v
  else (s.setValve v { r with check := .none, timer := none }).closedNotice v

/-- CLOSE_CHECK_EXPIRY (R109, R110). -/
def execCloseCheckExpiry (v : Valve) (s : State) : Host.Outcome State Fault Refusal :=
  event (s.checkOver v .closeCheck) (fun s => s.closeCheckEnds v) s

/-- R116: the inhibitor output goes low. -/
def State.endPulse (s : State) : State := { s with out := { s.out with inhibitorPulse := none } }

/-- STROKE_PULSE_END (R116): the 200 ms are over. -/
def execStrokePulseEnd (s : State) : Host.Outcome State Fault Refusal :=
  event (reached Config.strokePulse s.out.inhibitorPulse) State.endPulse s

end Sys2Proof.Machine
end

