-- ==== Sys2Proof/Machine/PanelEvents.lean ====
section
/-! DEFINITION. The panel's reads and the arrival of a posted command (chapter 11). Each read is a snapshot event of R184
at its record number and index. -/

namespace Sys2Proof.Machine
open Sys2Proof

/-- READ_STATION (R184, R186). -/
def execReadStation (s : State) : Host.Outcome State Fault Refusal := .next (s.readRecord 1 0)

/-- READ_MEASURE (R18, R135). -/
def execReadMeasure (s : State) : Host.Outcome State Fault Refusal := .next (s.readRecord 2 0)

/-- READ_POOL (R187). -/
def execReadPool (p : Pool) (s : State) : Host.Outcome State Fault Refusal := .next (s.readRecord 3 p.index)

/-- READ_PEER (R79). -/
def execReadPeer (index : Byte) (s : State) : Host.Outcome State Fault Refusal := .next (s.readRecord 4 index.toNat)

/-- READ_COUNTER (R182). -/
def execReadCounter (index : Byte) (s : State) : Host.Outcome State Fault Refusal := .next (s.readRecord 5 index.toNat)

/-- READ_HISTOGRAM (R182). -/
def execReadHistogram (s : State) : Host.Outcome State Fault Refusal := .next (s.readRecord 6 0)

/-- READ_EVENTS (R176). -/
def execReadEvents (s : State) : Host.Outcome State Fault Refusal := .next (s.readRecord 7 0)

/-- READ_BALANCE (R135). -/
def execReadBalance (s : State) : Host.Outcome State Fault Refusal := .next (s.readRecord 8 0)

/-- READ_BIOCIDE (R154). -/
def execReadBiocide (s : State) : Host.Outcome State Fault Refusal := .next (s.readRecord 9 0)

/-- READ_CONFIG (R185). -/
def execReadConfig (s : State) : Host.Outcome State Fault Refusal := .next (s.readRecord 10 0)

/-- READ_RESET_CAUSE (R157). -/
def execReadResetCause (s : State) : Host.Outcome State Fault Refusal := .next (s.readRecord 11 0)

/-- OUT_OF_RANGE (R184): status OUT OF RANGE with no content, for every record and index the table does not give. -/
def execOutOfRange (record index : Byte) (s : State) : Host.Outcome State Fault Refusal :=
  .next (s.readRecord record.toNat index.toNat)

/-- UNKNOWN_TRANSACTION (R183): ignored to its end; nothing but 0x00 is shifted out. -/
def execUnknownTransaction (_firstByte : Byte) (s : State) : Host.Outcome State Fault Refusal := .next (s.respond [])

/-- READ_MAILBOX (R188). -/
def execReadMailbox (s : State) : Host.Outcome State Fault Refusal :=
  .next (s.respond (if s.held.isSome then [] else s.port.mailbox.bytes))

/-- R188: the arrival stores the command and makes the mailbox PENDING; no owner has taken it yet. -/
def State.storeCommand (s : State) (code : Byte) (argument : Word32) : State :=
  { s with port := { s.port with mailbox := { state := .pending, code := code, argument := argument, result := .none },
                                 clearedBy := none } }

/-- R189, test 1: a command code outside 1..8. -/
def unknownCode (code : Byte) : Bool := code == 0 || 8 < code.toNat

/-- R188, R189: the arrival: a collision, a refusal by test 1 or 2 within the event, or a command left for its owner. -/
def State.arrive (s : State) (code : Byte) (argument : Word32) : State :=
  if s.port.mailbox.state == .pending then s.raise .mailboxCollision
  else
    let s1 := s.storeCommand code argument
    if unknownCode code then s1.conclude .unknown
    else if badArgument code argument then s1.conclude .badArgument
    else s1

/-- POST_COMMAND (R188); the transaction has no response (R183). -/
def execPostCommand (code : Byte) (argument : Word32) (s : State) : Host.Outcome State Fault Refusal :=
  event true (fun s => (s.respond []).arrive code argument) s

end Sys2Proof.Machine
end

