-- ==== Sys2Proof/Machine/PeerEvents.lean ====
section
/-! DEFINITION. The peer table's events (chapter 4): frames taken from the receive queue, freshness and dropping. -/

namespace Sys2Proof.Machine
open Sys2Proof

/-! ## Entries (R68 to R73, R76) -/

/-- R76: does a cap carried by a FRESH peer differ from this station's own? -/
def PeerEntry.disagrees (e : PeerEntry) (c : EffConfig) : Bool :=
  e.freshness == .fresh &&
  (e.discharge.cap != c.capDischarge || e.supply.cap != c.capSupply || e.biocide.cap != c.capBiocide)

/-- R76: the mismatch mark recomputed. -/
def PeerEntry.marked (e : PeerEntry) (c : EffConfig) : PeerEntry := { e with mismatch := e.disagrees c }

/-- R70: the sequence numbers skipped between the last report and this one; a repeat skips none. -/
def skipped (last seq : Byte) : Nat := if seq = last then 0 else (seq - last - 1).toNat

/-- R68, R69, R70: the entry a REPORT leaves, from the entry before it, if there is one. -/
def PeerEntry.updated (old : Option PeerEntry) (b : List Byte) (c : EffConfig) : PeerEntry :=
  let e := (PeerEntry.ofReport b).marked c
  match old with
  | none => e
  | some o => { e with missed := min 65535 (o.missed + skipped o.lastSeq e.lastSeq) }

/-- R65: the table with an entry in its slot, in station-number order. -/
def putPeer (e : PeerEntry) : List PeerEntry → List PeerEntry
  | [] => [e]
  | x :: rest =>
    if x.number < e.number then x :: putPeer e rest
    else if x.number = e.number then e :: rest
    else e :: x :: rest

/-- The table without a station's entry. -/
def dropPeer (n : Nat) (l : List PeerEntry) : List PeerEntry := l.filter (fun e => e.number != n)

/-- R76: CAP MISMATCH when the mismatch set has gone from empty to non-empty. -/
def State.mismatchNotice (s : State) (before : Bool) : State :=
  if !before && s.capMismatch then s.raise .capMismatch else s

/-- R75, R36, R43: the notice to the claim engine: the effective caps, then one evaluation of each engine. -/
def State.tableNotice (s : State) : State := s.recomputeCaps.evaluateAll

/-- R68, R69: a REPORT from another station. -/
def State.takeReport (s : State) (b : List Byte) : State :=
  let old := s.peerAt (nat1At b 2)
  let s1 := { s with peers := putPeer (PeerEntry.updated old b s.station.cfg) s.peers }
  let s2 := if old.isNone then s1.raise .peerJoined else s1
  (s2.mismatchNotice s.capMismatch).tableNotice

/-- R72, R73: an entry is deleted with PEER DROPPED and a deletion notice. -/
def State.deletePeer (s : State) (n : Nat) : State :=
  ({ s with peers := dropPeer n s.peers }.raise .peerDropped).tableNotice

/-- R73: a LEAVING from another station; from an empty slot it changes nothing. -/
def State.takeLeaving (s : State) (b : List Byte) : State :=
  if (s.peerAt (nat1At b 2)).isSome then s.deletePeer (nat1At b 2) else s

/-! ## Taking a frame (R66, R74) -/

/-- R74, R168, R169: a frame with the own number: the event, the alarm, QUIET, and a pending restart takes effect. -/
def State.duplicate (s : State) (straps : BitVec 5) : State :=
  let s1 := ((s.raise .duplicateStation).occur .duplicateStation).enterQuiet
  if s1.station.restartPending then s1.warmRestart straps else s1

/-- The kind of a frame in the receive queue: it has passed R82. -/
def queuedKind (b : List Byte) : FrameKind := if byteAt b 1 = 1 then .report else .leaving

/-- R66: is the frame at the head of the queue of this kind, and are frames taken in this station state? -/
def State.headIs (s : State) (k : FrameKind) : Bool :=
  match s.line.rxQueue with
  | b :: _ => s.station.state != .start && queuedKind b == k
  | [] => false

/-- R66: the head leaves the queue. -/
def State.dequeue (s : State) : State := { s with line := { s.line with rxQueue := s.line.rxQueue.tail } }

/-- R66: what the table does with a taken frame: foreign, discarded, duplicate, or processed. -/
def State.takeFrame (s : State) (straps : BitVec 5) (process : State → List Byte → State) : State :=
  let b := s.line.rxQueue.headD []
  let s1 := s.dequeue
  if 32 ≤ nat1At b 2 then s1.count .framesForeign 1
  else if !s.station.state.reporting then s1
  else if nat1At b 2 = s.station.number then s1.duplicate straps
  else process s1 b

/-- REPORT_PROCESSED (R66 to R70, R74 to R76). -/
def execReportProcessed (straps : BitVec 5) (s : State) : Host.Outcome State Fault Refusal :=
  event (s.headIs .report) (fun s => s.takeFrame straps State.takeReport) s

/-- LEAVING_PROCESSED (R66, R73 to R75). -/
def execLeavingProcessed (straps : BitVec 5) (s : State) : Host.Outcome State Fault Refusal :=
  event (s.headIs .leaving) (fun s => s.takeFrame straps State.takeLeaving) s

/-! ## Age (R71, R72) -/

/-- R71: is there a FRESH entry for the number whose age clock has reached 6 s? -/
def State.staleDue (s : State) (n : Nat) : Bool :=
  match s.peerAt n with
  | some e => e.freshness == .fresh && Config.staleAfter ≤ e.age
  | none => false

/-- R71, R76: an entry goes STALE and leaves the mismatch set. -/
def PeerEntry.stale (e : PeerEntry) : PeerEntry := { e with freshness := .stale, mismatch := false }

/-- R71: the entry of a number made STALE. -/
def State.makeStale (s : State) (n : Nat) : State :=
  { s with peers := s.peers.map (fun e => if e.number = n then e.stale else e) }

/-- PEER_STALE (R71, R75). -/
def execPeerStale (n : Nat) (s : State) : Host.Outcome State Fault Refusal :=
  event (s.staleDue n) (fun s => ((s.makeStale n).raise .peerStale).tableNotice) s

/-- R72: is there an entry for the number whose age clock has reached 20 s? -/
def State.dropDue (s : State) (n : Nat) : Bool :=
  match s.peerAt n with
  | some e => Config.dropAfter ≤ e.age
  | none => false

/-- PEER_DROPPED (R72, R75). -/
def execPeerDropped (n : Nat) (s : State) : Host.Outcome State Fault Refusal :=
  event (s.dropDue n) (fun s => s.deletePeer n) s

end Sys2Proof.Machine
end

