-- ==== Sys2Proof/Machine/StartEvents.lean ====
section
/-! DEFINITION. The resets and the configuration attempts of START (R156 to R164). -/

namespace Sys2Proof.Machine
open Sys2Proof

/-- HELD_IN_RESET (R156): a reset cause begins. It is taken in every state. -/
def execHeldInReset (cause : ResetCause) (s : State) : Host.Outcome State Fault Refusal :=
  .next (s.holdInReset cause).driveLines

/-- COLD_RESET (R156 to R158): the cause ends. "A cold reset is taken in every station state". -/
def execColdReset (cause : ResetCause) (straps : BitVec 5) (s : State) : Host.Outcome State Fault Refusal :=
  .next (s.coldReset cause straps).driveLines

/-- The attempt START has in progress (R159). -/
def State.attempt (s : State) : Option Nat :=
  match s.station.state, s.station.work with
  | .start, .attempt n => some n
  | _, _ => none

/-- R159: attempt `n` has failed: the wait before the next, or CONFIG FAULT after the third. -/
def State.attemptFails (s : State) (n : Nat) (reason : FaultReason) : State :=
  if n < Config.maxAttempts then { s with station := { s.station with work := .retryWait n 0 } }
  else s.enterConfigFault reason

/-- R159: the attempt has an answer: the device acknowledges its address in both phases and the offset byte. -/
def memoryAnswers (m : MemoryAnswer) : Bool := m.acksWrite && m.acksOffset && m.acksRead

/-- R159: the byte that addresses the device: its 7-bit address, then 1 for reading and 0 for writing. -/
def addressByte (read : Bool) : Byte := Config.memoryAddress ++ BitVec.ofBool read

/-- R159: the bytes read, each acknowledged but the last. -/
def receiveActs : List Byte → List BusAct
  | [] => []
  | [b] => [.receive b false]
  | b :: c :: rest => .receive b true :: receiveActs (c :: rest)

/-- R159: the transaction of one attempt, act by act. At a byte that is not acknowledged the record ends: the spec does not
say what the part then puts on the lines (log 33). -/
def imageTransaction (m : MemoryAnswer) : List BusAct :=
  [.start, .send (addressByte false)] ++
  if !m.acksWrite then [] else
    [.send Config.imageOffset] ++
    if !m.acksOffset then [] else
      [.repeatedStart, .send (addressByte true)] ++ if !m.acksRead then [] else receiveActs m.bytes ++ [.stop]

/-- R159, R160: why an attempt fails, none if it passes every check. -/
def attemptFault (m : MemoryAnswer) : Option FaultReason := if memoryAnswers m then imageFault m.bytes else some .noAnswer

/-- R159 to R163: the end of attempt `n`, its transaction on the bus done. -/
def State.attemptEnds (s : State) (n : Nat) (m : MemoryAnswer) (i : StartInputs) : State :=
  let s1 := { s with station := { s.station with bus := imageTransaction m } }
  match attemptFault m with
  | some reason => s1.attemptFails n reason
  | none => s1.enterListenFromStart m.bytes i

/-- CONFIG_ATTEMPT (R159 to R164): one read of the configuration image completes. -/
def execConfigAttempt (answer : MemoryAnswer) (i : StartInputs) (s : State) : Host.Outcome State Fault Refusal :=
  quietEvent s.attempt.isSome (fun s => s.attemptEnds (s.attempt.getD 0) answer i) s

/-- R159: has the 5 ms wait after a failed attempt run out? -/
def State.retryOver (s : State) : Bool :=
  match s.station.state, s.station.work with
  | .start, .retryWait _ t => Config.attemptGap ≤ t
  | _, _ => false

/-- R159: the next attempt begins. -/
def State.nextAttempt (s : State) : State :=
  match s.station.work with
  | .retryWait n _ => { s with station := { s.station with work := .attempt (n + 1) } }
  | .idle | .attempt _ => s

/-- CONFIG_RETRY_DELAY (R159): the 5 ms wait ends and the next attempt begins. -/
def execConfigRetryDelay (s : State) : Host.Outcome State Fault Refusal := event s.retryOver State.nextAttempt s

end Sys2Proof.Machine
end

