-- ==== Sys2Proof/Machine/Dispatch.lean ====
section
/-! DEFINITION. One arm per command, each a direct call of its meaning. -/

namespace Sys2Proof.Machine
open Sys2Proof

def exec (i : Instr) (s : State) : Host.Outcome State Fault Refusal :=
  match i with
  | .coldReset cause straps => Sys2Proof.Machine.execColdReset cause straps s
  | .configAttempt answer inputs => Sys2Proof.Machine.execConfigAttempt answer inputs s
  | .configRetryDelay => Sys2Proof.Machine.execConfigRetryDelay s
  | .scan codes => Sys2Proof.Machine.execScan codes s
  | .holdTimerExpiry channel => Sys2Proof.Machine.execHoldTimerExpiry channel s
  | .hhTimerExpiry => Sys2Proof.Machine.execHhTimerExpiry s
  | .llTimerExpiry => Sys2Proof.Machine.execLlTimerExpiry s
  | .askWindowExpiry pool => Sys2Proof.Machine.execAskWindowExpiry pool s
  | .confirmPeriodExpiry pool => Sys2Proof.Machine.execConfirmPeriodExpiry pool s
  | .ageingStep pool => Sys2Proof.Machine.execAgeingStep pool s
  | .minimumRunEnd pool => Sys2Proof.Machine.execMinimumRunEnd pool s
  | .maxRunExpiry pool => Sys2Proof.Machine.execMaxRunExpiry pool s
  | .reportProcessed straps => Sys2Proof.Machine.execReportProcessed straps s
  | .leavingProcessed straps => Sys2Proof.Machine.execLeavingProcessed straps s
  | .peerStale number => Sys2Proof.Machine.execPeerStale number s
  | .peerDropped number => Sys2Proof.Machine.execPeerDropped number s
  | .frameEnd r => Sys2Proof.Machine.execFrameEnd r s
  | .reportTimer => Sys2Proof.Machine.execReportTimer s
  | .attemptStart quietMicros => Sys2Proof.Machine.execAttemptStart quietMicros s
  | .echoMismatch attempt => Sys2Proof.Machine.execEchoMismatch attempt s
  | .delivery attempt => Sys2Proof.Machine.execDelivery attempt s
  | .deliveryTimerExpiry => Sys2Proof.Machine.execDeliveryTimerExpiry s
  | .listenTimerExpiry => Sys2Proof.Machine.execListenTimerExpiry s
  | .feedbackSettled valve input => Sys2Proof.Machine.execFeedbackSettled valve input s
  | .openCheckExpiry check => Sys2Proof.Machine.execOpenCheckExpiry check s
  | .closeCheckExpiry valve => Sys2Proof.Machine.execCloseCheckExpiry valve s
  | .strokePulseEnd => Sys2Proof.Machine.execStrokePulseEnd s
  | .meterSettled meter input => Sys2Proof.Machine.execMeterSettled meter input s
  | .slotBoundary => Sys2Proof.Machine.execSlotBoundary s
  | .noFlowHoldTime => Sys2Proof.Machine.execNoFlowHoldTime s
  | .strokeClockExpiry => Sys2Proof.Machine.execStrokeClockExpiry s
  | .intervalTimerExpiry => Sys2Proof.Machine.execIntervalTimerExpiry s
  | .prebleedShort => Sys2Proof.Machine.execPrebleedShort s
  | .doseTimeExpiry => Sys2Proof.Machine.execDoseTimeExpiry s
  | .contactTimeExpiry => Sys2Proof.Machine.execContactTimeExpiry s
  | .readStation => Sys2Proof.Machine.execReadStation s
  | .readMeasure => Sys2Proof.Machine.execReadMeasure s
  | .readPool pool => Sys2Proof.Machine.execReadPool pool s
  | .readPeer index => Sys2Proof.Machine.execReadPeer index s
  | .readCounter index => Sys2Proof.Machine.execReadCounter index s
  | .readHistogram => Sys2Proof.Machine.execReadHistogram s
  | .readEvents => Sys2Proof.Machine.execReadEvents s
  | .readBalance => Sys2Proof.Machine.execReadBalance s
  | .readBiocide => Sys2Proof.Machine.execReadBiocide s
  | .readConfig => Sys2Proof.Machine.execReadConfig s
  | .readResetCause => Sys2Proof.Machine.execReadResetCause s
  | .outOfRange record index => Sys2Proof.Machine.execOutOfRange record index s
  | .unknownTransaction firstByte => Sys2Proof.Machine.execUnknownTransaction firstByte s
  | .readMailbox => Sys2Proof.Machine.execReadMailbox s
  | .postCommand code argument => Sys2Proof.Machine.execPostCommand code argument s
  | .acknowledge => Sys2Proof.Machine.execAcknowledge s
  | .biocideNow => Sys2Proof.Machine.execBiocideNow s
  | .hold => Sys2Proof.Machine.execHold s
  | .resume => Sys2Proof.Machine.execResume s
  | .clearCounters => Sys2Proof.Machine.execClearCounters s
  | .setMask => Sys2Proof.Machine.execSetMask s
  | .lineRestart => Sys2Proof.Machine.execLineRestart s
  | .restart straps => Sys2Proof.Machine.execRestart straps s
  | .heldInReset cause => Sys2Proof.Machine.execHeldInReset cause s

end Sys2Proof.Machine
end

