-- ==== Sys2Proof/Machine/Time.lean ====
section
/-! DEFINITION. Time: what one millisecond does to every running timer (log 1, log 3). It is the step of the block when no
command waits. -/

namespace Sys2Proof.Machine
open Sys2Proof

/-- A running timer one millisecond on, standing at its limit; a stopped one stays stopped. -/
def runOn (limit : Nat) (t : Option Nat) : Option Nat := t.map (upTo limit)

/-- A remaining time one millisecond on, standing at 0. -/
def runDown (t : Option Nat) : Option Nat := t.map (fun n => n - 1)

/-- R3: the hold timer runs in HOLDING. -/
def ChannelRec.tick (r : ChannelRec) : ChannelRec :=
  if r.state = .holding then { r with holdTimer := upTo Config.holdLimit r.holdTimer } else r

/-- R1, R3: the scan clock and the hold timers. -/
def Measurement.tick (m : Measurement) : Measurement :=
  { m with cb := m.cb.tick, tb := m.tb.tick, cm := m.cm.tick, tm := m.tm.tick, lv := m.lv.tick,
           scanClock := runOn Config.scanPeriod m.scanClock }

/-- R25, R30: the alarm timers. -/
def Demand.tick (q : Demand) : Demand :=
  { q with hhTimer := runOn Config.alarmDelay q.hhTimer, llTimer := runOn Config.alarmDelay q.llTimer }

/-- R38, R40, R44, R50: an engine's timers; the ageing clock runs in ASKING and CONFIRMING alone. -/
def Engine.tick (e : Engine) (maxRun : Nat) : Engine :=
  { e with
    phase := runOn Config.askWindow e.phase, maxRun := runOn maxRun e.maxRun,
    ageingClock := match e.state with
      | .asking | .confirming => upTo Config.ageingStep e.ageingClock
      | .rest | .holding | .releasing | .stuck | .locked => e.ageingClock }

/-- The three engines. -/
def Claim.tick (k : Claim) (c : EffConfig) : Claim :=
  { discharge := k.discharge.tick (c.maxRun .discharge), supply := k.supply.tick (c.maxRun .supply),
    biocide := k.biocide.tick (c.maxRun .biocide) }

/-- R65, R71, R72: the age clock of an entry. -/
def PeerEntry.tick (e : PeerEntry) : PeerEntry := { e with age := upTo Config.dropAfter e.age }

/-- R90, R99: the report timer, and the delivery timer, which runs on without a limit. -/
def Line.tick (l : Line) : Line :=
  { l with reportTimer := runOn Config.reportPeriod l.reportTimer, deliveryTimer := l.deliveryTimer.map (fun t => t + 1) }

/-- R107, R109: a valve's check timer. -/
def ValveRec.tick (r : ValveRec) (confirm : Nat) : ValveRec := { r with timer := runOn confirm r.timer }

/-- The output unit's timers. -/
def Output.tick (o : Output) (c : EffConfig) : Output :=
  { o with blowdown := o.blowdown.tick (c.confirmTime * 1000), makeup := o.makeup.tick (c.confirmTime * 1000),
           inhibitorPulse := runOn Config.strokePulse o.inhibitorPulse }

/-- R125: the watched hold. -/
def NoFlowWatch.tick (w : NoFlowWatch) : NoFlowWatch := { w with holdTime := upTo Config.noFlowTime w.holdTime }

/-- R123, R125, R127: the clocks of the meter and feed unit. -/
def Feed.tick (f : Feed) (c : EffConfig) : Feed :=
  { f with slotClock := runOn Config.slotSpan f.slotClock, noFlow := f.noFlow.map NoFlowWatch.tick,
           strokeClock := runOn (c.strokeInterval * 1000) f.strokeClock }

/-- R136: the sequencer's timers. -/
def Sequencer.tick (b : Sequencer) : Sequencer :=
  { b with interval := runDown b.interval, overdue := b.overdue.map (fun t => t + 1), phase := runDown b.phase }

/-- R159: the wait between two attempts. -/
def StartWork.tick : StartWork → StartWork
  | .retryWait n t => .retryWait n (upTo Config.attemptGap t)
  | .idle => .idle
  | .attempt n => .attempt n

/-- R159, R165: station control's times. -/
def Station.tick (t : Station) : Station := { t with listen := runDown t.listen, work := t.work.tick }

/-- The timers that run in the five working states alone (R1, R136; the others are stopped outside them). -/
def State.tickWorking (s : State) : State :=
  if s.station.state.working then { s with meas := s.meas.tick, demand := s.demand.tick, bio := s.bio.tick } else s

/-- One millisecond. While the part is held in reset only the present time goes on. -/
def State.tick (s : State) : State :=
  if s.held.isSome then { s with now := s.now + 1 }
  else
    { s.tickWorking with
      now := s.now + 1, claim := s.claim.tick s.station.cfg, peers := s.peers.map PeerEntry.tick, line := s.line.tick,
      out := s.out.tick s.station.cfg, feed := s.feed.tick s.station.cfg, station := s.station.tick }

end Sys2Proof.Machine
end

