-- ==== Sys2Proof/Machine/Transactions.lean ====
section
/-! DEFINITION. A panel transaction at the machine (R183): the command it is joins the queue, and what the part shifts out
while it lasts. -/

namespace Sys2Proof.Machine
open Sys2Proof

/-- R183: a transaction with these bytes from the controller: its command waits behind those that wait; one that ends early
has no effect. -/
def State.transaction (s : State) (sent : List Byte) : State :=
  match transactionCommand sent with
  | some c => { s with pending := s.pending ++ [c] }
  | none => s

/-- R183: what the part shifts out with these bytes from the controller, once the transaction's event has been taken. One
that ends early gives 0x00 alone. -/
def State.shiftsOut (s : State) (sent : List Byte) : List Byte :=
  shiftedOut sent (if (transactionCommand sent).isSome then s.port.response else [])

/-- R183: a transaction by the levels of its clock and data line. -/
def State.spiTransaction (s : State) (levels : List SpiLevels) : State := s.transaction (spiReceived levels)

/-- R183: the part's data line during such a transaction, once its event has been taken; a byte that chip-select cuts short has
begun like any other. -/
def State.spiShiftsOut (s : State) (levels : List SpiLevels) : List Bool :=
  let sent := spiReceived levels
  let response := if (transactionCommand sent).isSome then s.port.response else []
  spiDriven false ((shiftedOut (sent ++ [0]) response).flatMap spiBits) levels

end Sys2Proof.Machine
end

