-- ==== Sys2Proof/Safety.lean ====
section
/-! DEFINITION. What counts as a sound state of the station, in the terms the statements use: predicates of one state, each
from a rule of spec/. -/

namespace Sys2Proof.Machine
open Sys2Proof

/-- R117, R177, R164, R156: the two output lines show what the alarm list, the flags, the mask, the station state and a
standing reset cause make of them. -/
def LinesFollow (s : State) : Prop := s.out.relay = s.relayLevel ∧ s.port.attention = s.attentionLevel

/-- The setting of a statement about an event: no reset cause holds the part (R156), and its two lines show what they
should. -/
def Live (s : State) : Prop := s.held = none ∧ LinesFollow s

/-- What an event with one trigger of R90, the change of an engine state, of the cycle state or of the alarm summary, ends
with: one report, where the station composes any, and the two lines (R117, R177). -/
def State.told (s : State) : State := s.composeReport.driveLines

/-- What an event with `n` triggers of R90 ends with: a report for each, all of the event's outcome (log 6), and the two
lines. -/
def State.toldTimes (s : State) (n : Nat) : State := (s.composeReports n).driveLines

/-- What an event that began in `base`, has counted and has `n` triggers of R90 ends with: besides, where counters of several
blocks crossed in it, the last counter field names one of them, by a free value (R173, log 23). -/
def State.toldAfter (s base : State) (n : Nat) : State := ((s.composeReports n).nameLast base).driveLines

/-- The triggers of R90 in an event that changes one engine's state and reports a VALVE FAULT: the engine state, and the
alarm summary unless it showed both the alarm and the valve fault before. -/
def State.faultTriggers (s : State) : Nat := if s.alarmCondition = true ∧ s.valveFault = true then 1 else 2

/-- R159: the serial memory acknowledges its address in both phases and the offset byte. -/
def Answers (m : MemoryAnswer) : Prop := m.acksWrite = true ∧ m.acksOffset = true ∧ m.acksRead = true

/-- R159, R160: the reason for which an attempt to read the configuration image fails: no answer, or the first check it
fails. -/
def FailsWith (m : MemoryAnswer) (reason : FaultReason) : Prop :=
  (¬ Answers m ∧ reason = .noAnswer) ∨
  (Answers m ∧
    ((byteAt m.bytes 0 ≠ 0x4B ∧ reason = .format) ∨
     (byteAt m.bytes 0 = 0x4B ∧ byteAt m.bytes 1 ≠ 64 ∧ reason = .length) ∨
     (byteAt m.bytes 0 = 0x4B ∧ byteAt m.bytes 1 = 64 ∧ crcBytes (m.bytes.take 62) ≠ (m.bytes.drop 62).take 2 ∧
       reason = .crc)))

/-- R159: the part's acts on the I2C lines in an attempt: start, address 0x50 for writing, offset 0x00, repeated start,
address 0x50 for reading, the bytes read, each acknowledged but the last, and a stop; as far as the memory acknowledges
(log 33). -/
def BusShows (m : MemoryAnswer) (bus : List BusAct) : Prop :=
  (m.acksWrite = false → bus = [.start, .send 0xA0]) ∧
  (m.acksWrite = true → m.acksOffset = false → bus = [.start, .send 0xA0, .send 0x00]) ∧
  (m.acksWrite = true → m.acksOffset = true → m.acksRead = false →
    bus = [.start, .send 0xA0, .send 0x00, .repeatedStart, .send 0xA1]) ∧
  (Answers m → bus = [.start, .send 0xA0, .send 0x00, .repeatedStart, .send 0xA1] ++
    m.bytes.dropLast.map (fun b => .receive b true) ++ m.bytes.getLast?.toList.map (fun b => .receive b false) ++ [.stop])

/-- The two commands of a cold reset, taken while the part is held (R156). -/
def isReset : Instr → Bool
  | .coldReset _ _ | .heldInReset _ => true
  | _ => false

/-- The panel transactions that have a response: the reads, READ MAILBOX, and one that is ignored (R183, R184, R188). -/
def isTransaction : Instr → Bool
  | .readStation | .readMeasure | .readPool _ | .readPeer _ | .readCounter _ | .readHistogram | .readEvents
  | .readBalance | .readBiocide | .readConfig | .readResetCause | .outOfRange _ _ | .unknownTransaction _
  | .readMailbox => true
  | _ => false

/-- R183: bits as a controller in mode 0 clocks them: the data set while the clock is low, then the clock high. -/
def spiClocked (bits : List Bool) : List SpiLevels :=
  bits.flatMap (fun x => [{ clock := false, data := x }, { clock := true, data := x }])

/-- R183: the bits such a controller samples on the part's data line. -/
def spiRead (levels : List SpiLevels) (out : List Bool) : List Bool :=
  spiSampled false (List.zipWith (fun l x => { l with data := x }) levels out)

/-- The enable mark of a channel (R7). -/
def enabled (c : EffConfig) : Chan → Bool
  | .cb => c.enableCb
  | .tb => c.enableTb
  | .cm => c.enableCm
  | .tm => c.enableTm
  | .lv => c.enableLv

/-- Every counter but those named has the same value in both states. -/
def CountersKept (s t : State) (but : List Counter) : Prop :=
  ∀ i, i < 20 → i + 1 ∉ but.map Counter.number → t.stats.counterAt (i + 1) = s.stats.counterAt (i + 1)

/-- R109: the valve has feedback and is seen closed. -/
def ValveRec.seenClosed (r : ValveRec) : Bool := r.feedbackPresent && r.settled == .closed

/-- R106, R109: a valve commanded closed, its close check begun. -/
def ValveRec.closing (r : ValveRec) : ValveRec := { r with commanded := .closed, check := .closeCheck, timer := some 0 }

/-- R109: a valve commanded closed with nothing left to wait for. -/
def ValveRec.shut (r : ValveRec) : ValveRec := { r with commanded := .closed, check := .none, timer := none }

/-- R38, R40, R48: an engine as it stands in REST. -/
def Engine.atRest (e : Engine) : Engine :=
  { e with state := .rest, ageing := 0, ageingClock := 0, phase := none, windowExpired := false, reask := false,
           lock := false }

/-- R40: an engine that has just entered ASKING from REST. -/
def Engine.justAsking (e : Engine) (now : Nat) : Engine :=
  { e with state := .asking, ageing := 0, ageingClock := 0, phase := some 0, windowExpired := false, reask := false,
           grantWait := some now }

/-- R53: an engine as its release at `s` leaves it: in LOCKED with its lock mark; in ASKING with its ageing kept where its
re-ask mark is set, standing for a need it still has (R52), in RUN; otherwise arrived in REST, passing on to ASKING by R40. -/
def Engine.released (e : Engine) (s : State) : Engine :=
  if e.lock then { e with state := .locked, lock := false, reask := false, ageing := 0, ageingClock := 0 }
  else if e.reask && e.need && s.inRun then
    { e with state := .asking, phase := some 0, windowExpired := false, reask := false, grantWait := some s.now }
  else if s.inRun && e.need then e.atRest.justAsking s.now
  else e.atRest

/-- R53: the second way ends this engine's release: no lock mark, and its re-ask mark set in RUN, with the need it stands for
(R52). -/
def Engine.reasks (e : Engine) (s : State) : Bool := !e.lock && e.reask && e.need && s.inRun

/-- R49, R50, R61: an engine as a release that is no yield leaves it in RELEASING: ageing 0, its hold ended, the re-ask mark
as given. -/
def Engine.letGo (e : Engine) (reask : Bool) : Engine :=
  { e with state := .releasing, phase := none, holdStart := none, maxRun := none, releaseDeferred := false, ageing := 0,
           ageingClock := 0, reask := reask, lock := false }

/-- R188, R189: the mailbox holds this command, with no argument, for its owner to take, and no RESTART awaits its
LEAVING (R190). -/
def Posted (s : State) (c : PanelCommand) : Prop :=
  s.port.mailbox.state = .pending ∧ s.port.mailbox.code = c.code ∧ s.port.mailbox.argument = 0 ∧
  s.station.restartPending = false

/-- R189: the mailbox DONE with a result, and COMMAND DONE raised. -/
def State.done (s : State) (r : MailResult) : State :=
  { s with port := { s.port with mailbox := { s.port.mailbox with state := .done, result := r } },
           stats := { s.stats with flags := s.stats.flags ||| BitVec.twoPow 32 31 } }

/-- A pool engine that asks for nothing and holds nothing: REST, RELEASING, STUCK or LOCKED. -/
def EngineState.passive : EngineState → Bool
  | .rest | .releasing | .stuck | .locked => true
  | .asking | .confirming | .holding => false

/-- R43: what the evaluations of a table event are made on: the engines as they were, on the table and the effective caps as
the event leaves them. -/
def evaluatedOn (s t : State) : State :=
  { s with
    peers := t.peers,
    claim := { discharge := { s.claim.discharge with effCap := t.claim.discharge.effCap },
               supply := { s.claim.supply with effCap := t.claim.supply.effCap },
               biocide := { s.claim.biocide with effCap := t.claim.biocide.effCap } } }

/-- R47: an engine as its yield leaves it in RELEASING: re-ask set, ageing and ageing clock kept. -/
def Engine.yielded (e : Engine) : Engine :=
  { e with state := .releasing, phase := none, holdStart := none, maxRun := none, releaseDeferred := false, reask := true,
           lock := false }

/-- R44, R45, R47: what the evaluation of a pool's engine on `u` has made of it in `t`, for an engine in ASKING, in CONFIRMING
and in HOLDING, the last for a pool with a valve. A yield whose valve is already seen closed ends its release at once. -/
def Evaluated (u t : State) (p : Pool) : Prop :=
  let e := u.engine p
  (e.state = .asking → e.windowExpired = true → u.fits p = true → t.engine p =
    { e with state := .confirming, windowExpired := false, phase := some 0, heldUrgency := min 255 (e.base + e.ageing) }) ∧
  (e.state = .asking → e.windowExpired = false ∨ u.fits p = false → t.engine p = e) ∧
  (e.state = .confirming ∨ e.state = .holding → u.fits p = true → t.engine p = e) ∧
  (e.state = .confirming → u.fits p = false →
    t.engine p = { e with state := .asking, phase := some 0, windowExpired := false } ∧ t.stats.flag .withdraw = true ∧
    t.stats.counter (.withdrawals p) = u.stats.counter (.withdrawals p) + 1) ∧
  (∀ v : Valve, v.pool = p → e.state = .holding → u.fits p = false →
    t.engine p = (if (u.valve v).seenClosed then e.yielded.released u else e.yielded) ∧
    t.valve v = (if (u.valve v).seenClosed then (u.valve v).shut else (u.valve v).closing) ∧
    t.stats.flag .yield = true ∧ t.stats.counter (.yields p) = u.stats.counter (.yields p) + 1)

/-- R47, R60, R148: what a yield of the BIOCIDE engine on `u` has made in `t`: REST, where R40 applies, and an abort of a
cycle in one of its three phases. -/
def BiocideYielded (u t : State) : Prop :=
  t.stats.flag .yield = true ∧ t.stats.counter (.yields .biocide) = u.stats.counter (.yields .biocide) + 1 ∧
  (t.engine .biocide).holdStart = none ∧
  (u.bio.cycle.abortable = true → (t.engine .biocide).state = .rest ∧ t.bio.cycle = .idle ∧
    t.bio.interval = some 3600000 ∧ t.bio.abortMark = true ∧ t.stats.flag .biocideAborted = true ∧
    t.demand.force = false ∧ t.demand.suppress = false) ∧
  (u.bio.cycle.abortable = false → t.bio = u.bio ∧
    (t.engine .biocide).state = if u.inRun = true ∧ (u.engine .biocide).need = true then .asking else .rest)

/-- R43: the three evaluations of a table event from `s` to `t`. In CLOSING the DISCHARGE engine is passive (DoseSealed), or at
least one whose yield would ask again, since an arrival in REST would begin the dose. The DISCHARGE clause stands where BIOCIDE
does not yield: its abort acts on DISCHARGE too. -/
def EvaluationsMade (s t : State) : Prop :=
  let u := evaluatedOn s t
  s.stats.counters.length = 20 → (s.bio.cycle = .closing →
      (s.engine .discharge).state.passive = true ∨ (s.inRun = true ∧ (s.engine .discharge).need = true)) →
    Evaluated u t .supply ∧ Evaluated u t .biocide ∧
    ((s.engine .biocide).state = .holding → u.fits .biocide = false → BiocideYielded u t) ∧
    (¬ ((s.engine .biocide).state = .holding ∧ u.fits .biocide = false) → Evaluated u t .discharge)

/-- R27, R61, R144, R145: what an event from `s` to `t` in which the cycle enters CLOSING makes of DISCHARGE and of the
cycle, by the state its engine had. -/
def ClosingEntered (s t : State) : Prop :=
  ((s.engine .discharge).state ≠ .stuck → t.demand.force = false ∧ t.demand.suppress = true ∧
    t.demand.dDemand = false ∧ t.demand.dBase = 0 ∧ (t.engine .discharge).need = false) ∧
  ((s.engine .discharge).state = .holding → s.out.blowdown.seenClosed = false →
    (t.engine .discharge).state = .releasing ∧ (t.engine .discharge).reask = false ∧
    (t.engine .discharge).lock = false ∧ (t.engine .discharge).ageing = 0 ∧
    t.out.blowdown = s.out.blowdown.closing ∧ t.feed = { s.feed with noFlow := none } ∧
    t.bio = { s.bio with cycle := .closing, phase := none } ∧ t.out.biocidePump = s.out.biocidePump) ∧
  ((s.engine .discharge).state = .releasing →
    (t.engine .discharge).state = .releasing ∧
    ((t.engine .discharge).reask = true → (s.engine .discharge).reask = true ∧ (s.engine .discharge).need = false) ∧
    t.bio = { s.bio with cycle := .closing, phase := none }) ∧
  ((s.engine .discharge).state = .rest ∨ (s.engine .discharge).state = .asking ∨
    (s.engine .discharge).state = .confirming ∨ (s.engine .discharge).state = .locked ∨
    ((s.engine .discharge).state = .holding ∧ s.out.blowdown.seenClosed = true) →
    (t.engine .discharge).state = (if (s.engine .discharge).state = .locked then .locked else .rest) ∧
    t.bio = { s.bio with cycle := .dosing, phase := some (s.station.cfg.doseTime * 1000) } ∧
    t.out.biocidePump = true) ∧
  ((s.engine .discharge).state = .stuck →
    t.bio.cycle = .idle ∧ t.bio.interval = some 3600000 ∧ t.bio.abortMark = true ∧
    t.stats.flag .biocideAborted = true ∧ t.demand.suppress = false)

/-- R40, R48, R49, R52: what a need notice to a valve pool's engine in the event from `s` to `t` has made of it, where that
event does nothing else to it. `n` is the engine with the need and the base it now has. -/
def NeedTaken (s t : State) (v : Valve) : Prop :=
  let e := s.engine v.pool
  let a := t.engine v.pool
  let n := { e with need := a.need, base := a.base }
  (a.need = e.need → a = n) ∧
  (e.need = false → a.need = true →
    (e.state = .rest → a = if s.inRun then n.justAsking s.now else n) ∧
    (e.state = .holding → a = { n with releaseDeferred := false }) ∧
    (e.state = .releasing → a = { n with reask := !e.lock }) ∧
    (e.state = .asking ∨ e.state = .confirming ∨ e.state = .stuck ∨ e.state = .locked → a = n)) ∧
  (e.need = true → a.need = false →
    (e.state = .asking ∨ e.state = .confirming → a = { n.atRest with grantWait := none }) ∧
    (e.state = .holding → ∀ h ∈ e.holdStart, s.now - h < 20000 → a = { n with releaseDeferred := true }) ∧
    (e.state = .holding → ∀ h ∈ e.holdStart, 20000 ≤ s.now - h →
      a = (if (s.valve v).seenClosed then (n.letGo false).atRest else n.letGo false) ∧
      t.valve v = (if (s.valve v).seenClosed then (s.valve v).shut else (s.valve v).closing)) ∧
    (e.state = .releasing → a = { n with reask := false }) ∧
    (e.state = .rest ∨ e.state = .stuck ∨ e.state = .locked → a = n))

/-- R36: the effective cap of a pool is the smallest of the own cap and the caps that FRESH peers carry. -/
def CapsSmallest (s : State) : Prop :=
  ∀ p, (s.engine p).effCap ≤ s.station.cfg.cap p ∧
    (∀ e ∈ s.peers, e.freshness = .fresh → (s.engine p).effCap ≤ (e.pool p).cap) ∧
    ((s.engine p).effCap = s.station.cfg.cap p ∨
      ∃ e ∈ s.peers, e.freshness = .fresh ∧ (s.engine p).effCap = (e.pool p).cap)

/-- R77, R66: the table is empty in START, in CONFIG FAULT and in QUIET. -/
def TableOnlyReporting (s : State) : Prop := s.station.state.reporting = false → s.peers = []

/-- R92, R94, R98: the bytes of the on-line frame are the frame with the current sequence number and its CRC, fewer than
eight attempts of its chain have failed, and a frame waits in next only behind one on line. -/
def OnLineFrameReady (s : State) : Prop :=
  (∀ o, s.line.onLine = some o → o.bytes = o.frame.encode s.line.seq ∧ o.failures < 8) ∧
  (s.line.onLine = none → s.line.nextSlot = none)

/-- R61: outside RUN no pool engine is in ASKING, CONFIRMING or HOLDING. -/
def PassiveOutsideRun (s : State) : Prop := s.station.state ≠ .run → ∀ p, (s.engine p).state.passive = true

/-- R106: a valve is commanded open only while its pool engine is in HOLDING. -/
def OpenOnlyHolding (s : State) : Prop :=
  ∀ v : Valve, (s.valve v).commanded = .opened → (s.engine v.pool).state = .holding

/-- Section 6.1, R106 to R112: what the record of a valve is in each state of its engine, in a working station state. -/
def valveMatches (e : EngineState) (r : ValveRec) : Prop :=
  match e with
  | .holding => r.commanded = .opened ∧ r.check ≠ .closeCheck ∧ r.check ≠ .closeWatch
  | .releasing => r.commanded = .closed ∧ r.check = .closeCheck ∧ (r.feedbackPresent = true → r.settled = .opened)
  | .stuck => r.commanded = .closed ∧ r.check = .closeWatch ∧ r.feedbackPresent = true ∧ r.settled = .opened
  | .rest | .asking | .confirming | .locked =>
    r.commanded = .closed ∧ r.check = .none ∧ (r.feedbackPresent = true → r.settled = .closed)

/-- R106 to R112: both valves match their engines, while the part works. -/
def ValvesMatch (s : State) : Prop :=
  s.held = none → s.station.state.working = true →
    ∀ v : Valve, valveMatches (s.engine v.pool).state (s.valve v)

/-- R146: the cycle is in PREBLEED, CLOSING or DOSING only while the BIOCIDE engine is in HOLDING. -/
def PhasesHeld (s : State) : Prop := s.bio.cycle.abortable = true → (s.engine .biocide).state = .holding

/-- R115: the biocide pump is on only while the cycle is in DOSING. -/
def PumpOnlyDosing (s : State) : Prop := s.out.biocidePump = true → s.bio.cycle = .dosing

/-- R126, R81, R84, R38: the bounds of the owed strokes, the remainder, the frame being collected, the receive queue and the
ageing; R171, R174, R123:
twenty counters, fifteen histogram cells and twelve slots in each ring, a cell or a slot at most 65535; R172: a last counter
field of 0..20. -/
def Bounded (s : State) : Prop :=
  s.feed.owed ≤ 250 ∧ s.feed.remainder ≤ 999 ∧ s.line.rxQueue.length ≤ 4 ∧ s.line.rxChars.length ≤ 31 ∧ (∀ p, (s.engine p).ageing ≤ 55) ∧
  s.stats.counters.length = 20 ∧ s.stats.histogram.length = 15 ∧ s.feed.makeupRing.length = 12 ∧
  s.feed.blowdownRing.length = 12 ∧ (∀ n ∈ s.stats.histogram, n ≤ 65535) ∧ (∀ n ∈ s.feed.makeupRing, n ≤ 65535) ∧
  (∀ n ∈ s.feed.blowdownRing, n ≤ 65535) ∧ s.stats.lastCounter ≤ 20

/-- Section 10.5: at most one entry per alarm kind. -/
def OneEntryPerKind (s : State) : Prop := (s.stats.alarms.map AlarmEntry.kind).Nodup

/-- R65: the entries stand in station-number order, one for a number, none for 0, for a number above 31 or for the own
number. -/
def TableInOrder (s : State) : Prop :=
  s.peers.Pairwise (fun a b => a.number < b.number) ∧
  ∀ e ∈ s.peers, 1 ≤ e.number ∧ e.number ≤ 31 ∧ e.number ≠ s.station.number

/-- R82, check 7: no frame in the receive queue carries the source 0. -/
def QueueSourced (s : State) : Prop := ∀ b ∈ s.line.rxQueue, nat1At b 2 ≠ 0

/-- R36: no effective cap exceeds the own cap. -/
def CapsWithinOwn (s : State) : Prop := ∀ p, (s.engine p).effCap ≤ s.station.cfg.cap p

/-- R35: no claimed amount exceeds the own cap. -/
def AmountsWithinOwn (s : State) : Prop := ∀ p, (s.engine p).amount ≤ s.station.cfg.cap p

/-- R162: outside the working states no configuration is loaded and its fields are 0, and the engines claim nothing. -/
def UnloadedOutsideWork (s : State) : Prop :=
  s.station.state.working = false → s.station.cfg = EffConfig.zero ∧ ∀ p, (s.engine p).effCap = 0 ∧ (s.engine p).amount = 0

/-- R27, R116: biocide is in the basin, or the cycle is closing for it. -/
def Cycle.sealed : Cycle → Bool
  | .closing | .dosing | .contact => true
  | .idle | .due | .prebleed => false

/-- R27, R115, R145, R146: while the part works, the suppression request stands exactly from CLOSING to the end of CONTACT, and while
it stands demand is false and the DISCHARGE engine neither waits nor holds; and the engine's need is the demand handed on. -/
def DoseSealed (s : State) : Prop :=
  s.station.state.working = true →
    s.demand.suppress = s.bio.cycle.sealed ∧
    (s.demand.suppress = true → s.demand.dDemand = false ∧ (s.engine .discharge).state.passive = true) ∧
    (s.engine .discharge).need = s.demand.dDemand

end Sys2Proof.Machine
end

