-- ==== Sys2Proof/Certificates/Slice0/Obligations.lean ====
section
/-! DEFINITION. The statements for the provers, from the numbered rules of spec/. -/

open Sys2Proof Sys2Proof.Machine

/-! ## The queue, time, and the resets -/

/-- One step takes the command at the front of the queue and runs it on the queue's rest. -/
def Obligations.StepRunsFrontCommand : Prop :=
  ∀ (c : Instr) (rest : List Instr) (s : State), s.pending = c :: rest → step s = exec c { s with pending := rest }

/-- On an empty queue one millisecond passes in a part that is not held in reset (the model's choice, log 1; a held
part's tick, log 16, is left out): the engines keep their states, ageing clocks advance in ASKING and CONFIRMING alone
(R38), peer ages advance (R71), and the timers of the sequencer, the HH and LL timers, the scan clock and the hold
timers of channels in HOLDING run in the five working states and stand still in START and CONFIG FAULT (R136, R25,
R30, R1, R5); nothing is counted, raised or answered, and nothing but a timer changes: the report and delivery timers
of the line, the check and pulse timers of the outputs, the three clocks of the feed, the listen time and the retry
wait of the station, the phase and max-run timers of the engines, the two alarm timers of the demand, the channels'
hold timers and the scan clock. That a timer or clock stands at its limit until its expiry is taken is the model's
choice (log 3): so the ageing clock may show 4 s, where section 3.2 gives it 0 to just under 4 s. A peer's age runs
past 6 s and stands at 20 s by the model's reading (log 26). -/
def Obligations.EmptyQueueLetsOneMillisecondPass : Prop :=
  ∀ s : State, s.pending = [] → s.held = none → ∃ t, step s = .next t ∧
    t.now = s.now + 1 ∧ t.pending = [] ∧ t.stats = s.stats ∧ t.port = s.port ∧ t.freeIx = s.freeIx ∧ t.held = none ∧
    t.station.state = s.station.state ∧ t.bio.cycle = s.bio.cycle ∧
    (∀ p, (t.engine p).state = (s.engine p).state ∧ (t.engine p).ageing = (s.engine p).ageing ∧
      (t.engine p).ageingClock =
        if (s.engine p).state = .asking ∨ (s.engine p).state = .confirming then min 4000 ((s.engine p).ageingClock + 1)
        else (s.engine p).ageingClock) ∧
    t.peers = s.peers.map (fun e => { e with age := min 20000 (e.age + 1) }) ∧
    (s.station.state.working = true →
      t.bio.phase = s.bio.phase.map (fun r => r - 1) ∧ t.bio.interval = s.bio.interval.map (fun r => r - 1) ∧
      t.bio.overdue = s.bio.overdue.map (fun r => r + 1) ∧
      t.demand.hhTimer = s.demand.hhTimer.map (fun n => min 60000 (n + 1)) ∧
      t.demand.llTimer = s.demand.llTimer.map (fun n => min 60000 (n + 1)) ∧
      t.meas.scanClock = s.meas.scanClock.map (fun n => min 1000 (n + 1)) ∧
      (∀ c, (t.meas.channel c).holdTimer =
        if (s.meas.channel c).state = .holding then min 60000 ((s.meas.channel c).holdTimer + 1)
        else (s.meas.channel c).holdTimer)) ∧
    (s.station.state.working = false → t.bio = s.bio ∧ t.meas = s.meas ∧ t.demand = s.demand) ∧
    t.line = { s.line with reportTimer := s.line.reportTimer.map (fun n => min 2000 (n + 1)),
                           deliveryTimer := s.line.deliveryTimer.map (fun n => n + 1) } ∧
    t.out = { s.out with blowdown := { s.out.blowdown with timer := t.out.blowdown.timer },
                         makeup := { s.out.makeup with timer := t.out.makeup.timer },
                         inhibitorPulse := s.out.inhibitorPulse.map (fun n => min 200 (n + 1)) } ∧
    (∀ v, (t.valve v).timer = (s.valve v).timer.map (fun n => min (s.station.cfg.confirmTime * 1000) (n + 1))) ∧
    t.feed = { s.feed with slotClock := s.feed.slotClock.map (fun n => min 5000 (n + 1)),
                           noFlow := s.feed.noFlow.map (fun w => { w with holdTime := min 60000 (w.holdTime + 1) }),
                           strokeClock := s.feed.strokeClock.map
                             (fun n => min (s.station.cfg.strokeInterval * 1000) (n + 1)) } ∧
    t.station = { s.station with
      listen := s.station.listen.map (fun n => n - 1),
      work := (match s.station.work with
        | .retryWait n w => .retryWait n (min 5 (w + 1))
        | w => w) } ∧
    (∀ p, t.engine p = { s.engine p with
      phase := (s.engine p).phase.map (fun n => min 2500 (n + 1)),
      maxRun := (s.engine p).maxRun.map (fun n => min (s.station.cfg.maxRun p) (n + 1)),
      ageingClock := (t.engine p).ageingClock }) ∧
    t.bio = { s.bio with phase := t.bio.phase, interval := t.bio.interval, overdue := t.bio.overdue } ∧
    t.demand = { s.demand with hhTimer := t.demand.hhTimer, llTimer := t.demand.llTimer } ∧
    (∀ c, t.meas.channel c = { s.meas.channel c with holdTimer := (t.meas.channel c).holdTimer }) ∧
    t.meas.derived = s.meas.derived

/-- The machine after reset holds the values the rules give for a POWER reset: START, the POWER mark alone (R157),
channels GOOD with no value present (R16), engines in REST with no ageing (R63), an empty table (R77), both slots
and the queue empty with sequence number 0 (R103), valves commanded CLOSED and every output off (R113), accumulators
and owed strokes 0 (R133), the cycle IDLE (R153), counters, cells and flags 0 with the mask all ones (R181), the
mailbox EMPTY (R190). It satisfies every invariant stated below. -/
def Obligations.ResetStateIsColdAndSound : Prop :=
  (let s := State.reset
  s.station.state = .start ∧ s.station.loaded = false ∧
  s.station.causes = { power := true, pin := false, dip := false, command := false } ∧ s.station.bus = [] ∧
  (∀ c, (s.meas.channel c).state = .good ∧ (s.meas.channel c).window = [] ∧ (s.meas.channel c).present = false ∧
    (s.meas.channel c).averaged = 0) ∧
  (∀ p, (s.engine p).state = .rest ∧ (s.engine p).ageing = 0 ∧ (s.engine p).need = false) ∧ s.peers = [] ∧
  s.line.rxQueue = [] ∧ s.line.onLine = none ∧ s.line.nextSlot = none ∧ s.line.seq = 0 ∧
  (∀ v, (s.valve v).commanded = .closed ∧ (s.valve v).check = .none) ∧ s.out.biocidePump = false ∧
  s.out.inhibitorPulse = none ∧ s.out.relay = false ∧ s.feed.owed = 0 ∧ s.feed.remainder = 0 ∧ s.feed.makeupAcc = 0 ∧
  s.feed.blowdownAcc = 0 ∧ s.bio.cycle = .idle ∧ s.bio.abortMark = false ∧ s.stats.counters = List.replicate 20 0 ∧
  s.stats.histogram = List.replicate 15 0 ∧ s.stats.flags = 0 ∧ s.stats.mask = BitVec.allOnes 32 ∧
  s.stats.alarms = [] ∧ s.port.mailbox.state = .empty ∧ s.pending = []) ∧
  (LinesFollow State.reset ∧ PassiveOutsideRun State.reset ∧ OpenOnlyHolding State.reset ∧ ValvesMatch State.reset ∧
  PhasesHeld State.reset ∧ PumpOnlyDosing State.reset ∧ Bounded State.reset ∧ OneEntryPerKind State.reset ∧
  TableInOrder State.reset ∧ QueueSourced State.reset ∧ TableOnlyReporting State.reset ∧ CapsSmallest State.reset ∧
  AmountsWithinOwn State.reset ∧ UnloadedOutsideWork State.reset ∧ OnLineFrameReady State.reset ∧
  DoseSealed State.reset)

/-- HELD_IN_RESET (R156): from the beginning of a reset cause every output is closed or off and the attention line
released; the work in progress is cut off, a pending command is forgotten, both slots are empty and the line is not
read. Nothing else changes before the cause ends: the records the part had stand until COLD_RESET replaces them (the
model's reading, log 16), a valve's feedback among them; nothing is left to shift out. Of causes that overlap the later
takes the place of the earlier (the model's choice, log 30). -/
def Obligations.ResetCauseClosesEverything : Prop :=
  ∀ (cause : ResetCause) (s : State), ∃ t, exec (.heldInReset cause) s = .next t ∧
    t.held = some cause ∧ (∀ v, (t.valve v).commanded = .closed ∧ (t.valve v).check = .none ∧ (t.valve v).timer = none) ∧
    (∀ v, (t.valve v).settled = (s.valve v).settled ∧ (t.valve v).feedbackPresent = (s.valve v).feedbackPresent) ∧
    t.out.biocidePump = false ∧ t.out.inhibitorPulse = none ∧ t.out.relay = false ∧ t.port.attention = false ∧
    t.port.response = [] ∧ t.port.clearedBy = none ∧
    t.port.mailbox = { state := .empty, code := 0, argument := 0, result := .none } ∧ t.line.onLine = none ∧
    t.line.nextSlot = none ∧ t.line.rxMode = .off ∧ t.station.work = .idle ∧ t.station.restartPending = false ∧
    t = { s with held := t.held, out := t.out, port := t.port,
                 line := { s.line with onLine := none, nextSlot := none, rxMode := .off, leavingComposed := false },
                 station := { s.station with work := .idle, restartPending := false } }

/-- While a reset cause persists "the panel port answers no transaction" (R156): a read, a mailbox read and an unknown
transaction shift out nothing and change nothing else; every other command but the two of the resets changes nothing
at all. -/
def Obligations.HeldPartAnswersNothing : Prop :=
  ∀ (s : State) (c : Instr), s.held.isSome = true → isReset c = false →
    (isTransaction c = true → exec c s = .next { s with port := { s.port with response := [] } }) ∧
    (isTransaction c = false → exec c s = .next s)

/-- COLD_RESET (R156 to R158) in every state: the cause's mark as R157 gives it, every block at its cold values, and START
with the number read from the straps and its first configuration attempt; a number of 0 goes to CONFIG FAULT with NO
NUMBER, its alarm latched, the relay held off and the attention line asserted (R164). The feedback-present flags of the
last load stand at PIN and DIP (R105, R113), and the settled feedback with them; at POWER, the supply's first rise, there
has been no load. Among a block's cold values are the model's own where the spec gives a field at the configuration load
alone (log 11), and of causes that overlap the operand's ends the hold (log 30). -/
def Obligations.ColdResetStartsAnew : Prop :=
  ∀ (cause : ResetCause) (straps : BitVec 5) (s : State), ∃ t, exec (.coldReset cause straps) s = .next t ∧
    t.held = none ∧ t.now = s.now ∧ t.freeIx = s.freeIx ∧ t.pending = s.pending ∧
    t.station.causes =
      (match cause with
       | .power => { power := true, pin := false, dip := false, command := false }
       | .pin => { s.station.causes with pin := true }
       | .dip => { s.station.causes with dip := true }) ∧
    t.station.number = straps.toNat ∧ t.station.loaded = false ∧ t.station.cfg = EffConfig.zero ∧
    t.station.listen = none ∧ t.station.restartPending = false ∧ t.station.bus = [] ∧ t.meas = Measurement.reset ∧ t.demand = Demand.reset ∧
    t.claim = Claim.reset ∧ t.peers = [] ∧ t.feed = Feed.cold ∧ t.bio = Sequencer.cold ∧
    t.out = (match cause with
       | .power => Output.cold
       | .pin | .dip =>
         { blowdown := { s.out.blowdown with commanded := .closed, check := .none, timer := none },
           makeup := { s.out.makeup with commanded := .closed, check := .none, timer := none },
           biocidePump := false, inhibitorPulse := none, relay := false }) ∧
    t.port.mailbox = Mailbox.reset ∧ t.port.response = [] ∧
    (straps = 0 → t.station.state = .configFault ∧ t.station.fault = .noNumber ∧ t.station.work = .idle ∧
      t.line = { Line.reset with rxMode := .skip } ∧
      t.stats = { Stats.cold with alarms := [{ kind := .configFault, active := true, unack := true }] } ∧
      t.port.attention = true) ∧
    (straps ≠ 0 → t.station.state = .start ∧ t.station.fault = .none ∧ t.station.work = .attempt 1 ∧
      t.line = Line.reset ∧ t.stats = Stats.cold ∧ t.port.attention = false)

/-! ## START (R159 to R163) -/

/-- CONFIG_ATTEMPT that fails (R159, R160, R164) and CONFIG_RETRY_DELAY: an attempt is one transaction on the I2C lines, to
the device address 0x50: the offset 0x00 written, then, after a repeated start, the bytes read, each acknowledged but the
last, and a stop; it has no answer where the memory does not acknowledge its address in either phase or the offset (what
the record of the lines shows of such an attempt: log 33). Before the third attempt the 5 ms wait begins and nothing else
changes, and at its end the next attempt begins; the third failure takes the station to CONFIG FAULT with that attempt's
reason, the configuration not loaded, the CONFIG FAULT alarm latched, the relay off, the attention line asserted and the
receiver waiting for its first frame end. -/
def Obligations.FailedAttemptWaitsOrFaults : Prop :=
  (∀ answer : MemoryAnswer, BusShows answer (imageTransaction answer)) ∧
  ∀ (answer : MemoryAnswer) (i : StartInputs) (n w : Nat) (reason : FaultReason) (s : State), Live s →
    s.station.state = .start →
    (s.station.work = .attempt n → FailsWith answer reason → n < 3 →
      exec (.configAttempt answer i) s = .next
        { s with station := { s.station with work := .retryWait n 0, bus := imageTransaction answer } }) ∧
    (s.station.work = .retryWait n w → 5 ≤ w →
      exec .configRetryDelay s = .next { s with station := { s.station with work := .attempt (n + 1) } }) ∧
    (s.station.work = .attempt n → FailsWith answer reason → 3 ≤ n →
      exec (.configAttempt answer i) s = .next
        { s with
          station := { s.station with state := .configFault, cfg := EffConfig.zero, loaded := false, fault := reason,
                                      work := .idle, bus := imageTransaction answer },
          line := { s.line with rxMode := .skip },
          stats := { s.stats with alarms := latchAlarm s.stats.alarms .configFault },
          out := { s.out with relay := false }, port := { s.port with attention := true } })

/-- CONFIG_ATTEMPT with an answer that passes every check (R159, R160, R163): the station enters LISTEN with the effective
configuration, the listen, report and delivery timers started, each channel GOOD or OFF by its enable mark with the first
scan's code applied, each pool engine in REST with its amount and its own cap as the effective cap, or in RELEASING with
its close check begun where its valve has feedback and is seen open (R63, R113); the demand unit as the first scan sets
it, its demands handed on (R20 to R33), the suppression request of a kept CONTACT standing (R152); the sequencer's kept
times reduced to the loaded ones, or the full interval (R152, R153, log 14); the slot clock started, and a kept owed
stroke given (R128, R133); the kept balance mismatch and abort mark latched again (R152, R133); no peers evaluated; and
the first REPORT on line where the path was empty. Where an engine starts in RELEASING or the alarm summary changes, a
further REPORT waits behind it (R51, R90, log 6). -/
def Obligations.PassingAttemptEntersListen : Prop :=
  ∀ (b : List Byte) (i : StartInputs) (n : Nat) (s : State), s.held = none → s.station.state = .start →
    s.station.work = .attempt n → imageFault b = none →
    let answer : MemoryAnswer := { acksWrite := true, acksOffset := true, acksRead := true, bytes := b }
    ∃ t, exec (.configAttempt answer i) s = .next t ∧ LinesFollow t ∧
      t.station = { s.station with state := .listen, cfg := effectiveConfig b, loaded := true, fault := .none,
                                   listen := some 8000, work := .idle, bus := imageTransaction answer } ∧
      t.now = s.now ∧ t.held = none ∧ t.peers = s.peers ∧ t.pending = s.pending ∧ t.port.mailbox = s.port.mailbox ∧
      (∀ c, t.meas.channel c =
        (ChannelRec.loaded (enabled (effectiveConfig b) c)).take (scanCode i.codes c)) ∧
      t.meas.derived = t.meas.derive (effectiveConfig b) ∧ t.meas.scanClock = some 0 ∧
      (∀ p, (t.engine p).amount = (effectiveConfig b).amount p ∧ (t.engine p).effCap = (effectiveConfig b).cap p ∧
        (t.engine p).ageing = 0) ∧
      (t.engine .biocide).state = .rest ∧
      (t.engine .discharge).state =
        (if (effectiveConfig b).feedbackBlowdown = true ∧ i.blowdownFeedback = .opened then .releasing else .rest) ∧
      (t.engine .supply).state =
        (if (effectiveConfig b).feedbackMakeup = true ∧ i.makeupFeedback = .opened then .releasing else .rest) ∧
      (∀ v, (t.valve v).commanded = .closed) ∧ t.feed.makeupLevel = i.makeupMeter ∧
      t.feed.blowdownLevel = i.blowdownMeter ∧ t.line.rxMode = .skip ∧ t.line.reportTimer = some 0 ∧
      t.line.deliveryTimer = some 0 ∧
      (t.stats.flag .configClamped = (s.stats.flag .configClamped || configClampedBy b)) ∧
      (s.line.onLine = none → s.line.nextSlot = none → s.line.leavingComposed = false →
        t.line.onLine = some { frame := t.reportFrame, bytes := t.reportFrame.encode s.line.seq, failures := 0,
                               sending := false } ∧
        t.line.nextSlot =
          (if (t.engine .discharge).state = (s.engine .discharge).state ∧
              (t.engine .supply).state = (s.engine .supply).state ∧ (s.engine .biocide).state = .rest ∧
              t.alarmCondition = s.alarmCondition ∧ t.faultSummary = s.faultSummary
           then none else some t.reportFrame)) ∧
      (let c := effectiveConfig b
       (∀ v, t.valve v =
         { commanded := .closed, feedbackPresent := if v = .blowdown then c.feedbackBlowdown else c.feedbackMakeup,
           settled := if v = .blowdown then i.blowdownFeedback else i.makeupFeedback,
           check := if (t.engine v.pool).state = .releasing then .closeCheck else .none,
           timer := if (t.engine v.pool).state = .releasing then some 0 else none }) ∧
       t.demand.mode = (if c.mode = .k ∧ t.meas.derived.coc.isSome = true then .k else .c) ∧
       (t.demand.dMark = true ↔ ∃ k ∈ t.meas.derived.k25B,
         c.hh ≤ k ∨ setpoint c t.demand.mode ≤ controlled t.demand.mode t.meas.derived) ∧
       (t.demand.sMark = true ↔ ∃ l ∈ t.meas.derived.lv10, l ≤ c.ll ∨ l ≤ c.lOn) ∧
       (t.demand.dDemand, t.demand.dBase) = dischargeDemand c t.meas.derived t.demand ∧
       (t.demand.sDemand, t.demand.sBase) = supplyDemand c t.meas.derived t.demand ∧
       t.demand.bBase = biocideBase t.bio ∧ t.demand.hhCondition = false ∧ t.demand.llCondition = false ∧
       (t.demand.hhTimer = some 0 ∨ t.demand.hhTimer = none) ∧
       (t.demand.hhTimer = some 0 ↔ ∃ k ∈ t.meas.derived.k25B, c.hh ≤ k) ∧
       (t.demand.llTimer = some 0 ∨ t.demand.llTimer = none) ∧
       (t.demand.llTimer = some 0 ↔ ∃ l ∈ t.meas.derived.lv10, l ≤ c.ll) ∧ t.demand.force = false ∧
       t.demand.suppress = (s.bio.cycle == Cycle.contact) ∧
       (t.engine .discharge).need = t.demand.dDemand ∧ (t.engine .discharge).base = t.demand.dBase ∧
       (t.engine .supply).need = t.demand.sDemand ∧ (t.engine .supply).base = t.demand.sBase ∧
       (s.bio.cycle = .idle → t.bio =
         { s.bio with
           interval := some (min (s.bio.interval.getD (c.biocideInterval * 3600000)) (c.biocideInterval * 3600000)) }) ∧
       (s.bio.cycle = .contact → t.bio =
         { s.bio with phase := s.bio.phase.map (fun n => min n (c.contactTime * 1000)) }) ∧
       t.feed.slotClock = some 0 ∧ t.feed.remainder = s.feed.remainder ∧ t.feed.makeupAcc = s.feed.makeupAcc ∧
       t.feed.blowdownAcc = s.feed.blowdownAcc ∧ t.feed.balance = s.feed.balance ∧
       t.feed.mismatch = s.feed.mismatch ∧
       t.feed.owed = s.feed.owed - (if s.feed.paced = true then 1 else 0) ∧
       (0 < s.feed.owed → s.feed.paced = true → t.out.inhibitorPulse = some 0) ∧
       (s.feed.mismatch = true → { kind := .balanceMismatch, active := true, unack := true } ∈ t.stats.alarms) ∧
       (s.bio.abortMark = true → { kind := .biocideAborted, active := true, unack := true } ∈ t.stats.alarms))

/-- The effective configuration of every image (R161, R162, R35): every field is within its range, CB is enabled, L_off
is above L_on, DB does not exceed SP, and no amount exceeds its own cap. -/
def Obligations.EffectiveConfigurationIsInRange : Prop :=
  ∀ b : List Byte, let c := effectiveConfig b
    c.enableCb = true ∧ (500 ≤ c.fsB ∧ c.fsB ≤ 20000) ∧ (100 ≤ c.fsM ∧ c.fsM ≤ 20000) ∧ (100 ≤ c.alpha ∧ c.alpha ≤ 300) ∧
    (100 ≤ c.sp ∧ c.sp ≤ 20000) ∧ (10 ≤ c.db ∧ c.db ≤ 2000 ∧ c.db ≤ c.sp) ∧ (100 ≤ c.hh ∧ c.hh ≤ 20000) ∧
    (150 ≤ c.cyclesSp ∧ c.cyclesSp ≤ 2500) ∧ (5 ≤ c.cyclesDb ∧ c.cyclesDb ≤ 500) ∧
    (c.lOn < c.lOff ∧ c.lOff ≤ 1000) ∧ c.ll ≤ 1000 ∧ (1 ≤ c.kM ∧ c.kM ≤ 1000) ∧ (1 ≤ c.kB ∧ c.kB ≤ 1000) ∧
    (1 ≤ c.debounce ∧ c.debounce ≤ 100) ∧ (1 ≤ c.milliPerLitre ∧ c.milliPerLitre ≤ 10000) ∧
    (1 ≤ c.strokeInterval ∧ c.strokeInterval ≤ 60) ∧ (1 ≤ c.biocideInterval ∧ c.biocideInterval ≤ 168) ∧
    c.prebleedDrop ≤ 50 ∧ (60 ≤ c.prebleedLimit ∧ c.prebleedLimit ≤ 3600) ∧ (10 ≤ c.doseTime ∧ c.doseTime ≤ 3600) ∧
    (600 ≤ c.contactTime ∧ c.contactTime ≤ 14400) ∧ (10 ≤ c.capDischarge ∧ c.capDischarge ≤ 5000) ∧
    (10 ≤ c.capSupply ∧ c.capSupply ≤ 10000) ∧ (1 ≤ c.capBiocide ∧ c.capBiocide ≤ 8) ∧
    (∀ p, 1 ≤ c.amount p ∧ c.amount p ≤ c.cap p) ∧ (60 ≤ c.maxRunDischarge ∧ c.maxRunDischarge ≤ 3600) ∧
    (60 ≤ c.maxRunSupply ∧ c.maxRunSupply ≤ 3600) ∧ (2 ≤ c.confirmTime ∧ c.confirmTime ≤ 60) ∧
    (5 ≤ c.tolerance ∧ c.tolerance ≤ 50) ∧ (10 ≤ c.balanceInterval ∧ c.balanceInterval ≤ 10000)

/-! ## Measurement and demand (chapters 1 and 2) -/

/-- A run of good codes from a reset (R2, R4): the channel is GOOD with a value, its window holds the last four codes or
all of them if they are fewer, oldest first, and the averaged code is their mean rounded to nearest, a half up. A rail
code takes a channel in GOOD to HOLDING with its hold timer from 0 and leaves one in HOLDING as it is (R3); a good code in
either joins the window, the channel in GOOD with its hold timer 0 (R2, R3, R4). A channel in FAULT (R6) counts good
codes, a rail code starts the count again, and the fifth in a row brings it back to GOOD with that code alone in its
window. The derived set of five channel records (R8 to R13): each raw value is its averaged code scaled to its span, half
up, the two temperatures and the level among them (R9); κ25 is compensated at the temperature R11 chooses and is at most
20000; CoC100 is known exactly while CB and CM are both usable, is then κ25B × 100 / κ25M, half up, held within 100..2500,
and is 2500 with the cycles limit mark where κ25M is below 20. -/
def Obligations.ReadingsAverageAndConvert : Prop :=
  ((∀ codes : List Nat, codes ≠ [] → (∀ c ∈ codes, 1 ≤ c ∧ c ≤ 4094) →
    let r := codes.foldl ChannelRec.take ChannelRec.reset
    let w := codes.drop (codes.length - 4)
    r.state = .good ∧ r.window = w ∧ r.present = true ∧ 2 * w.length * r.averaged ≤ 2 * w.sum + w.length ∧
    2 * w.sum + w.length < 2 * w.length * (r.averaged + 1)) ∧
  (∀ (r : ChannelRec) (a b c d e : Nat), r.state = .fault →
    (∀ x ∈ [a, b, c, d, e], 1 ≤ x ∧ x ≤ 4094) →
    (r.recovery = 0 →
      ([a, b, c, d].foldl ChannelRec.take r) = { r with recovery := 4 } ∧
      ([a, b, c, d, e].foldl ChannelRec.take r) =
        { r with state := .good, window := [e], averaged := e, present := true, recovery := 0 }) ∧
    r.take 0 = { r with recovery := 0 } ∧ r.take 4095 = { r with recovery := 0 }) ∧
  (∀ (r : ChannelRec) (x : Nat),
    let w := (r.window ++ [x]).drop (r.window.length + 1 - 4)
    (x = 0 ∨ x = 4095 → r.state = .good → r.take x = { r with state := .holding, holdTimer := 0 }) ∧
    (x = 0 ∨ x = 4095 → r.state = .holding → r.take x = r) ∧
    (x ≠ 0 → x ≠ 4095 → r.state = .good ∨ r.state = .holding → r.take x =
      { r with state := .good, window := w, averaged := roundDiv w.sum w.length, present := true, holdTimer := 0 }))) ∧
  (∀ (m : Measurement) (c : EffConfig), let d := m.derive c
    let tb := if m.tb.usable then roundDiv (m.tb.averaged * 600) 4095 else 250
    let tm := if m.tm.usable then roundDiv (m.tm.averaged * 600) 4095 else tb
    d.rawB = (if m.cb.usable then some (roundDiv (m.cb.averaged * c.fsB) 4095) else none) ∧
    d.rawM = (if m.cm.usable then some (roundDiv (m.cm.averaged * c.fsM) 4095) else none) ∧
    d.lv10 = (if m.lv.usable then some (roundDiv (m.lv.averaged * 1000) 4095) else none) ∧
    d.t10B = (if m.tb.usable then some (roundDiv (m.tb.averaged * 600) 4095) else none) ∧
    d.t10M = (if m.tm.usable then some (roundDiv (m.tm.averaged * 600) 4095) else none) ∧
    d.k25B = d.rawB.map (fun r => min 20000 (roundDiv (r * 100000) (100000 + c.alpha * tb - c.alpha * 250))) ∧
    d.k25M = d.rawM.map (fun r => min 20000 (roundDiv (r * 100000) (100000 + c.alpha * tm - c.alpha * 250))) ∧
    (d.coc.isSome = (m.cb.usable && m.cm.usable)) ∧
    (∀ x, d.coc = some x → 100 ≤ x ∧ x ≤ 2500 ∧ (d.cyclesLimit = true → x = 2500)) ∧
    (∀ a ∈ d.k25B, ∀ b ∈ d.k25M, 20 ≤ b → d.coc = some (max 100 (min 2500 (roundDiv (a * 100) b)))) ∧
    (d.cyclesLimit = true ↔ m.cb.usable = true ∧ ∃ k, d.k25M = some k ∧ k < 20))

/-- SCAN (R1, R7, R15): each channel takes its code, a channel in OFF none; the derived set is that of the new records,
and the next scan falls due 1 s later. The station, the peers, the line's queue and its timers, the meters' totals,
the mailbox, the mask and every counter but reports superseded stay. -/
def Obligations.ScanTakesCodesAndDerives : Prop :=
  ∀ (k : Codes) (c : Chan) (s : State), s.held = none → s.station.state.working = true →
    reached 1000 s.meas.scanClock = true → ∃ t, exec (.scan k) s = .next t ∧
      t.meas.channel c = (s.meas.channel c).take (scanCode k c) ∧
      ((s.meas.channel c).state = .off → t.meas.channel c = s.meas.channel c) ∧
      t.meas.derived = t.meas.derive s.station.cfg ∧ t.meas.scanClock = some 0 ∧ LinesFollow t ∧
      t.station = s.station ∧ t.now = s.now ∧ t.held = none ∧ t.peers = s.peers ∧ t.pending = s.pending ∧
      t.feed = { s.feed with noFlow := t.feed.noFlow } ∧ t.port = { s.port with attention := t.port.attention } ∧
      t.line = { s.line with onLine := t.line.onLine, nextSlot := t.line.nextSlot } ∧
      t.stats.mask = s.stats.mask ∧ t.stats.histogram = s.stats.histogram ∧ CountersKept s t [.reportsSuperseded]

/-- SCAN hands on one consistent demand (R19 to R24, R27 to R32): the mode in force is K exactly where K is configured and
CoC100 known, a fall from K to C raising MODE FALLBACK (R20); the marks follow their thresholds; and the two demands and
three bases are those of the new derived set. An engine whose need and base were the ones handed on has the new ones. The
HH and LL timers start, run on or stop, and a condition whose timer stops ends with its alarm's activity (R25, R30).
CYCLES LIMIT is raised where its mark becomes set (R14), and PROBE RECOVERED where a channel leaves FAULT; with the last
one the PROBE FAULT condition ends (R6). SUPPLY demand and base are those of the table of section 2.6 (R28, R29), and the
BIOCIDE base is 100 + min(100, M) from DUE to DOSING and 0 otherwise (R31). The valve pools' engines take the notice by
their state: a need that turns true takes REST to ASKING in RUN, ends a deferral in HOLDING and sets the re-ask mark in
RELEASING; one that turns false takes ASKING and CONFIRMING to REST, HOLDING to RELEASING, or defers that to the minimum
run's end, and clears the re-ask mark (R40, R48, R49, R52). A cycle in PREBLEED enters CLOSING, or passes on to its dose,
where κ25B is known and at or below the target (R142, R144, R145), and stays otherwise, as in every other state (in
CLOSING with the demand suppressed, R27). That an engine leaving HOLDING has no hold start is the model's reading where
R49 does not list it (log 12). -/
def Obligations.ScanHandsOnDemand : Prop :=
  (∀ (k : Codes) (s : State), s.held = none → s.station.state.working = true →
    reached 1000 s.meas.scanClock = true → ∃ t, exec (.scan k) s = .next t ∧
      t.demand.mode = (if s.station.cfg.mode = .k ∧ t.meas.derived.coc.isSome = true then .k else .c) ∧
      t.demand.dMark =
        (if t.meas.derived.k25B = none then false
         else if s.station.cfg.hh ≤ t.meas.derived.k25B.getD 0 then true
         else if setpoint s.station.cfg t.demand.mode ≤ controlled t.demand.mode t.meas.derived then true
         else if controlled t.demand.mode t.meas.derived ≤ offThreshold s.station.cfg t.demand.mode then false
         else s.demand.dMark) ∧
      t.demand.sMark =
        (if t.meas.derived.lv10 = none then false
         else if t.meas.derived.lv10.getD 0 ≤ s.station.cfg.ll then true
         else if t.meas.derived.lv10.getD 0 ≤ s.station.cfg.lOn then true
         else if s.station.cfg.lOff ≤ t.meas.derived.lv10.getD 0 then false
         else s.demand.sMark) ∧
      (t.demand.dDemand, t.demand.dBase) = dischargeDemand s.station.cfg t.meas.derived t.demand ∧
      (t.demand.sDemand, t.demand.sBase) = supplyDemand s.station.cfg t.meas.derived t.demand ∧
      t.demand.bBase = biocideBase t.bio ∧
      ((s.engine .discharge).need = s.demand.dDemand → (s.engine .discharge).base = s.demand.dBase →
        (t.engine .discharge).need = t.demand.dDemand ∧ (t.engine .discharge).base = t.demand.dBase) ∧
      ((s.engine .supply).need = s.demand.sDemand → (s.engine .supply).base = s.demand.sBase →
        (t.engine .supply).need = t.demand.sDemand ∧ (t.engine .supply).base = t.demand.sBase) ∧
      ((∃ x ∈ t.meas.derived.k25B, s.station.cfg.hh ≤ x) →
        t.demand.hhTimer = some (s.demand.hhTimer.getD 0) ∧ t.demand.hhCondition = s.demand.hhCondition) ∧
      ((¬ ∃ x ∈ t.meas.derived.k25B, s.station.cfg.hh ≤ x) →
        t.demand.hhTimer = none ∧ t.demand.hhCondition = false ∧
        (s.demand.hhCondition = true → ∀ e ∈ t.stats.alarms, e.kind = .highConductivity → e.active = false)) ∧
      ((∃ x ∈ t.meas.derived.lv10, x ≤ s.station.cfg.ll) →
        t.demand.llTimer = some (s.demand.llTimer.getD 0) ∧ t.demand.llCondition = s.demand.llCondition) ∧
      ((¬ ∃ x ∈ t.meas.derived.lv10, x ≤ s.station.cfg.ll) →
        t.demand.llTimer = none ∧ t.demand.llCondition = false ∧
        (s.demand.llCondition = true → ∀ e ∈ t.stats.alarms, e.kind = .lowLevel → e.active = false)) ∧
      t.stats.flag .modeFallback =
        (s.stats.flag .modeFallback || (s.demand.mode == ControlMode.k && t.demand.mode == ControlMode.c)) ∧
      t.stats.flag .cyclesLimit =
        (s.stats.flag .cyclesLimit || (t.meas.derived.cyclesLimit && !s.meas.derived.cyclesLimit)) ∧
      (t.stats.flag .probeRecovered = true ↔ s.stats.flag .probeRecovered = true ∨
        ∃ c, (s.meas.channel c).state = .fault ∧ (t.meas.channel c).state = .good) ∧
      ((∃ c, (s.meas.channel c).state = .fault) → (∀ c, (t.meas.channel c).state ≠ .fault) →
        ∀ e ∈ t.stats.alarms, e.kind = .probeFault → e.active = false) ∧
      (let reached := s.bio.cycle = .prebleed ∧ ∃ x ∈ t.meas.derived.k25B, x ≤ s.bio.target
       (reached → (s.engine .discharge).need = s.demand.dDemand → ClosingEntered s t) ∧
       (¬ reached → (s.bio.cycle = .closing → s.demand.suppress = true ∧ s.demand.dDemand = false ∧
          (s.engine .discharge).need = false) → t.bio = s.bio ∧ NeedTaken s t .blowdown) ∧
       NeedTaken s t .makeup)) ∧
  (∀ (c : EffConfig) (d : Derived) (q : Demand) (l : Nat),
    (d.lv10 = none → supplyDemand c d q = (false, 0)) ∧
    (d.lv10 = some l → l ≤ c.ll → supplyDemand c d q = (true, 255)) ∧
    (d.lv10 = some l → c.ll < l → q.sMark = true →
      supplyDemand c d q = (true, min 200 (roundDiv (100 * (c.lOff - l)) (c.lOff - c.lOn)))) ∧
    (d.lv10 = some l → c.ll < l → q.sMark = false → supplyDemand c d q = (false, 0))) ∧
  (∀ (b : Sequencer) (o : Nat), b.overdue = some o →
    (b.cycle = .due ∨ b.cycle = .prebleed ∨ b.cycle = .closing ∨ b.cycle = .dosing →
      biocideBase b = 100 + min 100 (roundDiv o 60000)) ∧
    (b.cycle = .idle ∨ b.cycle = .contact → biocideBase b = 0))

/-- The formula base (R22): 100 where X stands at the setpoint, 0 at the bottom of the deadband and below, 200 from a
full deadband above, never more, and between them the margin in per cent of the deadband, rounded to nearest with a
half up. It stands as the DISCHARGE base where the table of section 2.3 says so: DISCHARGE demand and base are those
of the first line of that table that holds, and while the demand is false the base is 0. -/
def Obligations.FormulaBaseMeasuresTheDeadband : Prop :=
  ∀ (c : EffConfig) (d : Derived) (m : ControlMode), 1 ≤ deadband c m →
    (controlled m d = setpoint c m → formulaBase c d m = 100) ∧
    (controlled m d + deadband c m ≤ setpoint c m → formulaBase c d m = 0) ∧
    (setpoint c m + deadband c m ≤ controlled m d → formulaBase c d m = 200) ∧
    (setpoint c m ≤ controlled m d + deadband c m → controlled m d ≤ setpoint c m + deadband c m →
      2 * deadband c m * formulaBase c d m ≤
        200 * (controlled m d + deadband c m - setpoint c m) + deadband c m ∧
      200 * (controlled m d + deadband c m - setpoint c m) + deadband c m <
        2 * deadband c m * (formulaBase c d m + 1)) ∧
    (∀ q : Demand, q.mode = m →
      let hh := ∃ k ∈ d.k25B, c.hh ≤ k
      (q.suppress = true → dischargeDemand c d q = (false, 0)) ∧
      (q.suppress = false → q.force = true → hh → dischargeDemand c d q = (true, 255)) ∧
      (q.suppress = false → q.force = true → ¬ hh → dischargeDemand c d q =
        (true, max 120 (if d.k25B = none then 0 else formulaBase c d m))) ∧
      (q.suppress = false → q.force = false → d.k25B = none → dischargeDemand c d q = (false, 0)) ∧
      (q.suppress = false → q.force = false → hh → dischargeDemand c d q = (true, 255)) ∧
      (q.suppress = false → q.force = false → d.k25B ≠ none → ¬ hh →
        dischargeDemand c d q = if q.dMark then (true, formulaBase c d m) else (false, 0)))

/-- HOLD_TIMER_EXPIRY (R5): the channel enters FAULT with its recovery count and hold timer 0, its window and averaged
code as they were; PROBE FAULT is raised and its alarm latched; and a report is composed where the alarm condition or
the probe-fault mark changes (R90), one where both do, of the event's outcome (the model's choice, log 6).
HH_TIMER_EXPIRY and LL_TIMER_EXPIRY (R25, R30): once the timer has run 60 s the condition becomes active, the event is
raised and the alarm latched, and a report is composed where no alarm was unacknowledged before; the timer stays. -/
def Obligations.DelaysLatchTheirAlarms : Prop :=
  (∀ (c : Chan) (s : State), Live s → (s.meas.channel c).state = .holding → 60000 ≤ (s.meas.channel c).holdTimer →
    let r := { s.meas.channel c with state := .fault, recovery := 0, holdTimer := 0 }
    let u := ({ s with meas := s.meas.setChannel c r }.raise .probeFault).occur .probeFault
    exec (.holdTimerExpiry c) s = .next (if s.alarmCondition ∧ s.meas.probeFault then u.driveLines else u.told)) ∧
  (∀ s : State, Live s →
    (reached 60000 s.demand.hhTimer = true → s.demand.hhCondition = false →
      let u := ({ s with demand := { s.demand with hhCondition := true } }.raise .highConductivity).occur .highConductivity
      exec .hhTimerExpiry s = .next (if s.alarmCondition then u.driveLines else u.told)) ∧
    (reached 60000 s.demand.llTimer = true → s.demand.llCondition = false →
      let u := ({ s with demand := { s.demand with llCondition := true } }.raise .lowLevel).occur .lowLevel
      exec .llTimerExpiry s = .next (if s.alarmCondition then u.driveLines else u.told)))

/-! ## The claim engine (chapter 3) -/

/-- ASK_WINDOW_EXPIRY (R44, R39): an engine that fits enters CONFIRMING with its urgency held and the confirm period
started, and a report is composed; one that does not fit stays in ASKING with the mark set and the window not
restarted. AGEING_STEP (R38): each 4 s in ASKING or CONFIRMING, ageing rises by 1 up to 55 and the clock starts
again; nothing else changes and no report is composed. -/
def Obligations.AskingWaitsThenConfirms : Prop :=
  (∀ (p : Pool) (s : State), Live s → (s.engine p).state = .asking → (s.engine p).windowExpired = false →
    reached 2500 (s.engine p).phase = true →
    (s.fits p = true → exec (.askWindowExpiry p) s = .next
      (s.setEngine p { s.engine p with state := .confirming, windowExpired := false, phase := some 0,
                                       heldUrgency := min 255 ((s.engine p).base + (s.engine p).ageing) }).told) ∧
    (s.fits p = false → exec (.askWindowExpiry p) s = .next
      (s.setEngine p { s.engine p with windowExpired := true, phase := none }))) ∧
  (∀ (p : Pool) (s : State), Live s → ((s.engine p).state = .asking ∨ (s.engine p).state = .confirming) →
    4000 ≤ (s.engine p).ageingClock →
    exec (.ageingStep p) s =
      .next (s.setEngine p { s.engine p with ageing := min 55 ((s.engine p).ageing + 1), ageingClock := 0 }))

/-- CONFIRM_PERIOD_EXPIRY (R45, R46) of a valve's pool. An engine that does not fit withdraws to ASKING with a new ask
window, keeping ageing and grant-wait start, WITHDRAW raised and counted. One that fits is granted: HOLDING from now
with the max-run timer started, counted with its wait in the histogram, its valve commanded open, which passes at
once where the valve is not read or is seen open, and the no-flow watch started for DISCHARGE. Either composes a
report. The withdraw holds for BIOCIDE alike. The count of a report superseded in the event is another block's: where its
counter and this one both cross 2^31 or wrap, a free value says which of the two the last counter field names (R173,
log 23); naming it changes that field alone, and nothing where at most one counter crosses. -/
def Obligations.ConfirmPeriodExpiryGrantsOrWithdraws : Prop :=
  (∀ (p : Pool) (v : Valve) (s : State), Live s →
    ((s.engine p).state = .confirming → reached 2500 (s.engine p).phase = true → s.fits p = false →
      exec (.confirmPeriodExpiry p) s = .next
        ((((s.setEngine p { s.engine p with state := .asking, phase := some 0, windowExpired := false }).raise
          .withdraw).count (.withdrawals p) 1).toldAfter s 1)) ∧
    ((s.engine v.pool).state = .confirming → reached 2500 (s.engine v.pool).phase = true → s.fits v.pool = true →
      exec (.confirmPeriodExpiry v.pool) s = .next
        (((((((s.setEngine v.pool
            { s.engine v.pool with state := .holding, phase := none, holdStart := some s.now, releaseDeferred := false,
                                   maxRun := some 0 }).count (.grants v.pool) 1).recordWait v.pool
            (roundDiv (s.now - (s.engine v.pool).grantWait.getD s.now) 1000)).setValve v
            { s.valve v with commanded := .opened, check := if (s.valve v).seenClosed then .openCheck else .none,
                             timer := if (s.valve v).seenClosed then some 0 else none })).startNoFlow v).toldAfter s 1))) ∧
  (∀ s u : State,
    let t := u.nameLast s
    let crossed (c : Counter) : Prop := (u.stats.counter c).toNat < (s.stats.counter c).toNat ∨
      ((s.stats.counter c).toNat < 2 ^ 31 ∧ 2 ^ 31 ≤ (u.stats.counter c).toNat)
    t = { u with freeIx := t.freeIx, stats := { u.stats with lastCounter := t.stats.lastCounter } } ∧
    (t.stats.lastCounter = u.stats.lastCounter ∨ ∃ c, crossed c ∧ t.stats.lastCounter = c.number) ∧
    ((∀ c d, crossed c → crossed d → c = d) → t = u))

/-- CONFIRM_PERIOD_EXPIRY of BIOCIDE (R46, R60, R140, R141): an engine that fits is granted without a max-run timer. In
DUE with a prebleed drop, a basin not yet known to be at the target enters PREBLEED: the target SP × (100 − drop) / 100,
the limit running, the force request standing, the need false while the engine holds on. With no prebleed drop, or a basin
already at the target, the cycle enters CLOSING at once, with no PREBLEED SHORT (R140, R141, R144, R145, R27, R61):
DISCHARGE is suppressed, and its engine released whatever its minimum run. One at rest or waiting is in REST, or stays in
LOCKED, and so is one whose valve is seen closed already, and the dose begins within the event: the cycle in DOSING for
the dose time and the pump on. One in HOLDING is in RELEASING, its valve commanded closed, and one in RELEASING stays
there, its re-ask mark cleared where its need was true (R52), and the cycle waits in CLOSING. One that is STUCK aborts the
cycle (R149), and BIOCIDE is back in REST. Outside DUE the sequencer answers with a release, and the engine is back in
REST or asks again. That BIOCIDE has no hold start after either, which R60 and R140 do not list, is the model's reading of
the end of a hold (log 12). -/
def Obligations.BiocideGrantStartsPrebleed : Prop :=
  ∀ s : State, s.held = none → s.stats.counters.length = 20 → (s.engine .biocide).state = .confirming →
    reached 2500 (s.engine .biocide).phase = true → s.fits .biocide = true →
    (s.bio.cycle = .due → 0 < s.station.cfg.prebleedDrop →
      (∀ k, s.meas.derived.k25B = some k →
        roundDiv (s.station.cfg.sp * (100 - s.station.cfg.prebleedDrop)) 100 < k) →
      ∃ t, exec (.confirmPeriodExpiry .biocide) s = .next t ∧ LinesFollow t ∧
        (t.engine .biocide).state = .holding ∧ (t.engine .biocide).need = false ∧
        (t.engine .biocide).holdStart = some s.now ∧ (t.engine .biocide).maxRun = none ∧
        (t.engine .biocide).phase = none ∧
        t.bio = { s.bio with cycle := .prebleed,
                             target := roundDiv (s.station.cfg.sp * (100 - s.station.cfg.prebleedDrop)) 100,
                             phase := some (s.station.cfg.prebleedLimit * 1000) } ∧
        t.demand.force = true ∧ t.demand.suppress = s.demand.suppress ∧
        (s.demand.suppress = false → t.demand.dDemand = true ∧ 120 ≤ t.demand.dBase) ∧
        t.stats.counter (.grants .biocide) = s.stats.counter (.grants .biocide) + 1 ∧
        t.stats.histogram = (s.recordWait .biocide
          (roundDiv (s.now - (s.engine .biocide).grantWait.getD s.now) 1000)).stats.histogram ∧
        t.station = s.station ∧ t.meas = s.meas ∧ t.peers = s.peers ∧ t.claim.supply = s.claim.supply) ∧
    (s.bio.cycle = .due → (s.engine .discharge).need = s.demand.dDemand →
      (s.station.cfg.prebleedDrop = 0 ∨ ∃ k ∈ s.meas.derived.k25B,
        k ≤ roundDiv (s.station.cfg.sp * (100 - s.station.cfg.prebleedDrop)) 100) →
      let target := if s.station.cfg.prebleedDrop = 0 then s.station.cfg.sp
        else roundDiv (s.station.cfg.sp * (100 - s.station.cfg.prebleedDrop)) 100
      ∃ t, exec (.confirmPeriodExpiry .biocide) s = .next t ∧ LinesFollow t ∧
        ClosingEntered { s with bio := { s.bio with target := target } } t ∧ t.bio.target = target ∧
        (t.engine .biocide).need = false ∧ t.stats.flag .prebleedShort = s.stats.flag .prebleedShort ∧
        ((s.engine .discharge).state ≠ .stuck →
          (t.engine .biocide).state = .holding ∧ (t.engine .biocide).holdStart = some s.now ∧
          (t.engine .biocide).maxRun = none) ∧
        ((s.engine .discharge).state = .releasing →
          (t.engine .discharge).reask = ((s.engine .discharge).reask && !(s.engine .discharge).need)) ∧
        ((s.engine .discharge).state = .stuck →
          (t.engine .biocide).state = .rest ∧ (t.engine .biocide).holdStart = none ∧
          (t.engine .discharge).state = .stuck) ∧
        t.stats.counter (.grants .biocide) = s.stats.counter (.grants .biocide) + 1 ∧
        t.stats.histogram = (s.recordWait .biocide
          (roundDiv (s.now - (s.engine .biocide).grantWait.getD s.now) 1000)).stats.histogram ∧
        t.station = s.station ∧ t.meas = s.meas ∧ t.peers = s.peers ∧ t.claim.supply = s.claim.supply ∧
        t.out.makeup = s.out.makeup) ∧
    (s.bio.cycle ≠ .due → ∃ t, exec (.confirmPeriodExpiry .biocide) s = .next t ∧ t.bio = s.bio ∧
        (t.engine .biocide).state = (if s.inRun ∧ (s.engine .biocide).need = true then .asking else .rest) ∧
        (t.engine .biocide).holdStart = none ∧
        t.stats.counter (.grants .biocide) = s.stats.counter (.grants .biocide) + 1)

/-- MINIMUM_RUN_END (R49) and MAX_RUN_EXPIRY (R50): the engine of a valve's pool leaves HOLDING for RELEASING with ageing
0 and its hold ended, re-ask mark clear or, at the maximum run, set with MAX RUN raised; the valve is commanded closed
with its close check begun (R51, R109), the no-flow watch of DISCHARGE ends, and a report is composed. A valve with
feedback that is seen closed already ends the release within the event (R109, R53). In CLOSING, where no run finds
DISCHARGE in HOLDING (NoBlowdownDuringTheDose), the same stands but where the end is seen closed at once and the engine
does not ask again, which begins the dose (R145): the engine is then in REST, the cycle in DOSING and the pump on. Besides
the rules this rests on three readings of the model: a re-ask mark counts at the end of RELEASING where the engine still
has a need (log 28), the max-run timer and the hold start are cleared on leaving HOLDING (log 12), and the one report
shows the event's outcome (log 6). -/
def Obligations.RunLimitsReleaseTheValve : Prop :=
  ∀ (v : Valve) (s : State), Live s → (s.engine v.pool).state = .holding →
    let noDose := v = .makeup ∨ s.bio.cycle ≠ .closing ∨ (s.valve v).seenClosed = false ∨
      (s.inRun = true ∧ (s.engine v.pool).need = true)
    let begins (c : Instr) : Prop := ∃ t, exec c s = .next t ∧ (t.engine .discharge).state = .rest ∧
      t.out.blowdown = s.out.blowdown.shut ∧ t.out.biocidePump = true ∧
      t.bio = { s.bio with cycle := .dosing, phase := some (s.station.cfg.doseTime * 1000) }
    let e (reask : Bool) : Engine := (s.engine v.pool).letGo reask
    let u (reask : Bool) : State :=
      if (s.valve v).seenClosed then
        ((s.setEngine v.pool ((e reask).released s)).endNoFlow v).setValve v (s.valve v).shut
      else ((s.setEngine v.pool (e reask)).endNoFlow v).setValve v (s.valve v).closing
    ((s.engine v.pool).releaseDeferred = true → 20000 ≤ s.now - (s.engine v.pool).holdStart.getD 0 →
      (noDose → exec (.minimumRunEnd v.pool) s = .next (u false).told) ∧
      (¬ noDose → begins (.minimumRunEnd v.pool))) ∧
    (reached (s.station.cfg.maxRun v.pool) (s.engine v.pool).maxRun = true →
      (noDose → exec (.maxRunExpiry v.pool) s = .next ((u true).raise .maxRun).told) ∧
      (¬ noDose → begins (.maxRunExpiry v.pool)))

/-- The walk of R42 without its order: this station fits in the set its engine belongs to exactly where the amounts of
the members ranked before it or level with it, its own among them, add up to no more than the headroom. So no claim
passes a larger one ranked above it. The sets (R41): U holds every STALE peer in CONFIRMING, HOLDING, RELEASING or STUCK
and every FRESH one in RELEASING or STUCK; E, P and Q hold the FRESH peers in HOLDING, CONFIRMING and ASKING, and this
station where its engine is in that state, ranked on its held urgency in E and P and its current urgency in Q. The
headrooms: effective cap − ΣU − ΣE − ΣP in ASKING (R44), − ΣU − ΣE in CONFIRMING (R45), − ΣU in HOLDING (R47). -/
def Obligations.WalkAdmitsByRank : Prop :=
  (∀ (p : Pool) (h : Int) (s : State), TableInOrder s →
    (s.fitsIn p (s.engine p).state h = true ↔
      (((s.members p (s.engine p).state).filter (fun m => m.before (s.ownMember p))).map Member.amount).sum ≤ h)) ∧
  (∀ (a b : Member), a.before b = true ↔ b.urgency < a.urgency ∨ (a.urgency = b.urgency ∧ a.station ≤ b.station)) ∧
  (∀ (p : Pool) (m : Member) (s : State),
    let peer (st : EngineState) := ∃ e ∈ s.peers, e.freshness = .fresh ∧ (e.pool p).state = st ∧
      m = { amount := (e.pool p).amount, urgency := (e.pool p).urgency, station := e.number }
    let own (st : EngineState) (urgency : Nat) := (s.engine p).state = st ∧
      m = { amount := (s.engine p).amount, urgency := urgency, station := s.station.number }
    (m ∈ s.members p .holding ↔ own .holding (s.engine p).heldUrgency ∨ peer .holding) ∧
    (m ∈ s.members p .confirming ↔ own .confirming (s.engine p).heldUrgency ∨ peer .confirming) ∧
    (m ∈ s.members p .asking ↔
      own .asking (min 255 ((s.engine p).base + (s.engine p).ageing)) ∨ peer .asking)) ∧
  (∀ (p : Pool) (s : State),
    let sumPeers (holds : Freshness → EngineState → Bool) : Nat :=
      ((s.peers.filter (fun e => holds e.freshness (e.pool p).state)).map (fun e => (e.pool p).amount)).sum
    let sumSet (st : EngineState) : Nat :=
      (if (s.engine p).state = st then (s.engine p).amount else 0) + sumPeers (fun f x => f == .fresh && x == st)
    let u : Nat := sumPeers (fun f x => match f, x with
      | .stale, .confirming | .stale, .holding | .stale, .releasing | .stale, .stuck => true
      | .fresh, .releasing | .fresh, .stuck => true
      | _, _ => false)
    let cap : Int := (s.engine p).effCap
    ((s.engine p).state = .asking → s.fits p = s.fitsIn p .asking (cap - u - sumSet .holding - sumSet .confirming)) ∧
    ((s.engine p).state = .confirming → s.fits p = s.fitsIn p .confirming (cap - u - sumSet .holding)) ∧
    ((s.engine p).state = .holding → s.fits p = s.fitsIn p .holding (cap - u)))

/-! ## The peer table (chapter 4) -/

/-- REPORT_PROCESSED for another station's number in a reporting state (R66 to R70, R75, R76, R36): the frame leaves the
queue; the number's entry is wholly the report's, FRESH with age 0, its missed count 0 where the slot was empty (PEER
JOINED is raised) or raised by the numbers skipped, a repeat adding none, up to 65535, its mismatch mark set where a cap
differs from the own one; every other entry stays; each effective cap is the smallest again; and each engine is evaluated
once on the new table (R43): one in ASKING with its window expired enters CONFIRMING where it fits (R44), one in
CONFIRMING that does not fit withdraws (R45), one in HOLDING that does not fit yields, its ageing kept, and a yield of
BIOCIDE aborts the cycle (R47, R60). A yield whose valve is already seen closed ends by R53, its re-ask mark counting in
RUN where the engine still has a need (R52, log 28). Where no engine waits or holds, the notices of the table move none
(R41, R43): the queue, the entry and the effective caps change, and nothing else. -/
def Obligations.ReportReplacesTheEntryAlone : Prop :=
  (∀ (straps : BitVec 5) (b : List Byte) (rest : List (List Byte)) (s : State), s.held = none →
    s.station.state.reporting = true → s.line.rxQueue = b :: rest → byteAt b 1 = 1 → nat1At b 2 < 32 →
    nat1At b 2 ≠ s.station.number → ∃ t, exec (.reportProcessed straps) s = .next t ∧ LinesFollow t ∧
      t.line.rxQueue = rest ∧ t.station = s.station ∧ t.meas = s.meas ∧ t.now = s.now ∧
      t.peerAt (nat1At b 2) = some
        { PeerEntry.ofReport b with
          missed := (match s.peerAt (nat1At b 2) with
            | none => 0
            | some o => min 65535 (o.missed + if byteAt b 3 = o.lastSeq then 0 else (byteAt b 3 - o.lastSeq - 1).toNat)),
          mismatch := decide (nat2At b 9 ≠ s.station.cfg.capDischarge ∨ nat2At b 15 ≠ s.station.cfg.capSupply ∨
            nat2At b 21 ≠ s.station.cfg.capBiocide) } ∧
      (∀ n ∈ List.range 40, n ≠ nat1At b 2 → t.peerAt n = s.peerAt n) ∧
      (s.peerAt (nat1At b 2) = none → t.stats.flag .peerJoined = true) ∧
      (s.capMismatch = false → t.capMismatch = true → t.stats.flag .capMismatch = true) ∧
      CapsSmallest t ∧ EvaluationsMade s t) ∧
  (∀ (straps : BitVec 5) (b : List Byte) (rest : List (List Byte)) (s : State), Live s →
    s.station.state.reporting = true → s.line.rxQueue = b :: rest → byteAt b 1 = 1 → nat1At b 2 < 32 →
    nat1At b 2 ≠ s.station.number → (s.peerAt (nat1At b 2)).isSome = true → s.capMismatch = true →
    (∀ p, (s.engine p).state.passive = true) → ∃ t, exec (.reportProcessed straps) s = .next t ∧
      t = { s with peers := t.peers, claim := t.claim, line := { s.line with rxQueue := rest } } ∧
      (∀ p, t.engine p = { s.engine p with effCap := (t.engine p).effCap }))

/-- A frame that does not reach the table's rules (R66), REPORT or LEAVING: one from 32 or above is counted as foreign
in every state in which frames are taken; any other is discarded in QUIET and CONFIG FAULT; and a LEAVING from an
empty slot changes nothing (R73). Nothing but the queue changes besides. -/
def Obligations.DiscardedFrameChangesNothing : Prop :=
  ∀ (straps : BitVec 5) (b : List Byte) (rest : List (List Byte)) (s : State), Live s →
    s.line.rxQueue = b :: rest → s.station.state ≠ .start →
    let c : Instr := if byteAt b 1 = 1 then .reportProcessed straps else .leavingProcessed straps
    let u := { s with line := { s.line with rxQueue := rest } }
    (32 ≤ nat1At b 2 → exec c s = .next (u.count .framesForeign 1).driveLines) ∧
    (nat1At b 2 < 32 → s.station.state = .quiet ∨ s.station.state = .configFault → exec c s = .next u) ∧
    (nat1At b 2 < 32 → nat1At b 2 ≠ s.station.number → s.station.state.reporting = true → byteAt b 1 ≠ 1 →
      s.peerAt (nat1At b 2) = none → exec c s = .next u)

/-- LEAVING_PROCESSED for a number that has an entry (R73), PEER_STALE (R71) and PEER_DROPPED (R72): the entry is deleted
at once with PEER DROPPED, or at 6 s goes STALE with PEER STALE and leaves the mismatch set, or at 20 s is deleted with
PEER DROPPED; every other entry stays, each effective cap is the smallest again (R75, R36), and each engine is evaluated
once on the new table (R43 to R45, R47, R60; a yield whose valve is already seen closed ends by R53, its re-ask mark
counting in RUN where the engine still has a need, R52, log 28). -/
def Obligations.EntriesAgeAndLeave : Prop :=
  ∀ (straps : BitVec 5) (n : Nat) (e : PeerEntry) (b : List Byte) (rest : List (List Byte)) (s : State), s.held = none →
    (s.station.state.reporting = true → s.line.rxQueue = b :: rest → byteAt b 1 ≠ 1 → nat1At b 2 < 32 →
      nat1At b 2 ≠ s.station.number → (s.peerAt (nat1At b 2)).isSome = true →
      ∃ t, exec (.leavingProcessed straps) s = .next t ∧ t.line.rxQueue = rest ∧ t.peerAt (nat1At b 2) = none ∧
        t.stats.flag .peerDropped = true ∧ (∀ m ∈ List.range 40, m ≠ nat1At b 2 → t.peerAt m = s.peerAt m) ∧
        t.station = s.station ∧ t.meas = s.meas ∧ CapsSmallest t ∧ EvaluationsMade s t) ∧
    (s.peerAt n = some e → e.freshness = .fresh → 6000 ≤ e.age →
      ∃ t, exec (.peerStale n) s = .next t ∧ t.peerAt n = some { e with freshness := .stale, mismatch := false } ∧
        t.stats.flag .peerStale = true ∧ (∀ m ∈ List.range 40, m ≠ n → t.peerAt m = s.peerAt m) ∧
        t.station = s.station ∧ t.meas = s.meas ∧ t.line.rxQueue = s.line.rxQueue ∧ CapsSmallest t ∧
        EvaluationsMade s t) ∧
    (s.peerAt n = some e → 20000 ≤ e.age →
      ∃ t, exec (.peerDropped n) s = .next t ∧ t.peerAt n = none ∧ t.stats.flag .peerDropped = true ∧
        (∀ m ∈ List.range 40, m ≠ n → t.peerAt m = s.peerAt m) ∧ t.station = s.station ∧ t.meas = s.meas ∧
        t.line.rxQueue = s.line.rxQueue ∧ CapsSmallest t ∧ EvaluationsMade s t)

/-- A frame, REPORT or LEAVING, with the station's own number (R74, R168, R100, R77): DUPLICATE STATION is raised and
its alarm latched, and the station is in QUIET: every engine released, both slots empty, the report and delivery
timers stopped, the listen timer stopped and the table empty with each effective cap the own one. Where a RESTART
awaits its LEAVING it takes effect at once instead (R169). -/
def Obligations.DuplicateGoesQuiet : Prop :=
  ∀ (straps : BitVec 5) (b : List Byte) (rest : List (List Byte)) (s : State), s.held = none →
    s.station.state.reporting = true → s.line.rxQueue = b :: rest → nat1At b 2 < 32 →
    nat1At b 2 = s.station.number →
    let c : Instr := if byteAt b 1 = 1 then .reportProcessed straps else .leavingProcessed straps
    (s.station.restartPending = false → ∃ t, exec c s = .next t ∧ LinesFollow t ∧
      t.station = { s.station with state := .quiet, listen := none } ∧ t.line.rxQueue = rest ∧ t.peers = [] ∧
      t.line.onLine = none ∧ t.line.nextSlot = none ∧ t.line.reportTimer = none ∧ t.line.deliveryTimer = none ∧
      t.line.seq = s.line.seq ∧ t.stats.flag .duplicateStation = true ∧
      { kind := .duplicateStation, active := true, unack := true } ∈ t.stats.alarms ∧
      (∀ p, (t.engine p).state.passive = true ∧ (t.engine p).effCap = s.station.cfg.cap p) ∧
      t.bio.cycle.abortable = false ∧ t.meas = s.meas) ∧
    (s.station.restartPending = true → ∃ t, exec c s = .next t ∧
      (t.station.state = .start ∨ t.station.state = .configFault) ∧ t.station.causes.command = true ∧
      t.station.number = straps.toNat ∧ t.peers = [])

/-! ## The tower line (chapter 5) -/

/-- FRAME_END after START while no attempt is being sent (R81 to R85), with the characters that came and the quiet
time after them: in the collecting mode the characters join the frame being collected, 31 of them kept and a 32nd
marking it too long; a quiet time below 2 character times (of 10 / 19,200 s; the operand is in microseconds) ends no
frame, and nothing else changes; one of 2 or more is a frame end, and the next frame begins empty. What closes the
station's own echo or a frame begun before the receiver collected is consumed without a count; a frame during which an
attempt failed is counted damaged; and a collected frame is counted in the counter of the first check it fails, or
joins a queue of fewer than four frames and is counted as received, or is lost with an overrun. Nothing else changes.
The verdict of the checks is the first that fails, in the order of R82. A character is ten bits: a start bit, the
byte's bits from the least significant on, and a stop bit, without which it has a framing error; a frame's characters
go back to back (R81; that a start bit is low and a stop bit high: log 34). The model's own (log 5, log 29): a frame
end that closes no character while collecting, or while the line is not read, changes nothing; the frame end after a
failed attempt counts damaged whatever characters it closes. -/
def Obligations.FrameEndCountsOrQueues : Prop :=
  (∀ (r : Reception) (s : State), Live s → s.station.state ≠ .start → s.line.sending = false →
    let all := s.line.rxChars ++ r.chars.map rxChar
    let long := s.line.rxTooLong = true ∨ 31 < all.length
    let chars := all.take 31
    let ends := 20000000 ≤ 19200 * r.quietMicros
    let u := { s with line := { s.line with rxMode := .collect, rxChars := [], rxTooLong := false } }
    (¬ ends → s.line.rxMode ≠ .collect → exec (.frameEnd r) s = .next s) ∧
    (¬ ends → s.line.rxMode = .collect → exec (.frameEnd r) s = .next
      { s with line := { s.line with rxChars := chars, rxTooLong := s.line.rxTooLong || 31 < all.length } }) ∧
    (ends →
      (s.line.rxMode = .skip ∨ s.line.rxMode = .ownEcho ∨ (s.line.rxMode = .collect ∧ all = []) →
        exec (.frameEnd r) s = .next u) ∧
      (s.line.rxMode = .off → exec (.frameEnd r) s = .next s) ∧
      (s.line.rxMode = .ownDamaged → exec (.frameEnd r) s = .next (u.count .framesDamaged 1).driveLines) ∧
      (s.line.rxMode = .collect → all ≠ [] →
        (long ∨ frameVerdict chars = .damaged → exec (.frameEnd r) s = .next (u.count .framesDamaged 1).driveLines) ∧
        (¬ long → frameVerdict chars = .foreign → exec (.frameEnd r) s = .next (u.count .framesForeign 1).driveLines) ∧
        (¬ long → frameVerdict chars = .good → s.line.rxQueue.length < 4 → exec (.frameEnd r) s = .next
          ({ u with line := { u.line with rxQueue := s.line.rxQueue ++ [chars.map RxChar.byte] } }.count .framesReceived
            1).driveLines) ∧
        (¬ long → frameVerdict chars = .good → 4 ≤ s.line.rxQueue.length → exec (.frameEnd r) s = .next
          ((u.count .receiveOverruns 1).raise .receiveOverrun).driveLines)))) ∧
  (∀ (b : Byte) (c : LineChar) (bytes : List Byte),
    (lineChar b).getLsbD 0 = false ∧ (lineChar b).getLsbD 9 = true ∧
    (∀ i, i < 8 → (lineChar b).getLsbD (i + 1) = b.getLsbD i) ∧ rxChar (lineChar b) = { byte := b, framingError := false } ∧
    (∀ i, i < 8 → (rxChar c).byte.getLsbD i = c.getLsbD (i + 1)) ∧
    ((rxChar c).framingError = true ↔ c.getLsbD 9 = false) ∧
    (backToBack bytes).length = 10 * bytes.length ∧
    (∀ k i, k < bytes.length → i < 10 →
      (backToBack bytes).getD (10 * k + i) true = (lineChar (bytes.getD k 0)).getLsbD i)) ∧
  (∀ chars : List RxChar,
    let b := chars.map RxChar.byte
    let broken := chars.any RxChar.framingError = true ∨ 31 < b.length ∨ b.length < 4 ∨ byteAt b 0 ≠ 0xB4 ∨
      crcBytes ((b.take (b.length - 2)).drop 1) ≠ b.drop (b.length - 2)
    (broken → frameVerdict chars = .damaged) ∧
    (¬ broken → byteAt b 1 ≠ 1 → byteAt b 1 ≠ 2 → frameVerdict chars = .foreign) ∧
    (¬ broken → (byteAt b 1 = 1 ∧ b.length ≠ 31) ∨ (byteAt b 1 = 2 ∧ b.length ≠ 7) → frameVerdict chars = .damaged) ∧
    (¬ broken → (byteAt b 1 = 1 ∧ b.length = 31) ∨ (byteAt b 1 = 2 ∧ b.length = 7) → byteAt b 2 = 0 →
      frameVerdict chars = .foreign) ∧
    (¬ broken → (byteAt b 1 = 1 ∧ b.length = 31) ∨ (byteAt b 1 = 2 ∧ b.length = 7) → byteAt b 2 ≠ 0 →
      frameVerdict chars = .good))

/-- A composed REPORT (R90 to R92): where the station composes one, it is the snapshot of this moment; in an empty path
it goes on line with the current sequence number, its CRC and no failures; behind a frame on line it waits in next,
and a REPORT that waited there is counted as superseded. Outside LISTEN, RUN, HOLD and ISOLATED, or once a LEAVING
has been composed, nothing happens. -/
def Obligations.ComposedReportTakesItsSlot : Prop :=
  ∀ s : State,
    (s.station.state.reporting = false ∨ s.line.leavingComposed = true → s.composeReport = s) ∧
    (s.station.state.reporting = true → s.line.leavingComposed = false →
      (s.line.onLine = none → s.line.nextSlot = none → s.composeReport =
        { s with line := { s.line with onLine := some { frame := s.reportFrame, bytes := s.reportFrame.encode s.line.seq,
                                                        failures := 0, sending := false } } }) ∧
      (s.line.onLine.isSome = true → s.line.nextSlot = none →
        s.composeReport = { s with line := { s.line with nextSlot := some s.reportFrame } }) ∧
      (s.line.onLine.isSome = true → s.line.nextSlot.isSome = true → s.composeReport =
        { s.count .reportsSuperseded 1 with line := { s.line with nextSlot := some s.reportFrame } }))

/-- REPORT_TIMER (R90, R43): the timer starts again, a REPORT is composed where the station composes any, and each
engine in ASKING whose window has expired enters CONFIRMING if it fits; no other engine moves. Where none enters,
that is all. -/
def Obligations.ReportTimerComposesAndEvaluates : Prop :=
  ∀ s : State, s.held = none → reached 2000 s.line.reportTimer = true →
    (∃ t, exec .reportTimer s = .next t ∧ LinesFollow t ∧ t.line.reportTimer = some 0 ∧
      (∀ p, t.engine p =
        if (s.engine p).state = .asking ∧ (s.engine p).windowExpired = true ∧ s.fits p = true then
          { s.engine p with state := .confirming, windowExpired := false, phase := some 0,
                            heldUrgency := min 255 ((s.engine p).base + (s.engine p).ageing) }
        else s.engine p) ∧
      t.station = s.station ∧ t.meas = s.meas ∧ t.demand = s.demand ∧ t.bio = s.bio ∧ t.feed = s.feed ∧
      t.peers = s.peers ∧ CountersKept s t [.reportsSuperseded]) ∧
    ((∀ p, (s.engine p).state = .asking → (s.engine p).windowExpired = false) →
      exec .reportTimer s = .next { s with line := { s.line with reportTimer := some 0 } }.told)

/-- ATTEMPT_START (R93): an attempt starts once the line has been quiet for 4 + station number + 8 × failures
character times (of 10 / 19,200 s; the operand is in microseconds), and not before; its characters then go on the line
back to back (R81). ECHO_MISMATCH (R94 to R96, R83): where the characters sent so far are read back equal but the
last, which is read back different, with a framing error or not at all, the attempt fails, and the frame on the line
will be counted damaged at its end (whatever it then closes, log 29); while all are read back equal and more are to be
sent, neither a mismatch nor a delivery is there and nothing changes. Before the eighth failure the same frame waits
again with one failure more, or the frame in next takes its place, number and failures, the old one counted as
superseded. The eighth loses the frame: counted, REPORT LOST raised, the number advanced by one, and the frame in
next, if there is one, on line with the new number and no failures; a lost LEAVING lets the restart take effect
(R170). -/
def Obligations.AttemptsWaitRetryAndLose : Prop :=
  (∀ (q : Nat) (o : OnLine) (s : State), Live s → s.line.onLine = some o → o.sending = false →
    (10000000 * (4 + s.station.number + 8 * o.failures) ≤ 19200 * q →
      let t := { s with line := { s.line with onLine := some { o with sending := true } } }
      exec (.attemptStart q) s = .next t ∧ s.line.drives = [] ∧ t.line.drives = backToBack o.bytes) ∧
    (19200 * q < 10000000 * (4 + s.station.number + 8 * o.failures) → exec (.attemptStart q) s = .next s)) ∧
  (∀ (straps : BitVec 5) (pre post : List Byte) (b : Byte) (c : EchoChar) (o : OnLine) (s : State), Live s →
    s.line.onLine = some o → o.sending = true → o.bytes = pre ++ b :: post →
    c.map rxChar ≠ some { byte := b, framingError := false } →
    let echo := pre.map (fun x => some (lineChar x))
    let a : AttemptEnd := { readBack := echo ++ [c], straps := straps }
    (exec (.echoMismatch { readBack := echo, straps := straps }) s = .next s ∧
      exec (.delivery { readBack := echo, straps := straps }) s = .next s ∧ exec (.delivery a) s = .next s) ∧
    (o.failures + 1 < 8 → s.line.nextSlot = none → exec (.echoMismatch a) s = .next
      { s with line := { s.line with rxMode := .ownDamaged,
                                     onLine := some { o with failures := o.failures + 1, sending := false } } }) ∧
    (∀ f ∈ s.line.nextSlot, o.failures + 1 < 8 → exec (.echoMismatch a) s = .next
      ({ s with line := { s.line with rxMode := .ownDamaged, nextSlot := none,
                                      onLine := some { frame := f, bytes := f.encode s.line.seq,
                                                       failures := o.failures + 1, sending := false } } }.count
        .reportsSuperseded 1).driveLines) ∧
    (8 ≤ o.failures + 1 → o.frame.kind = .report → exec (.echoMismatch a) s = .next
      ((({ s with line := { s.line with rxMode := .ownDamaged, seq := s.line.seq + 1, nextSlot := none,
                                        onLine := s.line.nextSlot.map (fun f =>
                                          { frame := f, bytes := f.encode (s.line.seq + 1), failures := 0,
                                            sending := false }) } }.count .reportsLost 1).raise .reportLost).driveLines)) ∧
    (8 ≤ o.failures + 1 → o.frame.kind = .leaving → s.stats.counters.length = 20 →
      ∃ t, exec (.echoMismatch a) s = .next t ∧ (t.station.state = .start ∨ t.station.state = .configFault) ∧ t.station.causes.command = true ∧
      t.station.number = straps.toNat ∧ t.line.seq = 0 ∧ t.stats.counter .reportsLost = s.stats.counter .reportsLost + 1))

/-- DELIVERY (R94, R97, R98, R83, R167; the order of its acts is log 17): where every character of the frame is read back
equal, the frame is counted as delivered, the number advances by one, the delivery timer
starts again, the frame's own frame end will be consumed, and the frame in next, if there is one, goes on line. From
ISOLATED the station is in LISTEN with its listen period started and its alarm condition ended. A delivered LEAVING
lets the restart take effect. -/
def Obligations.DeliveryAdvancesTheNumber : Prop :=
  ∀ (straps : BitVec 5) (o : OnLine) (s : State), Live s → s.line.onLine = some o → o.sending = true →
    let a : AttemptEnd :=
      { readBack := o.bytes.map (fun x => some (lineChar x)), straps := straps }
    let u := { s with line := { s.line with rxMode := .ownEcho, seq := s.line.seq + 1, nextSlot := none,
                                            deliveryTimer := some 0,
                                            onLine := s.line.nextSlot.map (fun f =>
                                              { frame := f, bytes := f.encode (s.line.seq + 1), failures := 0,
                                                sending := false }) } }.count .reportsDelivered 1
    (o.frame.kind = .report → s.station.state ≠ .isolated → exec (.delivery a) s = .next u.driveLines) ∧
    (o.frame.kind = .report → s.station.state = .isolated → exec (.delivery a) s = .next
      { u with station := { s.station with state := .listen, listen := some 8000 },
               stats := { u.stats with alarms := calmAlarm s.stats.alarms .isolated } }.told) ∧
    (o.frame.kind = .leaving → s.stats.counters.length = 20 → ∃ t, exec (.delivery a) s = .next t ∧
      (t.station.state = .start ∨ t.station.state = .configFault) ∧ t.station.causes.command = true ∧
      t.station.number = straps.toNat ∧ t.line.seq = 0 ∧ t.line.onLine = none ∧
      t.stats.counter .reportsDelivered = s.stats.counter .reportsDelivered + 1)

/-- The sequence number (R98): one step leaves it as it is, or advances it by exactly one, modulo 256, and then the
command was a delivery, a failed attempt or LINE RESTART, or sets it to 0, and then the station is in START or
CONFIG FAULT. -/
def Obligations.SequenceNumberAdvancesByOne : Prop :=
  ∀ s t : State, step s = .next t →
    t.line.seq = s.line.seq ∨
    (t.line.seq = s.line.seq + 1 ∧
      (s.pending.head? = some .lineRestart ∨
        ∃ a, s.pending.head? = some (.delivery a) ∨ s.pending.head? = some (.echoMismatch a))) ∨
    (t.line.seq = 0 ∧ (t.station.state = .start ∨ t.station.state = .configFault))

/-- LISTEN_TIMER_EXPIRY (R165, R40): the station is in RUN, every engine in REST whose need is true is in ASKING with a
new ask window, no other engine moves, and reports show it; nothing else changes but the two slots, reports superseded with
the counter events, and the lines that follow. DELIVERY_TIMER_EXPIRY
(R99, R167, R61, R148): 10 s without a delivery in LISTEN or RUN: the station is in ISOLATED with its event raised
and its alarm latched, every engine is released and a cycle in PREBLEED, CLOSING or DOSING aborted; no peer is
forgotten and the timer runs on. In HOLD and ISOLATED nothing happens. -/
def Obligations.StationTimersMoveTheStation : Prop :=
  (∀ s : State, s.held = none → s.station.state = .listen → s.station.listen = some 0 →
    ∃ t, exec .listenTimerExpiry s = .next t ∧ LinesFollow t ∧
      t.station = { s.station with state := .run, listen := none } ∧
      (∀ p, t.engine p =
        if (s.engine p).state = .rest ∧ (s.engine p).need = true then (s.engine p).justAsking s.now else s.engine p) ∧
      t = { s with station := t.station, claim := t.claim,
                   line := { s.line with onLine := t.line.onLine, nextSlot := t.line.nextSlot },
                   stats := { s.stats with counters := t.stats.counters, flags := t.stats.flags,
                                           lastCounter := t.stats.lastCounter },
                   out := { s.out with relay := t.out.relay },
                   port := { s.port with attention := t.port.attention } } ∧
      (∀ e : Event, e ≠ .counterHalf → e ≠ .counterWrap → t.stats.flag e = s.stats.flag e) ∧
      CountersKept s t [.reportsSuperseded]) ∧
  (∀ s : State, s.held = none → (s.station.state = .listen ∨ s.station.state = .run) →
    reached 10000 s.line.deliveryTimer = true →
    ∃ t, exec .deliveryTimerExpiry s = .next t ∧ LinesFollow t ∧
      t.station = { s.station with state := .isolated, listen := none } ∧ t.stats.flag .isolated = true ∧
      { kind := .isolated, active := true, unack := true } ∈ t.stats.alarms ∧
      (∀ p, (t.engine p).state.passive = true) ∧
      (s.bio.cycle.abortable = true → t.bio.cycle = .idle ∧ t.bio.interval = some 3600000 ∧ t.bio.abortMark = true ∧
        t.stats.flag .biocideAborted = true ∧ t.demand.force = false ∧ t.demand.suppress = false) ∧
      (s.bio.cycle.abortable = false → t.bio = s.bio) ∧ t.peers = s.peers ∧ t.meas = s.meas ∧
      t.line.deliveryTimer = s.line.deliveryTimer ∧ t.line.seq = s.line.seq) ∧
  (∀ s : State, s.station.state = .hold ∨ s.station.state = .isolated → exec .deliveryTimerExpiry s = .next s)

/-! ## Valves and pumps (chapter 6) -/

/-- FEEDBACK_SETTLED where no notice follows (R105, R107, R108): a valve in its open check that is seen open passes; one
that drops out while commanded open begins the check again; and every other change only settles the feedback. No
engine moves and no report is composed. A level that has not stood for 250 ms changes nothing, whatever it is. -/
def Obligations.FeedbackFollowsTheCheck : Prop :=
  ∀ (v : Valve) (h : Nat) (s : State), Live s → s.station.state.working = true →
    (s.valve v).feedbackPresent = true →
    let settles (lvl : ValvePos) : Instr := .feedbackSettled v { level := lvl, heldFor := h }
    (h < 250 → ∀ lvl, exec (settles lvl) s = .next s) ∧
    (250 ≤ h →
    ((s.valve v).settled = .closed → (s.valve v).check = .openCheck → exec (settles .opened) s = .next
      (s.setValve v { s.valve v with settled := .opened, check := .none, timer := none })) ∧
    ((s.valve v).settled = .opened → (s.valve v).check = .none → (s.valve v).commanded = .opened →
      exec (settles .closed) s = .next
        (s.setValve v { s.valve v with settled := .closed, check := .openCheck, timer := some 0 })) ∧
    ((s.valve v).settled = .closed → (s.valve v).check = .closeCheck ∨ (s.valve v).check = .closeWatch ∨
      ((s.valve v).check = .none ∧ (s.valve v).commanded = .opened) → exec (settles .opened) s = .next
        (s.setValve v { s.valve v with settled := .opened })) ∧
    ((s.valve v).settled = .opened → (s.valve v).check = .openCheck ∨
      ((s.valve v).check = .none ∧ (s.valve v).commanded = .closed) → exec (settles .closed) s = .next
        (s.setValve v { s.valve v with settled := .closed })))

/-- FEEDBACK_SETTLED open while the valve is commanded closed and nothing is checked (R112, R57, R59): its engine,
waiting or at rest or locked, is in STUCK with no ageing, the close watch begins, VALVE STUCK is raised, the VALVE
FAULT alarm latched, and a report composed for the engine's state and one for a change of the alarm summary (R90, log 6).
Where the cycle is in CLOSING and the valve is the blowdown valve, the cycle aborts besides (R145), and both alarms are
latched (their order is free, log 9). -/
def Obligations.UnbiddenOpeningSticks : Prop :=
  ∀ (v : Valve) (h : Nat) (s : State), Live s → 250 ≤ h → s.station.state.working = true → (s.valve v).feedbackPresent = true →
    (s.valve v).settled = .closed → (s.valve v).check = .none → (s.valve v).commanded = .closed →
    (s.engine v.pool).state ≠ .holding → (s.engine v.pool).state ≠ .releasing → (s.engine v.pool).state ≠ .stuck →
    let opens : Instr := .feedbackSettled v { level := .opened, heldFor := h }
    (v = .makeup ∨ s.bio.cycle ≠ .closing → exec opens s = .next
      (((((s.setValve v { s.valve v with settled := .opened, check := .closeWatch, timer := none }).setEngine v.pool
        { s.engine v.pool with state := .stuck, phase := none, windowExpired := false, reask := false, lock := false,
                               ageing := 0, ageingClock := 0 }).raise .valveStuck).occur .valveFault).toldTimes
        s.faultTriggers)) ∧
    (v = .blowdown → s.bio.cycle = .closing → ∃ t, exec opens s = .next t ∧
      (t.engine .discharge).state = .stuck ∧ (t.valve v).check = .closeWatch ∧ t.stats.flag .valveStuck = true ∧
      t.bio.cycle = .idle ∧ t.bio.interval = some 3600000 ∧ t.bio.abortMark = true ∧
      t.stats.flag .biocideAborted = true ∧ t.demand.suppress = false ∧ t.demand.force = false ∧
      { kind := .valveFault, active := true, unack := true } ∈ t.stats.alarms ∧
      { kind := .biocideAborted, active := true, unack := true } ∈ t.stats.alarms)

/-- FEEDBACK_SETTLED closed on a valve commanded closed (R109, R111, R53, R55): an engine in RELEASING is in LOCKED where
its lock mark is set; in ASKING with its ageing kept where its re-ask mark is set and the station is in RUN and it still
has the need the mark stands for (R52, R37, log 28); and otherwise in REST, passing on to ASKING with ageing 0 where its
need is true in RUN. An engine in STUCK raises VALVE CLEARED and is in REST or passes on alike, and the alarm condition
ends with the last fault. A report is composed for the engine's state, and one for the valve-fault mark where it is
cleared (R90, log 6). The blowdown valve seen closed while the cycle is in CLOSING (R145, R146): a DISCHARGE engine
without a need that ends its release another way is in REST, or in LOCKED, and the dose begins: the cycle in DOSING with
the dose time running and the pump on; one STUCK that clears likewise. -/
def Obligations.SeenClosedEndsTheRelease : Prop :=
  (∀ (v : Valve) (h : Nat) (s : State), Live s → 250 ≤ h → s.station.state.working = true →
    (s.valve v).feedbackPresent = true →
    (s.valve v).settled = .opened → (s.valve v).check = .closeCheck ∨ (s.valve v).check = .closeWatch →
    let e := s.engine v.pool
    let outside := v = .makeup ∨ s.bio.cycle ≠ .closing
    let w := s.setValve v { s.valve v with settled := .closed, check := .none, timer := none }
    let rest := if s.inRun ∧ e.need = true then e.atRest.justAsking s.now else e.atRest
    let c := exec (.feedbackSettled v { level := .closed, heldFor := h }) s
    (e.state = .releasing → outside ∨ e.reasks s = true → c = .next (w.setEngine v.pool (e.released s)).told) ∧
    (e.state = .stuck → outside → c = .next
      (let t := (w.setEngine v.pool rest).raise .valveCleared
       if t.valveFault then t.toldTimes 1 else (t.calm .valveFault).toldTimes 2))) ∧
  (∀ (h : Nat) (s : State), s.held = none → 250 ≤ h → s.station.state.working = true → s.out.blowdown.feedbackPresent = true →
    s.out.blowdown.settled = .opened → s.out.blowdown.check = .closeCheck ∨ s.out.blowdown.check = .closeWatch →
    s.bio.cycle = .closing → (s.engine .discharge).need = false →
    ((s.engine .discharge).state = .releasing ∧ (s.engine .discharge).reasks s = false) ∨
      (s.engine .discharge).state = .stuck →
    ∃ t, exec (.feedbackSettled .blowdown { level := .closed, heldFor := h }) s = .next t ∧ LinesFollow t ∧
      ((t.engine .discharge).state = .rest ∨ (t.engine .discharge).state = .locked) ∧
      t.bio = { s.bio with cycle := .dosing, phase := some (s.station.cfg.doseTime * 1000) } ∧
      t.out.biocidePump = true ∧ t.demand.suppress = s.demand.suppress ∧ t.out.makeup = s.out.makeup ∧
      t.station = s.station ∧ t.meas = s.meas ∧ t.claim.supply = s.claim.supply ∧ t.feed = s.feed)

/-- OPEN_CHECK_EXPIRY and CLOSE_CHECK_EXPIRY (R107, R56, R109, R110, R54): a valve still seen closed at the confirm time
is commanded closed at once, which is seen, and its engine goes from HOLDING through RELEASING to LOCKED with VALVE FAIL
OPEN; where an observed OPEN falls at the same instant, its input having stood open for 250 ms, the valve is commanded
closed while it is seen open, the engine is in RELEASING with its lock mark and the close check runs; a valve still seen
open at the end of its close check takes its engine from RELEASING to STUCK with VALVE STUCK and the close watch, a
yield's ageing kept (R38); the alarm VALVE FAULT is latched in all three. A report is composed for the engine's state and
one for a change of the alarm summary (R90, log 6). A valve without feedback ends its engine's release at the confirm time
as R53 gives it (its re-ask mark counting in RUN where it still has a need: R52, log 28). In CLOSING the blowdown valve's
failure to close aborts the cycle, both alarms latched in a free order (log 9), and the dose begins where its release
without feedback ends in REST or LOCKED, or its failure to open in LOCKED (R145, R149). -/
def Obligations.ConfirmTimeDecides : Prop :=
  (∀ (v : Valve) (h : Nat) (s : State), Live s → s.station.state.working = true →
    reached (s.station.cfg.confirmTime * 1000) (s.valve v).timer = true →
    let outside := v = .makeup ∨ s.bio.cycle ≠ .closing
    ((s.valve v).check = .openCheck → (s.valve v).seenClosed = true → (s.engine v.pool).state = .holding → h < 250 →
      outside → exec (.openCheckExpiry { valve := v, openHeldFor := h }) s = .next
        ((((((s.setEngine v.pool
          { s.engine v.pool with state := .locked, phase := none, holdStart := none, maxRun := none,
                                 releaseDeferred := false, ageing := 0, ageingClock := 0, reask := false,
                                 lock := false }).endNoFlow v).setValve v (s.valve v).shut).raise .valveFailOpen).occur
          .valveFault).toldTimes s.faultTriggers)) ∧
    ((s.valve v).check = .openCheck → (s.valve v).seenClosed = true → (s.engine v.pool).state = .holding → 250 ≤ h →
      exec (.openCheckExpiry { valve := v, openHeldFor := h }) s = .next
        ((((((s.setEngine v.pool
          { s.engine v.pool with state := .releasing, phase := none, holdStart := none, maxRun := none,
                                 releaseDeferred := false, ageing := 0, ageingClock := 0, reask := false,
                                 lock := true }).endNoFlow v).setValve v
          { s.valve v with settled := .opened, commanded := .closed, check := .closeCheck, timer := some 0 }).raise
          .valveFailOpen).occur .valveFault).toldTimes s.faultTriggers)) ∧
    ((s.valve v).check = .closeCheck → (s.valve v).feedbackPresent = true → (s.valve v).settled = .opened →
      (s.engine v.pool).state = .releasing → outside → exec (.closeCheckExpiry v) s = .next
        (((((s.setValve v { s.valve v with check := .closeWatch, timer := none }).setEngine v.pool
          { s.engine v.pool with state := .stuck, reask := false, lock := false }).raise .valveStuck).occur
          .valveFault).toldTimes s.faultTriggers)) ∧
    ((s.valve v).check = .closeCheck → (s.valve v).feedbackPresent = false → (s.valve v).commanded = .closed →
      (s.engine v.pool).state = .releasing → outside ∨ (s.engine v.pool).reasks s = true →
      exec (.closeCheckExpiry v) s = .next
        (((s.setValve v { s.valve v with check := .none, timer := none }).setEngine v.pool
          ((s.engine v.pool).released s)).told))) ∧
  (∀ s : State, s.held = none → s.station.state.working = true →
    reached (s.station.cfg.confirmTime * 1000) s.out.blowdown.timer = true → s.out.blowdown.check = .closeCheck →
    s.bio.cycle = .closing → (s.engine .discharge).state = .releasing →
    (s.out.blowdown.feedbackPresent = true → s.out.blowdown.settled = .opened →
      ∃ t, exec (.closeCheckExpiry .blowdown) s = .next t ∧ LinesFollow t ∧ (t.engine .discharge).state = .stuck ∧
        t.out.blowdown.check = .closeWatch ∧ t.stats.flag .valveStuck = true ∧ t.bio.cycle = .idle ∧
        t.bio.interval = some 3600000 ∧ t.bio.abortMark = true ∧ t.stats.flag .biocideAborted = true ∧
        t.demand.suppress = false ∧ t.demand.force = false ∧
        { kind := .valveFault, active := true, unack := true } ∈ t.stats.alarms ∧
        { kind := .biocideAborted, active := true, unack := true } ∈ t.stats.alarms) ∧
    (s.out.blowdown.feedbackPresent = false → s.out.blowdown.commanded = .closed →
      (s.engine .discharge).need = false → (s.engine .discharge).reasks s = false →
      ∃ t, exec (.closeCheckExpiry .blowdown) s = .next t ∧ LinesFollow t ∧
        ((t.engine .discharge).state = .rest ∨ (t.engine .discharge).state = .locked) ∧
        t.bio = { s.bio with cycle := .dosing, phase := some (s.station.cfg.doseTime * 1000) } ∧
        t.out.biocidePump = true)) ∧
  (∀ (h : Nat) (s : State), s.held = none → s.station.state.working = true →
    reached (s.station.cfg.confirmTime * 1000) s.out.blowdown.timer = true → s.out.blowdown.check = .openCheck →
    s.bio.cycle = .closing → s.out.blowdown.seenClosed = true → (s.engine .discharge).state = .holding → h < 250 →
    ∃ t, exec (.openCheckExpiry { valve := .blowdown, openHeldFor := h }) s = .next t ∧ LinesFollow t ∧
      (t.engine .discharge).state = .locked ∧ t.out.blowdown = s.out.blowdown.shut ∧ t.stats.flag .valveFailOpen = true ∧
      { kind := .valveFault, active := true, unack := true } ∈ t.stats.alarms ∧
      t.bio = { s.bio with cycle := .dosing, phase := some (s.station.cfg.doseTime * 1000) } ∧
      t.out.biocidePump = true)

/-! ## Meters, feed and balance (chapter 7) -/

/-- METER_SETTLED (R119 to R122): a level that has not held for the debounce time changes nothing; a change that is no
pulse in the meter's edge mode only settles the level. A blowdown pulse counts K_B litres, adds them to the current slot
of the ring, to 65535 at most, and to B_i. -/
def Obligations.BlowdownPulseCounts : Prop :=
  ∀ (m : Meter) (high : Bool) (h : Nat) (s : State), Live s → s.station.state.working = true →
    s.feed.level m ≠ high →
    let i : Held Bool := { level := high, heldFor := h }
    (h < s.station.cfg.debounce → exec (.meterSettled m i) s = .next s) ∧
    (s.station.cfg.debounce ≤ h → edgePulse (edgeMode s.station.cfg m) high = false →
      exec (.meterSettled m i) s = .next { s with feed := s.feed.setLevel m high }) ∧
    (s.station.cfg.debounce ≤ h → m = .blowdown → edgePulse s.station.cfg.edgeBlowdown high = true →
      exec (.meterSettled .blowdown i) s = .next
        ({ s with feed :=
          { s.feed with
            blowdownLevel := high,
            blowdownRing := s.feed.blowdownRing.set 11
              (min 65535 (s.feed.blowdownRing.getD 11 0 + s.station.cfg.kB)),
            blowdownAcc := min 4294967295 (s.feed.blowdownAcc + s.station.cfg.kB) } }.count .blowdownLitres
          s.station.cfg.kB).driveLines)

/-- METER_SETTLED of a makeup pulse (R121, R126 to R131): K_M litres are counted, join the current slot and M_i, and
earn K_M × S milli-strokes, of which one is given at once where strokes rose, the feed runs and the stroke clock shows
no stroke yet or its interval passed, its expiry taken (log 37). A pulse that does not bring M_i to the balance
interval ends none; one that does replaces the last balance record and restarts both accumulators, the result SKIPPED
without blowdown, UNCOMPARED without a known CoC100, and otherwise MISMATCH exactly where the metered cycles differ by
more than the tolerance. The milli-strokes: what the remainder and the pulse make together is converted, a stroke for
each 1000, and the rest is carried, while no more than 250 strokes are owed; where more would be owed, 250 are and the
remainder is 999. The backlog mark is set at 250, with INHIBITOR BACKLOG, and cleared where the stroke given is the
last (R128); counter 1 rises by K_M and counter 3 with a stroke. Nothing else of the unit changes. -/
def Obligations.MakeupPulseCountsFeedsAndBalances : Prop :=
  (∀ (high : Bool) (h : Nat) (s : State), s.held = none → s.station.state.working = true →
    s.feed.makeupLevel ≠ high → s.station.cfg.debounce ≤ h → edgePulse s.station.cfg.edgeMakeup high = true →
    s.stats.counters.length = 20 →
    ∃ t, exec (.meterSettled .makeup { level := high, heldFor := h }) s = .next t ∧ LinesFollow t ∧
      t.feed.makeupLevel = high ∧ t.feed.blowdownLevel = s.feed.blowdownLevel ∧
      t.feed.makeupRing = s.feed.makeupRing.set 11 (min 65535 (s.feed.makeupRing.getD 11 0 + s.station.cfg.kM)) ∧
      t.feed.blowdownRing = s.feed.blowdownRing ∧
      t.feed.remainder = (s.feed.earn (s.station.cfg.kM * s.station.cfg.milliPerLitre)).remainder ∧
      t.feed.slotClock = s.feed.slotClock ∧ t.feed.noFlow = s.feed.noFlow ∧
      t.stats.counter .makeupLitres = s.stats.counter .makeupLitres + BitVec.ofNat 32 s.station.cfg.kM ∧
      (let earned := (s.feed.earn (s.station.cfg.kM * s.station.cfg.milliPerLitre)).owed
       let full := (s.feed.earn (s.station.cfg.kM * s.station.cfg.milliPerLitre)).backlog
       let given := s.feed.owed < earned ∧ s.station.state.feedRuns = true ∧
         (s.feed.strokeClock = none ∨ s.feed.strokePassed = true)
       t.feed.owed = (if given then earned - 1 else earned) ∧
       t.out.inhibitorPulse = (if given then some 0 else s.out.inhibitorPulse) ∧
       t.feed.strokeClock = (if given then some 0 else s.feed.strokeClock) ∧
       t.feed.strokePassed = (if given then false else s.feed.strokePassed) ∧
       t.feed.backlog = (if given ∧ earned = 1 then false else full) ∧
       t.stats.flag .inhibitorBacklog = (s.stats.flag .inhibitorBacklog || (full && !s.feed.backlog)) ∧
       t.stats.counter .inhibitorStrokes = s.stats.counter .inhibitorStrokes + (if given then 1 else 0)) ∧
      (s.feed.makeupAcc + s.station.cfg.kM < s.station.cfg.balanceInterval * 100 →
        t.feed.makeupAcc = s.feed.makeupAcc + s.station.cfg.kM ∧ t.feed.blowdownAcc = s.feed.blowdownAcc ∧
        t.feed.balance = s.feed.balance ∧ t.feed.mismatch = s.feed.mismatch) ∧
      (s.station.cfg.balanceInterval * 100 ≤ s.feed.makeupAcc + s.station.cfg.kM →
        t.feed.makeupAcc = 0 ∧ t.feed.blowdownAcc = 0 ∧
        t.feed.balance.makeupLitres = s.feed.makeupAcc + s.station.cfg.kM ∧
        t.feed.balance.blowdownLitres = s.feed.blowdownAcc ∧
        t.feed.balance.measured = s.meas.derived.coc.getD 0 ∧
        (s.feed.blowdownAcc = 0 → t.feed.balance.metered = 0 ∧ t.feed.balance.result = .skipped ∧
          t.stats.flag .balanceSkipped = true ∧ t.feed.mismatch = s.feed.mismatch) ∧
        (0 < s.feed.blowdownAcc →
          t.feed.balance.metered =
            min 2500 (roundDiv ((s.feed.makeupAcc + s.station.cfg.kM) * 100) s.feed.blowdownAcc) ∧
          (s.meas.derived.coc = none → t.feed.balance.result = .uncompared ∧ t.feed.mismatch = s.feed.mismatch) ∧
          (∀ x ∈ s.meas.derived.coc,
            (s.station.cfg.tolerance * x < absDiff t.feed.balance.metered x * 100 →
              t.feed.balance.result = .mismatch ∧ t.feed.mismatch = true ∧ t.stats.flag .balanceMismatch = true ∧
              { kind := .balanceMismatch, active := true, unack := true } ∈ t.stats.alarms) ∧
            (absDiff t.feed.balance.metered x * 100 ≤ s.station.cfg.tolerance * x →
              t.feed.balance.result = .ok ∧ t.feed.mismatch = false)))) ∧
      t.station = s.station ∧ t.meas = s.meas ∧ t.claim = s.claim ∧ t.demand = s.demand ∧ t.peers = s.peers ∧
      t.bio = s.bio ∧ CountersKept s t [.makeupLitres, .inhibitorStrokes, .reportsSuperseded]) ∧
  (∀ (f : Feed) (milli : Nat), f.owed ≤ 250 →
    (f.owed + (f.remainder + milli) / 1000 ≤ 250 → f.earn milli =
      { f with owed := f.owed + (f.remainder + milli) / 1000, remainder := (f.remainder + milli) % 1000,
               backlog := f.backlog || f.owed + (f.remainder + milli) / 1000 == 250 }) ∧
    (250 < f.owed + (f.remainder + milli) / 1000 → f.earn milli =
      { f with owed := 250, remainder := 999, backlog := true }))

/-- The clocks of the meter and feed unit and of the inhibitor output. SLOT_BOUNDARY (R123): both rings turn and the
clock starts again, and a hold whose 60 s test has been made is tested again (R125; the mark that says so is the
model's, log 21, and so is that the estimate is read after the rings have turned, log 32). NO_FLOW_HOLD_TIME (R125):
at 60 s of a hold, NO FLOW is raised where the ring holds no litre and it was not raised in this hold.
STROKE_CLOCK_EXPIRY (R127, R128, R116): with strokes owed and the feed running, one is given, counted and begun, and a
backlog that it works off is over, with its report (the last counter field where its counter crosses too: log 23);
otherwise the clock stands, its interval passed (a mark of the model's, log 37), and has no second expiry before a
stroke. STROKE_PULSE_END (R116): after 200 ms the output goes low. -/
def Obligations.FeedClocksRun : Prop :=
  ∀ (w : NoFlowWatch) (s : State), Live s →
    (reached 5000 s.feed.slotClock = true →
      let u := { s with feed := { s.feed with makeupRing := s.feed.makeupRing.drop 1 ++ [0],
                                              blowdownRing := s.feed.blowdownRing.drop 1 ++ [0], slotClock := some 0 } }
      (s.feed.noFlow = none → exec .slotBoundary s = .next u) ∧
      (s.feed.noFlow = some w → w.tested = false ∨ w.raised = true ∨ u.feed.blowdownRing.sum ≠ 0 →
        exec .slotBoundary s = .next u) ∧
      (s.feed.noFlow = some w → w.tested = true → w.raised = false → u.feed.blowdownRing.sum = 0 →
        exec .slotBoundary s = .next
          ({ u with feed := { u.feed with noFlow := some { w with raised := true } } }.raise .noFlow).driveLines)) ∧
    (s.feed.noFlow = some w → 60000 ≤ w.holdTime → w.tested = false →
      (s.feed.blowdownRing.sum = 0 → w.raised = false → exec .noFlowHoldTime s = .next
        ({ s with feed := { s.feed with noFlow := some { w with tested := true, raised := true } } }.raise
          .noFlow).driveLines) ∧
      (s.feed.blowdownRing.sum ≠ 0 ∨ w.raised = true → exec .noFlowHoldTime s = .next
        { s with feed := { s.feed with noFlow := some { w with tested := true } } })) ∧
    (s.feed.strokePassed = true → exec .strokeClockExpiry s = .next s) ∧
    (s.station.state.working = true → reached (s.station.cfg.strokeInterval * 1000) s.feed.strokeClock = true →
      s.feed.strokePassed = false →
      (0 < s.feed.owed → s.station.state ≠ .hold → exec .strokeClockExpiry s = .next
        (let u := { s with feed := { s.feed with owed := s.feed.owed - 1, strokeClock := some 0, strokePassed := false,
                                                 backlog := s.feed.backlog && s.feed.owed != 1 },
                           out := { s.out with inhibitorPulse := some 0 } }.count .inhibitorStrokes 1
         if s.feed.backlog = true ∧ s.feed.owed = 1 then u.toldAfter s 1 else u.driveLines)) ∧
      (s.feed.owed = 0 ∨ s.station.state = .hold →
        exec .strokeClockExpiry s = .next { s with feed := { s.feed with strokePassed := true } })) ∧
    (reached 200 s.out.inhibitorPulse = true →
      exec .strokePulseEnd s = .next { s with out := { s.out with inhibitorPulse := none } })

/-! ## The biocide cycle (chapter 8) -/

/-- INTERVAL_TIMER_EXPIRY (R137) and BIOCIDE_NOW taken with OK (R138): the cycle is in DUE with the interval timer
stopped and the overdue clock started; the BIOCIDE engine's need is true with base 100 (R31, R139), and in RUN an
engine in REST is in ASKING; a report is composed for the cycle state, and in RUN one for the engine's (R90, log 6). The
command leaves the mailbox DONE with OK besides. In any other
cycle state or station state BIOCIDE_NOW is taken with NOT NOW and changes nothing else. -/
def Obligations.CycleFallsDue : Prop :=
  (∀ s : State, Live s → s.bio.cycle = .idle → (s.engine .biocide).state = .rest → (s.engine .biocide).need = false →
    let e := { s.engine .biocide with need := true, base := 100 }
    let u := { s with bio := { s.bio with cycle := .due, interval := none, overdue := some 0 },
                      demand := { s.demand with bBase := 100 } }.setEngine .biocide
               (if s.inRun then e.justAsking s.now else e)
    (s.station.state.working = true → s.bio.interval = some 0 → exec .intervalTimerExpiry s =
      .next (u.toldTimes (if s.inRun = true then 2 else 1))) ∧
    (Posted s .biocideNow → s.inRun = true → exec .biocideNow s = .next ((u.done .ok).toldTimes 2))) ∧
  (∀ s : State, Live s → Posted s .biocideNow → s.bio.cycle ≠ .idle ∨ s.station.state ≠ .run →
    exec .biocideNow s = .next (s.done .notNow).driveLines)

/-- PREBLEED_SHORT (R143, R144, R145, R27, R61): PREBLEED SHORT is raised, the force request is withdrawn and the
suppression request made, and DISCHARGE demand is false with base 0. A DISCHARGE engine in HOLDING is released whatever
its minimum run, its blowdown valve commanded closed, and the cycle waits in CLOSING; one in RELEASING stays there its
re-ask mark cleared where its need was true (R52); one that waits or rests is in REST, or stays in LOCKED, and the dose
begins at once; one that is STUCK aborts the cycle. The free order of R144 shows in none of these. -/
def Obligations.PrebleedLimitClosesBlowdown : Prop :=
  ∀ s : State, s.held = none → s.station.state.working = true → s.bio.cycle = .prebleed → s.bio.phase = some 0 →
    (s.engine .discharge).need = s.demand.dDemand → ∃ t, exec .prebleedShort s = .next t ∧ LinesFollow t ∧
      t.stats.flag .prebleedShort = true ∧ t.station = s.station ∧ t.meas = s.meas ∧ t.peers = s.peers ∧
      t.claim.supply = s.claim.supply ∧ t.out.makeup = s.out.makeup ∧
      ClosingEntered s t

/-- DOSE_TIME_EXPIRY (R146, R60): the pump is off, the BIOCIDE engine back in REST, the dose counted, the overdue clock
none and the cycle in CONTACT for the contact time; a report is composed for the engine's state and one for the cycle's
(R90, log 6), the last counter field where two counters cross (R173, log 23), BIOCIDE's hold start and the other marks of a
hold are cleared, which R60 and R146 do not list and is the model's reading (log 12), and nothing else changes. -/
def Obligations.DoseEndsInContact : Prop :=
  ∀ s : State, Live s → s.station.state.working = true → s.bio.cycle = .dosing → s.bio.phase = some 0 →
    (s.engine .biocide).state = .holding → (s.engine .biocide).need = false →
    exec .doseTimeExpiry s = .next
      ((({ s with bio := { s.bio with cycle := .contact, overdue := none,
                                      phase := some (s.station.cfg.contactTime * 1000) },
                  out := { s.out with biocidePump := false },
                  demand := { s.demand with bBase := 0 } }.setEngine .biocide
          { (s.engine .biocide).atRest with base := 0, holdStart := none, maxRun := none,
                                            releaseDeferred := false }).count .biocideDoses 1).toldAfter s 2)

/-- CONTACT_TIME_EXPIRY (R147, R27, R150): the suppression request is withdrawn and DISCHARGE recomputed at once,
BIOCIDE COMPLETE is raised, the abort mark cleared with its alarm's condition, and the cycle is in IDLE with the
full interval. A DISCHARGE engine at REST whose need is then true in RUN is in ASKING. -/
def Obligations.ContactEndsTheCycle : Prop :=
  ∀ s : State, s.held = none → s.station.state.working = true → s.bio.cycle = .contact → s.bio.phase = some 0 →
    (s.engine .discharge).need = s.demand.dDemand → s.demand.dDemand = false →
    ∃ t, exec .contactTimeExpiry s = .next t ∧ LinesFollow t ∧
      t.bio = { s.bio with cycle := .idle, interval := some (s.station.cfg.biocideInterval * 3600000), phase := none,
                           abortMark := false } ∧
      t.demand.suppress = false ∧ t.demand.force = s.demand.force ∧
      (t.demand.dDemand, t.demand.dBase) = dischargeDemand s.station.cfg s.meas.derived t.demand ∧
      (t.engine .discharge).need = t.demand.dDemand ∧
      ((s.engine .discharge).state = .rest →
        (t.engine .discharge).state = (if s.inRun ∧ t.demand.dDemand = true then .asking else .rest)) ∧
      t.stats.flag .biocideComplete = true ∧
      t.stats.alarms = (if s.bio.abortMark then calmAlarm s.stats.alarms .biocideAborted else s.stats.alarms) ∧
      t.station = s.station ∧ t.meas = s.meas ∧ t.peers = s.peers ∧ t.claim.supply = s.claim.supply ∧
      t.out = { s.out with relay := t.out.relay } ∧ t.feed = s.feed ∧ CountersKept s t [.reportsSuperseded]

/-! ## The panel port (chapter 11) -/

/-- The reads (R184, R185): status 0, the length and the content of the record named, and nothing changed but what is
shifted out; the lengths are those of the rules' lists. A PEER slot that is empty gives status 1, and an index or
record the table does not give gives status 2 (OUT OF RANGE), both with length 0. The two reads that clear (R176,
R157, R184): EVENTS returns the flags and the mask and clears every flag, and the attention line then stands in
CONFIG FAULT alone; RESET CAUSE returns the four marks and clears them. Then the content, field by field in its order:
STATION and POOL as R186 and R187 give their bytes, MEASURE (R18, R135), PEER (R79), BALANCE (R135), BIOCIDE (R154) and
CONFIG (R162, section 9.3) by the encodings of R185 (what these leave open: log 15), and the codes of R185 to R187. -/
def Obligations.ReadsReturnTheirRecord : Prop :=
  (∀ (p : Pool) (r i : Byte) (s : State), Live s →
    let reply (b : List Byte) : Host.Outcome State Fault Refusal := .next { s with port := { s.port with response := b } }
    (exec .readStation s = reply ([0, 15] ++ s.stationRecord) ∧ s.stationRecord.length = 15) ∧
    (exec .readMeasure s = reply ([0, 49] ++ s.measureRecord) ∧ s.measureRecord.length = 49) ∧
    (exec (.readPool p) s = reply ([0, 21] ++ s.poolRecordBytes p) ∧ (s.poolRecordBytes p).length = 21) ∧
    (exec .readBalance s = reply ([0, 30] ++ s.balanceBytes) ∧ s.balanceBytes.length = 30) ∧
    (exec .readBiocide s = reply ([0, 20] ++ s.biocideBytes) ∧ s.biocideBytes.length = 20) ∧
    (exec .readConfig s = reply ([0, 61] ++ s.configBytes) ∧ s.configBytes.length = 61) ∧
    (s.stats.histogram.length = 15 → exec .readHistogram s = reply ([0, 30] ++ s.stats.histogram.flatMap be16)) ∧
    (1 ≤ i.toNat → i.toNat ≤ 20 → exec (.readCounter i) s =
      reply ([0, 5] ++ be32 (s.stats.counterAt i.toNat).toNat ++ byte1 s.stats.lastCounter)) ∧
    (1 ≤ i.toNat → i.toNat ≤ 31 → exec (.readPeer i) s =
      reply (match s.peerAt i.toNat with
        | some e => [0, 40] ++ e.record
        | none => [1, 0])) ∧
    (recordIndexInRange r i = false → exec (.outOfRange r i) s = reply [2, 0])) ∧
  (∀ s : State, Live s →
    exec .readEvents s = .next
      { s with stats := { s.stats with flags := 0 },
               port := { s.port with response := [0, 8] ++ be32 s.stats.flags.toNat ++ be32 s.stats.mask.toNat,
                                     attention := s.station.state == .configFault } } ∧
    exec .readResetCause s = .next
      { s with station := { s.station with causes := { power := false, pin := false, dip := false, command := false } },
               port := { s.port with response := [0, 4] ++ markByte s.station.causes.power ++
                                       markByte s.station.causes.pin ++ markByte s.station.causes.dip ++
                                       markByte s.station.causes.command } }) ∧
  (∀ s : State,
    let mark := markByte
    let sec (ms : Nat) : Nat := roundDiv ms 1000
    let time (o : Option Nat) : List Byte := match o with
      | some ms => be32 (sec ms)
      | none => be32 0xFFFFFFFF
    let known (o : Option Nat) : List Byte := be16 (o.getD 0) ++ mark o.isNone
    let ago (o : Option Nat) : List Byte := match o with
      | some t => be16 (min 0xFFFE (sec (s.now - t)))
      | none => be16 0xFFFF
    let channel (r : ChannelRec) (x : Option Nat) : List Byte :=
      byte1 r.state.code ++ mark r.present ++ be16 r.averaged ++ known x
    let marksOf (p : Pool) : Nat :=
      bitIf (s.engine p).need 0 + bitIf (s.engine p).windowExpired 1 + bitIf (s.engine p).releaseDeferred 2 +
      bitIf (s.engine p).reask 3 + bitIf (s.engine p).lock 4
    let poolHead (p : Pool) (base marks : Nat) : List Byte :=
      byte1 p.index ++ byte1 (s.engine p).state.code ++ be16 (s.engine p).amount ++
      byte1 (min 255 ((s.engine p).base + (s.engine p).ageing)) ++ byte1 (s.engine p).ageing ++
      byte1 (s.engine p).heldUrgency ++ byte1 base ++ byte1 marks ++ be16 (s.engine p).effCap ++
      (match (s.engine p).phase with
        | some t => be16 (roundDiv (2500 - t) 100)
        | none => be16 0xFFFF) ++ ago (s.engine p).holdStart ++
      (match (s.engine p).maxRun with
        | some t => be16 (sec (s.station.cfg.maxRun p - t))
        | none => be16 0xFFFF) ++ ago (s.engine p).grantWait
    let valve (v : Valve) : List Byte :=
      byte1 (bitIf ((s.valve v).commanded == .opened) 0 +
        bitIf ((if (s.valve v).feedbackPresent then (s.valve v).settled else (s.valve v).commanded) == .opened) 1 +
        bitIf (s.valve v).feedbackPresent 2 + 16 * (s.valve v).check.code) ++
      byte1 (if (s.valve v).check = .openCheck ∨ (s.valve v).check = .closeCheck then
        sec (s.station.cfg.confirmTime * 1000 - (s.valve v).timer.getD 0) else 0)
    s.stationRecord = byte1 s.station.state.code ++ byte1 s.station.number ++
      byte1 (bitIf s.station.causes.power 0 + bitIf s.station.causes.pin 1 + bitIf s.station.causes.dip 2 +
        bitIf s.station.causes.command 3) ++ byte1 s.station.fault.code ++
      byte1 (bitIf s.alarmCondition 0 + bitIf s.out.relay 1 + bitIf s.station.restartPending 2 +
        bitIf s.port.attention 3) ++ byte1 s.stats.alarms.length ++
      (s.stats.alarms.map (fun (e : AlarmEntry) => BitVec.ofNat 8 (e.kind.code + bitIf e.active 6 + bitIf e.unack 7)) ++
        List.replicate 9 0).take 9 ∧
    s.measureRecord = channel s.meas.cb s.meas.derived.rawB ++ channel s.meas.tb s.meas.derived.t10B ++
      channel s.meas.cm s.meas.derived.rawM ++ channel s.meas.tm s.meas.derived.t10M ++
      channel s.meas.lv s.meas.derived.lv10 ++ known s.meas.derived.k25B ++ known s.meas.derived.k25M ++
      known s.meas.derived.coc ++ mark s.meas.derived.cyclesLimit ++ be16 (min 65535 s.feed.makeupRing.sum) ++
      be16 (min 65535 s.feed.blowdownRing.sum) ∧
    s.poolRecordBytes .discharge = poolHead .discharge (s.engine .discharge).base
      (marksOf .discharge + (bitIf s.demand.force 5 + bitIf s.demand.suppress 6 + bitIf (s.demand.mode == .k) 7)) ++
      valve .blowdown ∧
    s.poolRecordBytes .supply = poolHead .supply (s.engine .supply).base (marksOf .supply) ++ valve .makeup ∧
    s.poolRecordBytes .biocide = poolHead .biocide s.demand.bBase (marksOf .biocide) ++ [0, 0] ∧
    (∀ e : PeerEntry,
      let pool (r : PoolRecord) : List Byte := byte1 r.state.code ++ be16 r.amount ++ byte1 r.urgency ++ be16 r.cap
      e.record = byte1 e.number ++ byte1 e.freshness.code ++ byte1 (sec e.age) ++ [e.lastSeq] ++ be16 e.missed ++
        (mark e.flags.listening ++ mark e.flags.hold ++ mark e.flags.isolated ++ mark e.flags.alarm ++
          mark e.flags.capMismatch ++ mark e.flags.modeK) ++
        (mark e.faults.probe ++ mark e.faults.valve ++ mark e.faults.balance ++ mark e.faults.backlog) ++
        pool e.discharge ++ pool e.supply ++ pool e.biocide ++ be16 e.k25B ++ be16 e.coc ++ byte1 e.cycleCode ++
        mark e.mismatch) ∧
    s.balanceBytes = be32 s.feed.balance.makeupLitres ++ be32 s.feed.balance.blowdownLitres ++
      be16 s.feed.balance.metered ++ be16 s.feed.balance.measured ++ byte1 s.feed.balance.result.code ++
      be32 s.feed.makeupAcc ++ be32 s.feed.blowdownAcc ++ be32 (s.station.cfg.balanceInterval * 100) ++
      mark s.feed.mismatch ++ byte1 s.feed.owed ++ be16 s.feed.remainder ++ mark s.feed.backlog ∧
    s.biocideBytes = byte1 s.bio.cycle.code ++ time s.bio.interval ++ time s.bio.overdue ++ time s.bio.phase ++
      byte1 (if s.bio.phase = none then 0 else s.bio.cycle.code) ++ be16 s.bio.target ++ mark s.demand.force ++
      mark s.demand.suppress ++ mark s.bio.abortMark ++ mark s.out.biocidePump ∧
    (let c := s.station.cfg
     s.configBytes = mark (!s.station.loaded) ++
      byte1 (bitIf c.enableCb 0 + bitIf c.enableTb 1 + bitIf c.enableCm 2 + bitIf c.enableTm 3 + bitIf c.enableLv 4) ++
      byte1 (if c.mode = .c then 0 else 1) ++ be16 c.fsB ++ be16 c.fsM ++ be16 c.alpha ++ be16 c.sp ++ be16 c.db ++
      be16 c.hh ++ be16 c.cyclesSp ++ be16 c.cyclesDb ++ be16 c.lOn ++ be16 c.lOff ++ be16 c.ll ++ be16 c.kM ++
      be16 c.kB ++ byte1 (edgeModeCode c.edgeMakeup + 4 * edgeModeCode c.edgeBlowdown) ++ byte1 c.debounce ++
      be16 c.milliPerLitre ++ byte1 c.strokeInterval ++ byte1 c.biocideInterval ++ byte1 c.prebleedDrop ++
      byte1 (bitIf c.feedbackBlowdown 0 + bitIf c.feedbackMakeup 1) ++ be16 c.prebleedLimit ++ be16 c.doseTime ++
      be16 c.contactTime ++ be16 c.capDischarge ++ be16 c.capSupply ++ byte1 c.capBiocide ++ byte1 c.amountBiocide ++
      be16 c.amountDischarge ++ be16 c.amountSupply ++ be16 c.maxRunDischarge ++ be16 c.maxRunSupply ++
      byte1 c.confirmTime ++ byte1 c.tolerance ++ be16 c.balanceInterval)) ∧
  (([.start, .configFault, .listen, .run, .hold, .isolated, .quiet].map StationState.code = [0, 1, 2, 3, 4, 5, 6]) ∧
   ([.none, .noNumber, .noAnswer, .format, .length, .crc].map FaultReason.code = [0, 1, 2, 3, 4, 5]) ∧
   ([.highConductivity, .lowLevel, .probeFault, .valveFault, .duplicateStation, .isolated, .balanceMismatch,
     .biocideAborted, .configFault].map AlarmKind.code = [1, 2, 3, 4, 5, 6, 7, 8, 9]) ∧
   ([.rest, .asking, .confirming, .holding, .releasing, .stuck, .locked].map EngineState.code = [0, 1, 2, 3, 4, 5, 6]) ∧
   ([.idle, .due, .prebleed, .closing, .dosing, .contact].map Cycle.code = [0, 1, 2, 3, 4, 5]) ∧
   ([.good, .holding, .fault, .off].map ChanState.code = [0, 1, 2, 3]) ∧
   ([.none, .openCheck, .closeCheck, .closeWatch].map Check.code = [0, 1, 2, 3]) ∧
   ([.none, .ok, .mismatch, .skipped, .uncompared].map BalanceResult.code = [0, 1, 2, 3, 4]) ∧
   ([.fresh, .stale].map Freshness.code = [0, 1]) ∧ ([.rising, .falling, .both].map edgeModeCode = [0, 1, 2]))

/-- The mailbox (R183, R188, R189): READ MAILBOX returns its four fields and changes nothing; an unknown transaction
shifts out nothing; a post on a PENDING mailbox is discarded with MAILBOX COLLISION; any other is stored, and is DONE at
once with UNKNOWN for a code outside 1..8, with BAD ARGUMENT for an argument that is not zero, SET MASK excepted, and
otherwise PENDING, taken by no owner yet. A report is composed by none. The refusals of section 11.5 (R189, R192): a
command refused in the present state ends DONE with NOT NOW, COMMAND DONE raised, and changes nothing else. A transaction
(R183) is the command its first byte and its request bytes spell: a read with its record and index, in range or not by
R184's table; a post with its code and four argument bytes, high byte first; READ MAILBOX; an unknown one for any other
first byte; and none where it ends early. Its command waits behind those that wait. The model's own: where a response
stands (log 15), that a post ends a half-taken CLEAR COUNTERS (log 31), and the queue a transaction's command joins (log
24). On the wires (mode 0) data is sampled at the rising edges of the clock and changed at its falling edges, the most
significant bit of a byte first; a byte cut short by chip-select is none. What is shifted out is as long as what is sent:
0x00 with the request, then the response, then 0x00. -/
def Obligations.MailboxStoresAndRefuses : Prop :=
  (∀ (x code : Byte) (arg : Word32) (s : State), Live s →
    let m (st : MailState) (r : MailResult) : State :=
      { s with port := { s.port with response := [], clearedBy := none,
                                     mailbox := { state := st, code := code, argument := arg, result := r } } }
    exec .readMailbox s = .next { s with port := { s.port with
      response := byte1 s.port.mailbox.state.code ++ [s.port.mailbox.code] ++ be32 s.port.mailbox.argument.toNat ++
        byte1 s.port.mailbox.result.code } } ∧
    exec (.unknownTransaction x) s = .next { s with port := { s.port with response := [] } } ∧
    (s.port.mailbox.state = .pending → exec (.postCommand code arg) s =
      .next ({ s with port := { s.port with response := [] } }.raise .mailboxCollision).driveLines) ∧
    (s.port.mailbox.state ≠ .pending →
      (code = 0 ∨ 8 < code.toNat → exec (.postCommand code arg) s =
        .next ((m .done .unknown).raise .commandDone).driveLines) ∧
      (code ≠ 0 → code.toNat ≤ 8 → code ≠ 6 → arg ≠ 0 → exec (.postCommand code arg) s =
        .next ((m .done .badArgument).raise .commandDone).driveLines) ∧
      (code ≠ 0 → code.toNat ≤ 8 → code = 6 ∨ arg = 0 → exec (.postCommand code arg) s = .next (m .pending .none)))) ∧
  (∀ (straps : BitVec 5) (s : State), Live s →
    (Posted s .hold → s.station.state = .start ∨ s.station.state = .configFault ∨ s.station.state = .quiet →
      exec .hold s = .next (s.done .notNow).driveLines) ∧
    (Posted s .resume → s.station.state ≠ .hold → exec .resume s = .next (s.done .notNow).driveLines) ∧
    (Posted s .lineRestart → s.station.state = .start → exec .lineRestart s = .next (s.done .notNow).driveLines) ∧
    (Posted s .restart → s.station.state = .start → exec (.restart straps) s = .next (s.done .notNow).driveLines)) ∧
  ((∀ rest : List Byte,
    transactionCommand (1 :: 1 :: 0 :: rest) = some .readStation ∧
    transactionCommand (1 :: 2 :: 0 :: rest) = some .readMeasure ∧
    transactionCommand (1 :: 3 :: 0 :: rest) = some (.readPool .discharge) ∧
    transactionCommand (1 :: 3 :: 1 :: rest) = some (.readPool .supply) ∧
    transactionCommand (1 :: 3 :: 2 :: rest) = some (.readPool .biocide) ∧
    transactionCommand (1 :: 6 :: 0 :: rest) = some .readHistogram ∧
    transactionCommand (1 :: 7 :: 0 :: rest) = some .readEvents ∧
    transactionCommand (1 :: 8 :: 0 :: rest) = some .readBalance ∧
    transactionCommand (1 :: 9 :: 0 :: rest) = some .readBiocide ∧
    transactionCommand (1 :: 10 :: 0 :: rest) = some .readConfig ∧
    transactionCommand (1 :: 11 :: 0 :: rest) = some .readResetCause ∧
    transactionCommand (3 :: rest) = some .readMailbox ∧
    (∀ i : Byte, 1 ≤ i.toNat → i.toNat ≤ 31 → transactionCommand (1 :: 4 :: i :: rest) = some (.readPeer i)) ∧
    (∀ i : Byte, 1 ≤ i.toNat → i.toNat ≤ 20 → transactionCommand (1 :: 5 :: i :: rest) = some (.readCounter i)) ∧
    (∀ r i : Byte, recordIndexInRange r i = true ↔
      ((r = 1 ∨ r = 2 ∨ r = 6 ∨ r = 7 ∨ r = 8 ∨ r = 9 ∨ r = 10 ∨ r = 11) ∧ i = 0) ∨ (r = 3 ∧ i.toNat ≤ 2) ∨
      (r = 4 ∧ 1 ≤ i.toNat ∧ i.toNat ≤ 31) ∨ (r = 5 ∧ 1 ≤ i.toNat ∧ i.toNat ≤ 20)) ∧
    (∀ r i : Byte, recordIndexInRange r i = false →
      transactionCommand (1 :: r :: i :: rest) = some (.outOfRange r i)) ∧
    (∀ code a b c d : Byte, transactionCommand (2 :: code :: a :: b :: c :: d :: rest) =
      some (.postCommand code (a ++ b ++ c ++ d))) ∧
    (∀ x : Byte, x ≠ 1 → x ≠ 2 → x ≠ 3 → transactionCommand (x :: rest) = some (.unknownTransaction x))) ∧
   (∀ l : List Byte, l = [] ∨ (l.headD 0 = 1 ∧ l.length < 3) ∨ (l.headD 0 = 2 ∧ l.length < 6) →
    transactionCommand l = none ∧ ∀ s : State, s.transaction l = s) ∧
   (∀ (sent : List Byte) (c : Instr) (s : State), transactionCommand sent = some c →
    s.transaction sent = { s with pending := s.pending ++ [c] } ∧
    s.shiftsOut sent = shiftedOut sent s.port.response) ∧
   (∀ (sent response : List Byte), (shiftedOut sent response).length = sent.length ∧
    (∀ i, i < sent.length →
      let request := if sent.headD 0 = 1 then 3 else if sent.headD 0 = 2 then 6 else 1
      (shiftedOut sent response).getD i 0 = if i < request then 0 else response.getD (i - request) 0)) ∧
   (∀ (b : Byte) (i : Nat), i < 8 → (spiBits b).length = 8 ∧ (spiBits b).getD i false = b.getLsbD (7 - i)) ∧
   (∀ (sent : List Byte) (cut : List Bool) (s : State), cut.length < 8 →
    let levels := spiClocked (sent.flatMap spiBits ++ cut)
    s.spiTransaction levels = s.transaction sent ∧
    spiBytes (spiRead levels (s.spiShiftsOut levels)) = s.shiftsOut sent))

/-- ACKNOWLEDGE (R179, R58, R191): every entry is acknowledged and every inactive one removed, the others in their
places; every engine in LOCKED is in REST, or in ASKING where its need is true in RUN, and the VALVE FAULT condition
ends where none is left; no other engine moves; the command is DONE with OK. CLEAR_COUNTERS (R175, R132) and
SET_MASK (R177), each DONE with OK: counters, cells, last counter field and the two accumulators at 0, flags,
alarms, rings and owed strokes kept; or the mask the argument. The two owners of CLEAR_COUNTERS take it as separate
events, one its part and then the other the rest, in a free order (R191; each command one owner's taking, log 31), and the
result comes with the second.
The attention line follows, and nothing else changes, but for ACKNOWLEDGE's reports in the two slots and their counter.
(In CLOSING a DISCHARGE engine in LOCKED has let the dose begin, R145, so none waits there.) -/
def Obligations.RecordCommandsAct : Prop :=
  (∀ s : State, s.held = none → Posted s .acknowledge →
    (s.bio.cycle = .closing → (s.engine .discharge).state ≠ .locked) →
    ∃ t, exec .acknowledge s = .next t ∧ LinesFollow t ∧
      (∀ p, t.engine p =
        if (s.engine p).state = .locked then
          (if s.inRun ∧ (s.engine p).need = true then (s.engine p).atRest.justAsking s.now else (s.engine p).atRest)
        else s.engine p) ∧
      (let l := (s.stats.alarms.map (fun e => { e with unack := false })).filter (fun e => e.active)
       t.stats.alarms = if s.valveFault ∧ t.valveFault = false then calmAlarm l .valveFault else l) ∧
      t.out.relay = false ∧ t.stats.flag .commandDone = true ∧ CountersKept s t [.reportsSuperseded] ∧
      t = { s with claim := t.claim,
                   line := { s.line with onLine := t.line.onLine, nextSlot := t.line.nextSlot },
                   stats := { s.stats with alarms := t.stats.alarms, counters := t.stats.counters,
                                           flags := t.stats.flags, lastCounter := t.stats.lastCounter },
                   out := { s.out with relay := t.out.relay },
                   port := { s.port with mailbox := { s.port.mailbox with state := .done, result := .ok },
                                         attention := t.port.attention } } ∧
      (∀ e : Event, e ≠ .counterHalf → e ≠ .counterWrap → e ≠ .commandDone →
        t.stats.flag e = s.stats.flag e)) ∧
  (∀ s : State, Live s →
    (Posted s .clearCounters →
      let stats : Stats := { s.stats with counters := List.replicate 20 0, histogram := List.replicate 15 0,
                                          lastCounter := 0 }
      let feed : Feed := { s.feed with makeupAcc := 0, blowdownAcc := 0 }
      (s.port.clearedBy = none →
        (exec .clearCounters s = .next { s with stats := stats, freeIx := s.freeIx + 1,
                                                port := { s.port with clearedBy := some .statistics } } ∨
         exec .clearCounters s = .next { s with feed := feed, freeIx := s.freeIx + 1,
                                                port := { s.port with clearedBy := some .feed } }) ∧
        ∃ u, exec .clearCounters s = .next u ∧ exec .clearCounters u = .next
          ({ s with stats := stats, feed := feed, freeIx := s.freeIx + 1 }.done .ok).driveLines) ∧
      (s.port.clearedBy = some .statistics → exec .clearCounters s = .next
        ({ s with feed := feed, port := { s.port with clearedBy := none } }.done .ok).driveLines) ∧
      (s.port.clearedBy = some .feed → exec .clearCounters s = .next
        ({ s with stats := stats, port := { s.port with clearedBy := none } }.done .ok).driveLines)) ∧
    (s.port.mailbox.state = .pending → s.port.mailbox.code = 6 → s.station.restartPending = false →
      exec .setMask s = .next ({ s with stats := { s.stats with mask := s.port.mailbox.argument } }.done .ok).driveLines))

/-- HOLD (R166): from LISTEN, RUN or ISOLATED the station is in HOLD, every engine released and a cycle in one of its
three phases aborted, the ISOLATED condition over; in HOLD nothing changes. RESUME: from HOLD the station is in LISTEN
with its listen and delivery timers started, and a stroke is given where one is owed and the clock shows no stroke yet
or its interval passed (R128, log 37). Each is DONE with OK. -/
def Obligations.HoldReleasesAndResumeListens : Prop :=
  ∀ s : State, Live s →
    (Posted s .hold → s.station.state = .hold → exec .hold s = .next (s.done .ok).driveLines) ∧
    (Posted s .hold → s.station.state = .listen ∨ s.station.state = .run ∨ s.station.state = .isolated →
      ∃ t, exec .hold s = .next t ∧ LinesFollow t ∧ t.station = { s.station with state := .hold, listen := none } ∧
        (∀ p, (t.engine p).state.passive = true) ∧
        (s.bio.cycle.abortable = true → t.bio.cycle = .idle ∧ t.bio.interval = some 3600000 ∧ t.bio.abortMark = true ∧
          t.stats.flag .biocideAborted = true) ∧
        (s.bio.cycle.abortable = false → t.bio = s.bio) ∧
        (s.station.state = .isolated → ∀ e ∈ t.stats.alarms, e.kind = .isolated → e.active = false) ∧
        t.port.mailbox = { s.port.mailbox with state := .done, result := .ok } ∧ t.stats.flag .commandDone = true ∧
        t.peers = s.peers ∧ t.meas = s.meas ∧ t.line.deliveryTimer = s.line.deliveryTimer ∧ t.line.seq = s.line.seq ∧
        t.feed = { s.feed with noFlow := t.feed.noFlow } ∧ CountersKept s t [.reportsSuperseded]) ∧
    (Posted s .resume → s.station.state = .hold →
      ∃ t, exec .resume s = .next t ∧ LinesFollow t ∧
        t.station = { s.station with state := .listen, listen := some 8000 } ∧ t.line.deliveryTimer = some 0 ∧
        t.port.mailbox = { s.port.mailbox with state := .done, result := .ok } ∧
        t.out.inhibitorPulse =
          (if 0 < s.feed.owed ∧ (s.feed.strokeClock = none ∨ s.feed.strokePassed = true) then some 0
           else s.out.inhibitorPulse) ∧
        t.feed.owed = s.feed.owed - (if s.feed.strokeClock = none ∨ s.feed.strokePassed = true then 1 else 0) ∧
        t.claim = s.claim ∧ t.bio = s.bio ∧ t.demand = s.demand ∧ t.meas = s.meas ∧ t.peers = s.peers ∧
        t.line.seq = s.line.seq ∧ CountersKept s t [.inhibitorStrokes, .reportsSuperseded])

/-- LINE_RESTART (R102): a frame on line is lost, counted with REPORT LOST, and the number advances; the frame in next,
the frame being collected and the receive queue are gone without a count; the receiver collects again from the next frame
end; the timers, the peer table and every other counter stay; a REPORT is composed where the station state allows; DONE
with OK. -/
def Obligations.LineRestartEmptiesTheLine : Prop :=
  ∀ s : State, Live s → Posted s .lineRestart → s.station.state ≠ .start →
    (s.line.onLine = none → exec .lineRestart s = .next
      ({ s with line := { s.line with nextSlot := none, rxQueue := [], rxMode := .skip, rxChars := [],
                                      rxTooLong := false } }.done .ok).told) ∧
    (s.line.onLine.isSome = true → exec .lineRestart s = .next
      (((({ s with line := { s.line with onLine := none, nextSlot := none, rxQueue := [], rxMode := .skip,
                                         rxChars := [], rxTooLong := false,
                                         seq := s.line.seq + 1 } }.count .reportsLost 1).raise .reportLost).done
        .ok).told))

/-- RESTART (R169, R170, R190, R152, R157). In QUIET, in CONFIG FAULT or with an own engine STUCK it takes effect at once:
START from the strap read with the COMMAND mark set, the table empty, the sequence number 0, the outputs closed, the flags
cleared, the mask all ones, the alarm list empty (but for CONFIG FAULT where the straps give no number), the receive queue
and the flow rings empty (R181, R103, R133), the mailbox EMPTY; counters, cells, accumulators, remainder and owed strokes
survive, as do an idle cycle's interval and a CONTACT's remaining time. Otherwise restart pending is set, a LEAVING takes
the slot of a waiting REPORT, and the command stays PENDING. The fields that the spec gives at the load alone hold the
model's values until then (log 11). -/
def Obligations.RestartLeavesFirst : Prop :=
  ∀ (straps : BitVec 5) (s : State), Live s → Posted s .restart → s.station.state ≠ .start →
    let atOnce := s.station.state = .quiet ∨ s.station.state = .configFault ∨ (s.engine .discharge).state = .stuck ∨
      (s.engine .supply).state = .stuck ∨ (s.engine .biocide).state = .stuck
    (atOnce → ∃ t, exec (.restart straps) s = .next t ∧ LinesFollow t ∧
      t.station.state = (if straps = 0 then .configFault else .start) ∧ t.station.number = straps.toNat ∧
      t.station.causes = { s.station.causes with command := true } ∧ t.station.restartPending = false ∧
      t.station.loaded = false ∧ t.peers = [] ∧ t.line.seq = 0 ∧ t.line.onLine = none ∧ t.line.nextSlot = none ∧
      (∀ v, (t.valve v).commanded = .closed ∧ (t.valve v).check = .none) ∧ t.out.biocidePump = false ∧
      t.out.inhibitorPulse = none ∧ t.stats.flags = 0 ∧ t.stats.mask = BitVec.allOnes 32 ∧
      t.stats.counters = s.stats.counters ∧ t.stats.histogram = s.stats.histogram ∧
      t.stats.lastCounter = s.stats.lastCounter ∧ t.port.mailbox = Mailbox.reset ∧ t.claim = Claim.reset ∧
      t.stats.alarms = (if straps = 0 then [{ kind := .configFault, active := true, unack := true }] else []) ∧
      t.line.rxQueue = [] ∧ t.feed.makeupRing = List.replicate 12 0 ∧ t.feed.blowdownRing = List.replicate 12 0 ∧
      t.feed.makeupAcc = s.feed.makeupAcc ∧ t.feed.blowdownAcc = s.feed.blowdownAcc ∧ t.feed.owed = s.feed.owed ∧
      t.feed.remainder = s.feed.remainder ∧ t.feed.balance = s.feed.balance ∧ t.feed.mismatch = s.feed.mismatch ∧
      t.bio.abortMark = s.bio.abortMark ∧
      (s.bio.cycle = .idle → t.bio.cycle = .idle ∧ t.bio.interval = s.bio.interval) ∧
      (s.bio.cycle = .contact → t.bio.cycle = .contact ∧ t.bio.phase = s.bio.phase) ∧
      (s.bio.cycle ≠ .idle → s.bio.cycle ≠ .contact → t.bio.cycle = .idle ∧ t.bio.interval = some 3600000)) ∧
    (¬ atOnce →
      let u := { s with station := { s.station with restartPending := true } }
      let leaving : TxFrame := { kind := .leaving, source := BitVec.ofNat 8 s.station.number,
                                 flags := s.stationFlags.toByte, payload := [] }
      (s.line.onLine = none → s.line.nextSlot = none → exec (.restart straps) s = .next
        { u with line := { s.line with leavingComposed := true,
                                       onLine := some { frame := leaving, bytes := leaving.encode s.line.seq,
                                                        failures := 0, sending := false } } }) ∧
      (s.line.onLine.isSome = true → s.line.nextSlot = none → exec (.restart straps) s = .next
        { u with line := { s.line with leavingComposed := true, nextSlot := some leaving } }) ∧
      (s.line.onLine.isSome = true → s.line.nextSlot.isSome = true → exec (.restart straps) s = .next
        ({ u with line := { s.line with leavingComposed := true, nextSlot := some leaving } }.count .reportsSuperseded
          1).driveLines))

/-! ## Counters, events and alarms (chapter 10) -/

/-- An increment (R171, R172): the counter named takes its value plus the amount modulo 2^32 and no other changes;
COUNTER WRAP and the last counter field where the sum passes 2^32, COUNTER HALF and the field where it reaches 2^31
from below, and neither otherwise. A grant's wait (R174) adds 1 to the cell of its bucket, to 65535 at most. -/
def Obligations.CountersWrapAndTell : Prop :=
  ∀ (c : Counter) (p : Pool) (amount w : Nat) (t : Stats), t.counters.length = 20 → t.histogram.length = 15 →
    amount ≤ 1000 →
    (t.count c amount).counter c = t.counter c + BitVec.ofNat 32 amount ∧
    (∀ i, i < 20 → i + 1 ≠ c.number → (t.count c amount).counterAt (i + 1) = t.counterAt (i + 1)) ∧
    (2 ^ 32 ≤ (t.counter c).toNat + amount → (t.count c amount).lastCounter = c.number ∧
      (t.count c amount).flags = t.flags ||| BitVec.twoPow 32 28) ∧
    ((t.counter c).toNat < 2 ^ 31 → 2 ^ 31 ≤ (t.counter c).toNat + amount →
      (t.count c amount).lastCounter = c.number ∧ (t.count c amount).flags = t.flags ||| BitVec.twoPow 32 27) ∧
    ((t.counter c).toNat + amount < 2 ^ 32 → 2 ^ 31 ≤ (t.counter c).toNat ∨ (t.counter c).toNat + amount < 2 ^ 31 →
      (t.count c amount).lastCounter = t.lastCounter ∧ (t.count c amount).flags = t.flags) ∧
    (∀ i, i < 15 → (t.grantWait p w).histogram.getD i 0 =
      if i = 5 * p.index + (if w ≤ 5 then 0 else if w ≤ 29 then 1 else if w ≤ 119 then 2 else if w ≤ 599 then 3 else 4)
      then min 65535 (t.histogram.getD i 0 + 1) else t.histogram.getD i 0)

/-- The flags and the alarm list (R176, R178, R179): a raised event's flag is set and no other flag changes; an
occurrence leaves exactly one entry of its kind with both marks set, at the tail where there was none and in its
place otherwise, and every other entry as it was; a condition that ends clears the active mark alone; ACKNOWLEDGE
keeps exactly the active entries, in their order, acknowledged. -/
def Obligations.EventsAndAlarmsLatch : Prop :=
  ∀ (e f : Event) (k : AlarmKind) (t : Stats) (l : List AlarmEntry), (l.map AlarmEntry.kind).Nodup →
    ((t.raise e).flag f = (t.flag f || e == f)) ∧
    (latchAlarm l k).filter (fun x => x.kind == k) = [{ kind := k, active := true, unack := true }] ∧
    (latchAlarm l k).filter (fun x => x.kind != k) = l.filter (fun x => x.kind != k) ∧
    (latchAlarm l k).map AlarmEntry.kind =
      (if k ∈ l.map AlarmEntry.kind then l.map AlarmEntry.kind else l.map AlarmEntry.kind ++ [k]) ∧
    (calmAlarm l k).map (fun x => (x.kind, x.unack)) = l.map (fun x => (x.kind, x.unack)) ∧
    (calmAlarm l k).filter (fun x => x.kind != k) = l.filter (fun x => x.kind != k) ∧
    (∀ x ∈ calmAlarm l k, x.kind = k → x.active = false) ∧
    acknowledgeAlarms l = (l.filter (fun x => x.active)).map (fun x => { x with unack := false })

/-! ## Encodings -/

/-- The REPORT this station sends is read by a peer exactly as it was composed (R67, R82, R86, R87, R89, R92, R65): the
frame passes every check, and the entry made from it carries the station's number, the sequence number, the station
flags, the three pool records, κ25B, CoC100, the cycle state and the fault summary of the moment of composition. -/
def Obligations.OwnReportIsReadAsComposed : Prop :=
  ∀ (seq : Byte) (s : State), 1 ≤ s.station.number → s.station.number ≤ 31 →
    (∀ p, (s.engine p).amount < 65536 ∧ (s.engine p).heldUrgency < 256 ∧ s.station.cfg.cap p < 65536) →
    s.meas.derived.k25B.getD 0 < 65536 → s.meas.derived.coc.getD 0 < 65536 →
    frameVerdict ((s.reportFrame.encode seq).map (fun b => { byte := b, framingError := false })) = .good ∧
    PeerEntry.ofReport (s.reportFrame.encode seq) =
      { number := s.station.number, freshness := .fresh, age := 0, lastSeq := seq, missed := 0, flags := s.stationFlags,
        discharge := s.poolRecord .discharge, supply := s.poolRecord .supply, biocide := s.poolRecord .biocide,
        k25B := s.meas.derived.k25B.getD 0, coc := s.meas.derived.coc.getD 0, cycleCode := s.bio.cycle.code,
        faults := s.faultSummary, mismatch := false }

/-- The CONFIG record holds the effective configuration whole (R161, R162): an image made of its 60 field bytes loads as
the same configuration, with no clamp and no repair. That its configured times stand there in the image's widths and
units, so that its bytes make an image at all, is the model's reading of R185 (log 15). And an image with every field in
its range, CB enabled, L_off above L_on, DB at most SP, each amount at most its cap and no edge mode code 3 loads the
values that stand in it, at the offsets of section 9.3, high byte first. -/
def Obligations.ConfigRecordReloadsUnchanged : Prop :=
  (∀ b tail : List Byte,
    let image := [0x4B, 64] ++ configFieldBytes (effectiveConfig b) ++ tail
    effectiveConfig image = effectiveConfig b ∧ configClampedBy image = false) ∧
  (∀ b : List Byte, (∀ f ∈ imageFields, f.lo ≤ f.raw b ∧ f.raw b ≤ f.hi) → (byteAt b 2).getLsbD 0 = true →
    nat2At b 20 < nat2At b 22 → nat2At b 12 ≤ nat2At b 10 → nat2At b 50 ≤ nat2At b 44 → nat2At b 52 ≤ nat2At b 46 →
    nat1At b 49 ≤ nat1At b 48 → nat1At b 30 % 4 ≠ 3 → nat1At b 30 / 4 % 4 ≠ 3 →
    let edge (n : Nat) : EdgeMode := if n = 0 then .rising else if n = 1 then .falling else .both
    configClampedBy b = false ∧
    effectiveConfig b =
      { enableCb := true, enableTb := (byteAt b 2).getLsbD 1, enableCm := (byteAt b 2).getLsbD 2,
        enableTm := (byteAt b 2).getLsbD 3, enableLv := (byteAt b 2).getLsbD 4,
        mode := if nat1At b 3 = 0 then .c else .k, fsB := nat2At b 4, fsM := nat2At b 6, alpha := nat2At b 8,
        sp := nat2At b 10, db := nat2At b 12, hh := nat2At b 14, cyclesSp := nat2At b 16, cyclesDb := nat2At b 18,
        lOn := nat2At b 20, lOff := nat2At b 22, ll := nat2At b 24, kM := nat2At b 26, kB := nat2At b 28,
        edgeMakeup := edge (nat1At b 30 % 4), edgeBlowdown := edge (nat1At b 30 / 4 % 4), debounce := nat1At b 31,
        milliPerLitre := nat2At b 32, strokeInterval := nat1At b 34, biocideInterval := nat1At b 35,
        prebleedDrop := nat1At b 36, feedbackBlowdown := (byteAt b 37).getLsbD 0,
        feedbackMakeup := (byteAt b 37).getLsbD 1, prebleedLimit := nat2At b 38, doseTime := nat2At b 40,
        contactTime := nat2At b 42, capDischarge := nat2At b 44, capSupply := nat2At b 46, capBiocide := nat1At b 48,
        amountBiocide := nat1At b 49, amountDischarge := nat2At b 50, amountSupply := nat2At b 52,
        maxRunDischarge := nat2At b 54, maxRunSupply := nat2At b 56, confirmTime := nat1At b 58,
        tolerance := nat1At b 59, balanceInterval := nat2At b 60 })

/-! ## What every step keeps -/

/-- The alarm relay and the attention line show after every step what the list, the flags, the mask, the station state
and a standing reset cause make of them (R117, R177, R164, R156). -/
def Obligations.LinesFollowAlways : Prop :=
  ∀ s t : State, LinesFollow s → step s = .next t → LinesFollow t

/-- Outside RUN no pool engine is in ASKING, CONFIRMING or HOLDING, after every step (R61). -/
def Obligations.PassiveOutsideRunAlways : Prop :=
  ∀ s t : State, PassiveOutsideRun s → step s = .next t → PassiveOutsideRun t

/-- A valve is commanded open only while its engine is in HOLDING, and each valve's record is the one its engine's state
gives it while the part works (R106 to R112). -/
def Obligations.ValvesFollowEnginesAlways : Prop :=
  ∀ s t : State, OpenOnlyHolding s ∧ ValvesMatch s → step s = .next t → OpenOnlyHolding t ∧ ValvesMatch t

/-- The cycle is in PREBLEED, CLOSING or DOSING only while the BIOCIDE engine is in HOLDING (R146), and the biocide pump
is on only in DOSING (R115), given that outside RUN no engine holds (R61). -/
def Obligations.DosePhasesAreHeldAlways : Prop :=
  ∀ s t : State, PassiveOutsideRun s ∧ PhasesHeld s ∧ PumpOnlyDosing s → step s = .next t →
    PhasesHeld t ∧ PumpOnlyDosing t

/-- The bounds of the rules hold after every step: 250 owed strokes, a remainder of 999, 31 characters of a frame being
collected, four queued frames, an ageing of 55 (R126, R81, R84, R38), and one entry for each alarm kind (section 10.5);
there are always twenty counters, fifteen histogram cells and twelve slots in each flow ring, a cell or a slot never above
65535 (R171, R174, R123); and the last counter field is 0 or a counter's number (R172). -/
def Obligations.BoundsHoldAlways : Prop :=
  ∀ s t : State, Bounded s ∧ OneEntryPerKind s → step s = .next t → Bounded t ∧ OneEntryPerKind t

/-- The peer table stays in station-number order with one entry for a number, none for 0, above 31 or the own number
(R65), and empty in START, CONFIG FAULT and QUIET (R77); no queued frame has source 0 (R82). -/
def Obligations.PeerTableStaysInOrder : Prop :=
  ∀ s t : State, TableInOrder s ∧ QueueSourced s ∧ TableOnlyReporting s → step s = .next t →
    TableInOrder t ∧ QueueSourced t ∧ TableOnlyReporting t

/-- The effective cap of each pool is, after every step, the smallest of the own cap and the caps FRESH peers carry
(R36), and no claimed amount exceeds the own cap (R35); in START and CONFIG FAULT no configuration is loaded, and amounts
and effective caps are 0 as the configured values are, which is the model's choice where the spec gives them at the load
alone (UnloadedOutsideWork, log 11). -/
def Obligations.CapsAreSmallestAlways : Prop :=
  ∀ s t : State, CapsSmallest s ∧ AmountsWithinOwn s ∧ UnloadedOutsideWork s ∧ TableOnlyReporting s → step s = .next t →
    CapsSmallest t ∧ AmountsWithinOwn t ∧ UnloadedOutsideWork t ∧ TableOnlyReporting t

/-- The on-line frame carries the current sequence number and its own CRC after every step, fewer than eight attempts of
its chain have failed, and next is empty behind an empty on-line slot (R92, R95, R96, R98). -/
def Obligations.OnLineFrameIsReadyAlways : Prop :=
  ∀ s t : State, OnLineFrameReady s → step s = .next t → OnLineFrameReady t

/-- From CLOSING to the end of CONTACT, and at no other time, the suppression request stands; while it stands demand is
false, and the engine's need with it, and the DISCHARGE engine neither waits nor holds (R27, R144, R146, R147). A release
it is in ends in REST or LOCKED, as R145 has it, since a re-ask mark without a need does not count (R52, R37; the model's
reading where R53 names the mark alone, log 28). -/
def Obligations.NoBlowdownDuringTheDose : Prop :=
  ∀ s t : State, DoseSealed s ∧ PassiveOutsideRun s ∧ PhasesHeld s ∧ UnloadedOutsideWork s → step s = .next t → DoseSealed t
end

