-- ==== Sys2Proof/Laws/State.lean ====
section
/-! SUPPORT. One lemma per field and update of State: what each named update leaves as it was and what it sets. Most are
true by rfl; later proofs use them in place of unfolding a record update. -/

namespace Sys2Proof.Machine
open Sys2Proof

@[simp] theorem State.setEngine_now (s : State) (p : Pool) (e : Engine) : (s.setEngine p e).now = s.now := by
  cases p <;> rfl
@[simp] theorem State.setEngine_freeIx (s : State) (p : Pool) (e : Engine) : (s.setEngine p e).freeIx = s.freeIx := by
  cases p <;> rfl
@[simp] theorem State.setEngine_held (s : State) (p : Pool) (e : Engine) : (s.setEngine p e).held = s.held := by
  cases p <;> rfl
@[simp] theorem State.setEngine_station (s : State) (p : Pool) (e : Engine) :
    (s.setEngine p e).station = s.station := by
  cases p <;> rfl
@[simp] theorem State.setEngine_meas (s : State) (p : Pool) (e : Engine) : (s.setEngine p e).meas = s.meas := by
  cases p <;> rfl
@[simp] theorem State.setEngine_demand (s : State) (p : Pool) (e : Engine) : (s.setEngine p e).demand = s.demand := by
  cases p <;> rfl
@[simp] theorem State.setEngine_peers (s : State) (p : Pool) (e : Engine) : (s.setEngine p e).peers = s.peers := by
  cases p <;> rfl
@[simp] theorem State.setEngine_line (s : State) (p : Pool) (e : Engine) : (s.setEngine p e).line = s.line := by
  cases p <;> rfl
@[simp] theorem State.setEngine_out (s : State) (p : Pool) (e : Engine) : (s.setEngine p e).out = s.out := by
  cases p <;> rfl
@[simp] theorem State.setEngine_feed (s : State) (p : Pool) (e : Engine) : (s.setEngine p e).feed = s.feed := by
  cases p <;> rfl
@[simp] theorem State.setEngine_bio (s : State) (p : Pool) (e : Engine) : (s.setEngine p e).bio = s.bio := by
  cases p <;> rfl
@[simp] theorem State.setEngine_stats (s : State) (p : Pool) (e : Engine) : (s.setEngine p e).stats = s.stats := by
  cases p <;> rfl
@[simp] theorem State.setEngine_port (s : State) (p : Pool) (e : Engine) : (s.setEngine p e).port = s.port := by
  cases p <;> rfl
@[simp] theorem State.setEngine_pending (s : State) (p : Pool) (e : Engine) :
    (s.setEngine p e).pending = s.pending := by
  cases p <;> rfl

@[simp] theorem State.engine_setEngine (s : State) (p : Pool) (e : Engine) : (s.setEngine p e).engine p = e := by
  cases p <;> rfl
theorem State.engine_setEngine_ne (s : State) {p q : Pool} (e : Engine) (h : q ≠ p) :
    (s.setEngine p e).engine q = s.engine q := by
  cases p <;> cases q <;> first | rfl | exact absurd rfl h
@[simp] theorem State.valve_setEngine (s : State) (p : Pool) (e : Engine) (v : Valve) :
    (s.setEngine p e).valve v = s.valve v := by
  cases p <;> cases v <;> rfl
@[simp] theorem State.setEngine_engine (s : State) (p : Pool) : s.setEngine p (s.engine p) = s := by cases p <;> rfl
@[simp] theorem State.setEngine_setEngine (s : State) (p : Pool) (e f : Engine) :
    (s.setEngine p e).setEngine p f = s.setEngine p f := by
  cases p <;> rfl

@[simp] theorem State.setValve_now (s : State) (v : Valve) (r : ValveRec) : (s.setValve v r).now = s.now := by
  cases v <;> rfl
@[simp] theorem State.setValve_freeIx (s : State) (v : Valve) (r : ValveRec) :
    (s.setValve v r).freeIx = s.freeIx := by
  cases v <;> rfl
@[simp] theorem State.setValve_held (s : State) (v : Valve) (r : ValveRec) : (s.setValve v r).held = s.held := by
  cases v <;> rfl
@[simp] theorem State.setValve_station (s : State) (v : Valve) (r : ValveRec) :
    (s.setValve v r).station = s.station := by
  cases v <;> rfl
@[simp] theorem State.setValve_meas (s : State) (v : Valve) (r : ValveRec) : (s.setValve v r).meas = s.meas := by
  cases v <;> rfl
@[simp] theorem State.setValve_demand (s : State) (v : Valve) (r : ValveRec) :
    (s.setValve v r).demand = s.demand := by
  cases v <;> rfl
@[simp] theorem State.setValve_claim (s : State) (v : Valve) (r : ValveRec) : (s.setValve v r).claim = s.claim := by
  cases v <;> rfl
@[simp] theorem State.setValve_peers (s : State) (v : Valve) (r : ValveRec) : (s.setValve v r).peers = s.peers := by
  cases v <;> rfl
@[simp] theorem State.setValve_line (s : State) (v : Valve) (r : ValveRec) : (s.setValve v r).line = s.line := by
  cases v <;> rfl
@[simp] theorem State.setValve_feed (s : State) (v : Valve) (r : ValveRec) : (s.setValve v r).feed = s.feed := by
  cases v <;> rfl
@[simp] theorem State.setValve_bio (s : State) (v : Valve) (r : ValveRec) : (s.setValve v r).bio = s.bio := by
  cases v <;> rfl
@[simp] theorem State.setValve_stats (s : State) (v : Valve) (r : ValveRec) : (s.setValve v r).stats = s.stats := by
  cases v <;> rfl
@[simp] theorem State.setValve_port (s : State) (v : Valve) (r : ValveRec) : (s.setValve v r).port = s.port := by
  cases v <;> rfl
@[simp] theorem State.setValve_pending (s : State) (v : Valve) (r : ValveRec) :
    (s.setValve v r).pending = s.pending := by
  cases v <;> rfl

@[simp] theorem State.valve_setValve (s : State) (v : Valve) (r : ValveRec) : (s.setValve v r).valve v = r := by
  cases v <;> rfl
theorem State.valve_setValve_ne (s : State) {v w : Valve} (r : ValveRec) (h : w ≠ v) :
    (s.setValve v r).valve w = s.valve w := by
  cases v <;> cases w <;> first | rfl | exact absurd rfl h
@[simp] theorem State.engine_setValve (s : State) (v : Valve) (r : ValveRec) (p : Pool) :
    (s.setValve v r).engine p = s.engine p := by
  cases v <;> cases p <;> rfl
@[simp] theorem State.setValve_biocidePump (s : State) (v : Valve) (r : ValveRec) :
    (s.setValve v r).out.biocidePump = s.out.biocidePump := by
  cases v <;> rfl
@[simp] theorem State.setValve_inhibitorPulse (s : State) (v : Valve) (r : ValveRec) :
    (s.setValve v r).out.inhibitorPulse = s.out.inhibitorPulse := by
  cases v <;> rfl
@[simp] theorem State.setValve_relay (s : State) (v : Valve) (r : ValveRec) :
    (s.setValve v r).out.relay = s.out.relay := by
  cases v <;> rfl

@[simp] theorem State.raise_now (s : State) (e : Event) : (s.raise e).now = s.now := rfl
@[simp] theorem State.raise_freeIx (s : State) (e : Event) : (s.raise e).freeIx = s.freeIx := rfl
@[simp] theorem State.raise_held (s : State) (e : Event) : (s.raise e).held = s.held := rfl
@[simp] theorem State.raise_station (s : State) (e : Event) : (s.raise e).station = s.station := rfl
@[simp] theorem State.raise_meas (s : State) (e : Event) : (s.raise e).meas = s.meas := rfl
@[simp] theorem State.raise_demand (s : State) (e : Event) : (s.raise e).demand = s.demand := rfl
@[simp] theorem State.raise_claim (s : State) (e : Event) : (s.raise e).claim = s.claim := rfl
@[simp] theorem State.raise_peers (s : State) (e : Event) : (s.raise e).peers = s.peers := rfl
@[simp] theorem State.raise_line (s : State) (e : Event) : (s.raise e).line = s.line := rfl
@[simp] theorem State.raise_out (s : State) (e : Event) : (s.raise e).out = s.out := rfl
@[simp] theorem State.raise_feed (s : State) (e : Event) : (s.raise e).feed = s.feed := rfl
@[simp] theorem State.raise_bio (s : State) (e : Event) : (s.raise e).bio = s.bio := rfl
@[simp] theorem State.raise_port (s : State) (e : Event) : (s.raise e).port = s.port := rfl
@[simp] theorem State.raise_pending (s : State) (e : Event) : (s.raise e).pending = s.pending := rfl

@[simp] theorem State.engine_raise (s : State) (e : Event) (p : Pool) : (s.raise e).engine p = s.engine p := by
  cases p <;> rfl
@[simp] theorem State.valve_raise (s : State) (e : Event) (v : Valve) : (s.raise e).valve v = s.valve v := by
  cases v <;> rfl

@[simp] theorem State.count_now (s : State) (c : Counter) (n : Nat) : (s.count c n).now = s.now := rfl
@[simp] theorem State.count_freeIx (s : State) (c : Counter) (n : Nat) : (s.count c n).freeIx = s.freeIx := rfl
@[simp] theorem State.count_held (s : State) (c : Counter) (n : Nat) : (s.count c n).held = s.held := rfl
@[simp] theorem State.count_station (s : State) (c : Counter) (n : Nat) : (s.count c n).station = s.station := rfl
@[simp] theorem State.count_meas (s : State) (c : Counter) (n : Nat) : (s.count c n).meas = s.meas := rfl
@[simp] theorem State.count_demand (s : State) (c : Counter) (n : Nat) : (s.count c n).demand = s.demand := rfl
@[simp] theorem State.count_claim (s : State) (c : Counter) (n : Nat) : (s.count c n).claim = s.claim := rfl
@[simp] theorem State.count_peers (s : State) (c : Counter) (n : Nat) : (s.count c n).peers = s.peers := rfl
@[simp] theorem State.count_line (s : State) (c : Counter) (n : Nat) : (s.count c n).line = s.line := rfl
@[simp] theorem State.count_out (s : State) (c : Counter) (n : Nat) : (s.count c n).out = s.out := rfl
@[simp] theorem State.count_feed (s : State) (c : Counter) (n : Nat) : (s.count c n).feed = s.feed := rfl
@[simp] theorem State.count_bio (s : State) (c : Counter) (n : Nat) : (s.count c n).bio = s.bio := rfl
@[simp] theorem State.count_port (s : State) (c : Counter) (n : Nat) : (s.count c n).port = s.port := rfl
@[simp] theorem State.count_pending (s : State) (c : Counter) (n : Nat) : (s.count c n).pending = s.pending := rfl

@[simp] theorem State.nameLast_now (s b : State) : (s.nameLast b).now = s.now := by
  simp only [State.nameLast]; split <;> rfl
@[simp] theorem State.nameLast_held (s b : State) : (s.nameLast b).held = s.held := by
  simp only [State.nameLast]; split <;> rfl
@[simp] theorem State.nameLast_station (s b : State) : (s.nameLast b).station = s.station := by
  simp only [State.nameLast]; split <;> rfl
@[simp] theorem State.nameLast_meas (s b : State) : (s.nameLast b).meas = s.meas := by
  simp only [State.nameLast]; split <;> rfl
@[simp] theorem State.nameLast_demand (s b : State) : (s.nameLast b).demand = s.demand := by
  simp only [State.nameLast]; split <;> rfl
@[simp] theorem State.nameLast_claim (s b : State) : (s.nameLast b).claim = s.claim := by
  simp only [State.nameLast]; split <;> rfl
@[simp] theorem State.nameLast_peers (s b : State) : (s.nameLast b).peers = s.peers := by
  simp only [State.nameLast]; split <;> rfl
@[simp] theorem State.nameLast_line (s b : State) : (s.nameLast b).line = s.line := by
  simp only [State.nameLast]; split <;> rfl
@[simp] theorem State.nameLast_out (s b : State) : (s.nameLast b).out = s.out := by
  simp only [State.nameLast]; split <;> rfl
@[simp] theorem State.nameLast_feed (s b : State) : (s.nameLast b).feed = s.feed := by
  simp only [State.nameLast]; split <;> rfl
@[simp] theorem State.nameLast_bio (s b : State) : (s.nameLast b).bio = s.bio := by
  simp only [State.nameLast]; split <;> rfl
@[simp] theorem State.nameLast_port (s b : State) : (s.nameLast b).port = s.port := by
  simp only [State.nameLast]; split <;> rfl
@[simp] theorem State.nameLast_pending (s b : State) : (s.nameLast b).pending = s.pending := by
  simp only [State.nameLast]; split <;> rfl
@[simp] theorem State.nameLast_counters (s b : State) : (s.nameLast b).stats.counters = s.stats.counters := by
  simp only [State.nameLast]; split <;> rfl
@[simp] theorem State.nameLast_histogram (s b : State) : (s.nameLast b).stats.histogram = s.stats.histogram := by
  simp only [State.nameLast]; split <;> rfl
@[simp] theorem State.nameLast_flags (s b : State) : (s.nameLast b).stats.flags = s.stats.flags := by
  simp only [State.nameLast]; split <;> rfl
@[simp] theorem State.nameLast_mask (s b : State) : (s.nameLast b).stats.mask = s.stats.mask := by
  simp only [State.nameLast]; split <;> rfl
@[simp] theorem State.nameLast_alarms (s b : State) : (s.nameLast b).stats.alarms = s.stats.alarms := by
  simp only [State.nameLast]; split <;> rfl

@[simp] theorem State.engine_count (s : State) (c : Counter) (n : Nat) (p : Pool) :
    (s.count c n).engine p = s.engine p := by
  cases p <;> rfl
@[simp] theorem State.valve_count (s : State) (c : Counter) (n : Nat) (v : Valve) :
    (s.count c n).valve v = s.valve v := by
  cases v <;> rfl

@[simp] theorem State.recordWait_now (s : State) (q : Pool) (n : Nat) : (s.recordWait q n).now = s.now := rfl
@[simp] theorem State.recordWait_freeIx (s : State) (q : Pool) (n : Nat) : (s.recordWait q n).freeIx = s.freeIx := rfl
@[simp] theorem State.recordWait_held (s : State) (q : Pool) (n : Nat) : (s.recordWait q n).held = s.held := rfl
@[simp] theorem State.recordWait_station (s : State) (q : Pool) (n : Nat) :
    (s.recordWait q n).station = s.station := rfl
@[simp] theorem State.recordWait_meas (s : State) (q : Pool) (n : Nat) : (s.recordWait q n).meas = s.meas := rfl
@[simp] theorem State.recordWait_demand (s : State) (q : Pool) (n : Nat) : (s.recordWait q n).demand = s.demand := rfl
@[simp] theorem State.recordWait_claim (s : State) (q : Pool) (n : Nat) : (s.recordWait q n).claim = s.claim := rfl
@[simp] theorem State.recordWait_peers (s : State) (q : Pool) (n : Nat) : (s.recordWait q n).peers = s.peers := rfl
@[simp] theorem State.recordWait_line (s : State) (q : Pool) (n : Nat) : (s.recordWait q n).line = s.line := rfl
@[simp] theorem State.recordWait_out (s : State) (q : Pool) (n : Nat) : (s.recordWait q n).out = s.out := rfl
@[simp] theorem State.recordWait_feed (s : State) (q : Pool) (n : Nat) : (s.recordWait q n).feed = s.feed := rfl
@[simp] theorem State.recordWait_bio (s : State) (q : Pool) (n : Nat) : (s.recordWait q n).bio = s.bio := rfl
@[simp] theorem State.recordWait_port (s : State) (q : Pool) (n : Nat) : (s.recordWait q n).port = s.port := rfl
@[simp] theorem State.recordWait_pending (s : State) (q : Pool) (n : Nat) :
    (s.recordWait q n).pending = s.pending := rfl

@[simp] theorem State.engine_recordWait (s : State) (q : Pool) (n : Nat) (p : Pool) :
    (s.recordWait q n).engine p = s.engine p := by
  cases p <;> rfl
@[simp] theorem State.valve_recordWait (s : State) (q : Pool) (n : Nat) (v : Valve) :
    (s.recordWait q n).valve v = s.valve v := by
  cases v <;> rfl

@[simp] theorem State.occur_now (s : State) (k : AlarmKind) : (s.occur k).now = s.now := rfl
@[simp] theorem State.occur_freeIx (s : State) (k : AlarmKind) : (s.occur k).freeIx = s.freeIx := rfl
@[simp] theorem State.occur_held (s : State) (k : AlarmKind) : (s.occur k).held = s.held := rfl
@[simp] theorem State.occur_station (s : State) (k : AlarmKind) : (s.occur k).station = s.station := rfl
@[simp] theorem State.occur_meas (s : State) (k : AlarmKind) : (s.occur k).meas = s.meas := rfl
@[simp] theorem State.occur_demand (s : State) (k : AlarmKind) : (s.occur k).demand = s.demand := rfl
@[simp] theorem State.occur_claim (s : State) (k : AlarmKind) : (s.occur k).claim = s.claim := rfl
@[simp] theorem State.occur_peers (s : State) (k : AlarmKind) : (s.occur k).peers = s.peers := rfl
@[simp] theorem State.occur_line (s : State) (k : AlarmKind) : (s.occur k).line = s.line := rfl
@[simp] theorem State.occur_out (s : State) (k : AlarmKind) : (s.occur k).out = s.out := rfl
@[simp] theorem State.occur_feed (s : State) (k : AlarmKind) : (s.occur k).feed = s.feed := rfl
@[simp] theorem State.occur_bio (s : State) (k : AlarmKind) : (s.occur k).bio = s.bio := rfl
@[simp] theorem State.occur_port (s : State) (k : AlarmKind) : (s.occur k).port = s.port := rfl
@[simp] theorem State.occur_pending (s : State) (k : AlarmKind) : (s.occur k).pending = s.pending := rfl

@[simp] theorem State.engine_occur (s : State) (k : AlarmKind) (p : Pool) : (s.occur k).engine p = s.engine p := by
  cases p <;> rfl
@[simp] theorem State.valve_occur (s : State) (k : AlarmKind) (v : Valve) : (s.occur k).valve v = s.valve v := by
  cases v <;> rfl

@[simp] theorem State.calm_now (s : State) (k : AlarmKind) : (s.calm k).now = s.now := rfl
@[simp] theorem State.calm_freeIx (s : State) (k : AlarmKind) : (s.calm k).freeIx = s.freeIx := rfl
@[simp] theorem State.calm_held (s : State) (k : AlarmKind) : (s.calm k).held = s.held := rfl
@[simp] theorem State.calm_station (s : State) (k : AlarmKind) : (s.calm k).station = s.station := rfl
@[simp] theorem State.calm_meas (s : State) (k : AlarmKind) : (s.calm k).meas = s.meas := rfl
@[simp] theorem State.calm_demand (s : State) (k : AlarmKind) : (s.calm k).demand = s.demand := rfl
@[simp] theorem State.calm_claim (s : State) (k : AlarmKind) : (s.calm k).claim = s.claim := rfl
@[simp] theorem State.calm_peers (s : State) (k : AlarmKind) : (s.calm k).peers = s.peers := rfl
@[simp] theorem State.calm_line (s : State) (k : AlarmKind) : (s.calm k).line = s.line := rfl
@[simp] theorem State.calm_out (s : State) (k : AlarmKind) : (s.calm k).out = s.out := rfl
@[simp] theorem State.calm_feed (s : State) (k : AlarmKind) : (s.calm k).feed = s.feed := rfl
@[simp] theorem State.calm_bio (s : State) (k : AlarmKind) : (s.calm k).bio = s.bio := rfl
@[simp] theorem State.calm_port (s : State) (k : AlarmKind) : (s.calm k).port = s.port := rfl
@[simp] theorem State.calm_pending (s : State) (k : AlarmKind) : (s.calm k).pending = s.pending := rfl

@[simp] theorem State.engine_calm (s : State) (k : AlarmKind) (p : Pool) : (s.calm k).engine p = s.engine p := by
  cases p <;> rfl
@[simp] theorem State.valve_calm (s : State) (k : AlarmKind) (v : Valve) : (s.calm k).valve v = s.valve v := by
  cases v <;> rfl

@[simp] theorem State.driveLines_now (s : State)  : (s.driveLines).now = s.now := rfl
@[simp] theorem State.driveLines_freeIx (s : State)  : (s.driveLines).freeIx = s.freeIx := rfl
@[simp] theorem State.driveLines_held (s : State)  : (s.driveLines).held = s.held := rfl
@[simp] theorem State.driveLines_station (s : State)  : (s.driveLines).station = s.station := rfl
@[simp] theorem State.driveLines_meas (s : State)  : (s.driveLines).meas = s.meas := rfl
@[simp] theorem State.driveLines_demand (s : State)  : (s.driveLines).demand = s.demand := rfl
@[simp] theorem State.driveLines_claim (s : State)  : (s.driveLines).claim = s.claim := rfl
@[simp] theorem State.driveLines_peers (s : State)  : (s.driveLines).peers = s.peers := rfl
@[simp] theorem State.driveLines_line (s : State)  : (s.driveLines).line = s.line := rfl
@[simp] theorem State.driveLines_feed (s : State)  : (s.driveLines).feed = s.feed := rfl
@[simp] theorem State.driveLines_bio (s : State)  : (s.driveLines).bio = s.bio := rfl
@[simp] theorem State.driveLines_stats (s : State)  : (s.driveLines).stats = s.stats := rfl
@[simp] theorem State.driveLines_pending (s : State)  : (s.driveLines).pending = s.pending := rfl

@[simp] theorem State.engine_driveLines (s : State)  (p : Pool) : (s.driveLines).engine p = s.engine p := by
  cases p <;> rfl
@[simp] theorem State.valve_driveLines (s : State)  (v : Valve) : (s.driveLines).valve v = s.valve v := by
  cases v <;> rfl

@[simp] theorem State.moveUp_now (s : State)  : (s.moveUp).now = s.now := rfl
@[simp] theorem State.moveUp_freeIx (s : State)  : (s.moveUp).freeIx = s.freeIx := rfl
@[simp] theorem State.moveUp_held (s : State)  : (s.moveUp).held = s.held := rfl
@[simp] theorem State.moveUp_station (s : State)  : (s.moveUp).station = s.station := rfl
@[simp] theorem State.moveUp_meas (s : State)  : (s.moveUp).meas = s.meas := rfl
@[simp] theorem State.moveUp_demand (s : State)  : (s.moveUp).demand = s.demand := rfl
@[simp] theorem State.moveUp_claim (s : State)  : (s.moveUp).claim = s.claim := rfl
@[simp] theorem State.moveUp_peers (s : State)  : (s.moveUp).peers = s.peers := rfl
@[simp] theorem State.moveUp_out (s : State)  : (s.moveUp).out = s.out := rfl
@[simp] theorem State.moveUp_feed (s : State)  : (s.moveUp).feed = s.feed := rfl
@[simp] theorem State.moveUp_bio (s : State)  : (s.moveUp).bio = s.bio := rfl
@[simp] theorem State.moveUp_stats (s : State)  : (s.moveUp).stats = s.stats := rfl
@[simp] theorem State.moveUp_port (s : State)  : (s.moveUp).port = s.port := rfl
@[simp] theorem State.moveUp_pending (s : State)  : (s.moveUp).pending = s.pending := rfl

@[simp] theorem State.engine_moveUp (s : State)  (p : Pool) : (s.moveUp).engine p = s.engine p := by cases p <;> rfl
@[simp] theorem State.valve_moveUp (s : State)  (v : Valve) : (s.moveUp).valve v = s.valve v := by cases v <;> rfl

@[simp] theorem State.respond_now (s : State) (b : List Byte) : (s.respond b).now = s.now := rfl
@[simp] theorem State.respond_freeIx (s : State) (b : List Byte) : (s.respond b).freeIx = s.freeIx := rfl
@[simp] theorem State.respond_held (s : State) (b : List Byte) : (s.respond b).held = s.held := rfl
@[simp] theorem State.respond_station (s : State) (b : List Byte) : (s.respond b).station = s.station := rfl
@[simp] theorem State.respond_meas (s : State) (b : List Byte) : (s.respond b).meas = s.meas := rfl
@[simp] theorem State.respond_demand (s : State) (b : List Byte) : (s.respond b).demand = s.demand := rfl
@[simp] theorem State.respond_claim (s : State) (b : List Byte) : (s.respond b).claim = s.claim := rfl
@[simp] theorem State.respond_peers (s : State) (b : List Byte) : (s.respond b).peers = s.peers := rfl
@[simp] theorem State.respond_line (s : State) (b : List Byte) : (s.respond b).line = s.line := rfl
@[simp] theorem State.respond_out (s : State) (b : List Byte) : (s.respond b).out = s.out := rfl
@[simp] theorem State.respond_feed (s : State) (b : List Byte) : (s.respond b).feed = s.feed := rfl
@[simp] theorem State.respond_bio (s : State) (b : List Byte) : (s.respond b).bio = s.bio := rfl
@[simp] theorem State.respond_stats (s : State) (b : List Byte) : (s.respond b).stats = s.stats := rfl
@[simp] theorem State.respond_pending (s : State) (b : List Byte) : (s.respond b).pending = s.pending := rfl

@[simp] theorem State.engine_respond (s : State) (b : List Byte) (p : Pool) :
    (s.respond b).engine p = s.engine p := by
  cases p <;> rfl
@[simp] theorem State.valve_respond (s : State) (b : List Byte) (v : Valve) : (s.respond b).valve v = s.valve v := by
  cases v <;> rfl

@[simp] theorem State.pump_now (s : State) (b : Bool) : (s.pump b).now = s.now := rfl
@[simp] theorem State.pump_freeIx (s : State) (b : Bool) : (s.pump b).freeIx = s.freeIx := rfl
@[simp] theorem State.pump_held (s : State) (b : Bool) : (s.pump b).held = s.held := rfl
@[simp] theorem State.pump_station (s : State) (b : Bool) : (s.pump b).station = s.station := rfl
@[simp] theorem State.pump_meas (s : State) (b : Bool) : (s.pump b).meas = s.meas := rfl
@[simp] theorem State.pump_demand (s : State) (b : Bool) : (s.pump b).demand = s.demand := rfl
@[simp] theorem State.pump_claim (s : State) (b : Bool) : (s.pump b).claim = s.claim := rfl
@[simp] theorem State.pump_peers (s : State) (b : Bool) : (s.pump b).peers = s.peers := rfl
@[simp] theorem State.pump_line (s : State) (b : Bool) : (s.pump b).line = s.line := rfl
@[simp] theorem State.pump_feed (s : State) (b : Bool) : (s.pump b).feed = s.feed := rfl
@[simp] theorem State.pump_bio (s : State) (b : Bool) : (s.pump b).bio = s.bio := rfl
@[simp] theorem State.pump_stats (s : State) (b : Bool) : (s.pump b).stats = s.stats := rfl
@[simp] theorem State.pump_port (s : State) (b : Bool) : (s.pump b).port = s.port := rfl
@[simp] theorem State.pump_pending (s : State) (b : Bool) : (s.pump b).pending = s.pending := rfl

@[simp] theorem State.engine_pump (s : State) (b : Bool) (p : Pool) : (s.pump b).engine p = s.engine p := by
  cases p <;> rfl
@[simp] theorem State.valve_pump (s : State) (b : Bool) (v : Valve) : (s.pump b).valve v = s.valve v := by
  cases v <;> rfl

@[simp] theorem State.startNoFlow_now (s : State) (w : Valve) : (s.startNoFlow w).now = s.now := by cases w <;> rfl
@[simp] theorem State.startNoFlow_freeIx (s : State) (w : Valve) : (s.startNoFlow w).freeIx = s.freeIx := by
  cases w <;> rfl
@[simp] theorem State.startNoFlow_held (s : State) (w : Valve) : (s.startNoFlow w).held = s.held := by cases w <;> rfl
@[simp] theorem State.startNoFlow_station (s : State) (w : Valve) : (s.startNoFlow w).station = s.station := by
  cases w <;> rfl
@[simp] theorem State.startNoFlow_meas (s : State) (w : Valve) : (s.startNoFlow w).meas = s.meas := by cases w <;> rfl
@[simp] theorem State.startNoFlow_demand (s : State) (w : Valve) : (s.startNoFlow w).demand = s.demand := by
  cases w <;> rfl
@[simp] theorem State.startNoFlow_claim (s : State) (w : Valve) : (s.startNoFlow w).claim = s.claim := by
  cases w <;> rfl
@[simp] theorem State.startNoFlow_peers (s : State) (w : Valve) : (s.startNoFlow w).peers = s.peers := by
  cases w <;> rfl
@[simp] theorem State.startNoFlow_line (s : State) (w : Valve) : (s.startNoFlow w).line = s.line := by cases w <;> rfl
@[simp] theorem State.startNoFlow_out (s : State) (w : Valve) : (s.startNoFlow w).out = s.out := by cases w <;> rfl
@[simp] theorem State.startNoFlow_bio (s : State) (w : Valve) : (s.startNoFlow w).bio = s.bio := by cases w <;> rfl
@[simp] theorem State.startNoFlow_stats (s : State) (w : Valve) : (s.startNoFlow w).stats = s.stats := by
  cases w <;> rfl
@[simp] theorem State.startNoFlow_port (s : State) (w : Valve) : (s.startNoFlow w).port = s.port := by cases w <;> rfl
@[simp] theorem State.startNoFlow_pending (s : State) (w : Valve) : (s.startNoFlow w).pending = s.pending := by
  cases w <;> rfl

@[simp] theorem State.engine_startNoFlow (s : State) (w : Valve) (p : Pool) :
    (s.startNoFlow w).engine p = s.engine p := by
  cases w <;> cases p <;> rfl
@[simp] theorem State.valve_startNoFlow (s : State) (w : Valve) (v : Valve) :
    (s.startNoFlow w).valve v = s.valve v := by
  cases w <;> cases v <;> rfl

@[simp] theorem State.endNoFlow_now (s : State) (w : Valve) : (s.endNoFlow w).now = s.now := by cases w <;> rfl
@[simp] theorem State.endNoFlow_freeIx (s : State) (w : Valve) : (s.endNoFlow w).freeIx = s.freeIx := by
  cases w <;> rfl
@[simp] theorem State.endNoFlow_held (s : State) (w : Valve) : (s.endNoFlow w).held = s.held := by cases w <;> rfl
@[simp] theorem State.endNoFlow_station (s : State) (w : Valve) : (s.endNoFlow w).station = s.station := by
  cases w <;> rfl
@[simp] theorem State.endNoFlow_meas (s : State) (w : Valve) : (s.endNoFlow w).meas = s.meas := by cases w <;> rfl
@[simp] theorem State.endNoFlow_demand (s : State) (w : Valve) : (s.endNoFlow w).demand = s.demand := by
  cases w <;> rfl
@[simp] theorem State.endNoFlow_claim (s : State) (w : Valve) : (s.endNoFlow w).claim = s.claim := by cases w <;> rfl
@[simp] theorem State.endNoFlow_peers (s : State) (w : Valve) : (s.endNoFlow w).peers = s.peers := by cases w <;> rfl
@[simp] theorem State.endNoFlow_line (s : State) (w : Valve) : (s.endNoFlow w).line = s.line := by cases w <;> rfl
@[simp] theorem State.endNoFlow_out (s : State) (w : Valve) : (s.endNoFlow w).out = s.out := by cases w <;> rfl
@[simp] theorem State.endNoFlow_bio (s : State) (w : Valve) : (s.endNoFlow w).bio = s.bio := by cases w <;> rfl
@[simp] theorem State.endNoFlow_stats (s : State) (w : Valve) : (s.endNoFlow w).stats = s.stats := by cases w <;> rfl
@[simp] theorem State.endNoFlow_port (s : State) (w : Valve) : (s.endNoFlow w).port = s.port := by cases w <;> rfl
@[simp] theorem State.endNoFlow_pending (s : State) (w : Valve) : (s.endNoFlow w).pending = s.pending := by
  cases w <;> rfl

@[simp] theorem State.engine_endNoFlow (s : State) (w : Valve) (p : Pool) :
    (s.endNoFlow w).engine p = s.engine p := by
  cases w <;> cases p <;> rfl
@[simp] theorem State.valve_endNoFlow (s : State) (w : Valve) (v : Valve) : (s.endNoFlow w).valve v = s.valve v := by
  cases w <;> cases v <;> rfl

@[simp] theorem State.recomputeCaps_now (s : State)  : (s.recomputeCaps).now = s.now := rfl
@[simp] theorem State.recomputeCaps_freeIx (s : State)  : (s.recomputeCaps).freeIx = s.freeIx := rfl
@[simp] theorem State.recomputeCaps_held (s : State)  : (s.recomputeCaps).held = s.held := rfl
@[simp] theorem State.recomputeCaps_station (s : State)  : (s.recomputeCaps).station = s.station := rfl
@[simp] theorem State.recomputeCaps_meas (s : State)  : (s.recomputeCaps).meas = s.meas := rfl
@[simp] theorem State.recomputeCaps_demand (s : State)  : (s.recomputeCaps).demand = s.demand := rfl
@[simp] theorem State.recomputeCaps_peers (s : State)  : (s.recomputeCaps).peers = s.peers := rfl
@[simp] theorem State.recomputeCaps_line (s : State)  : (s.recomputeCaps).line = s.line := rfl
@[simp] theorem State.recomputeCaps_out (s : State)  : (s.recomputeCaps).out = s.out := rfl
@[simp] theorem State.recomputeCaps_feed (s : State)  : (s.recomputeCaps).feed = s.feed := rfl
@[simp] theorem State.recomputeCaps_bio (s : State)  : (s.recomputeCaps).bio = s.bio := rfl
@[simp] theorem State.recomputeCaps_stats (s : State)  : (s.recomputeCaps).stats = s.stats := rfl
@[simp] theorem State.recomputeCaps_port (s : State)  : (s.recomputeCaps).port = s.port := rfl
@[simp] theorem State.recomputeCaps_pending (s : State)  : (s.recomputeCaps).pending = s.pending := rfl

@[simp] theorem State.valve_recomputeCaps (s : State)  (v : Valve) : (s.recomputeCaps).valve v = s.valve v := by
  cases v <;> rfl

@[simp] theorem State.dequeue_now (s : State)  : (s.dequeue).now = s.now := rfl
@[simp] theorem State.dequeue_freeIx (s : State)  : (s.dequeue).freeIx = s.freeIx := rfl
@[simp] theorem State.dequeue_held (s : State)  : (s.dequeue).held = s.held := rfl
@[simp] theorem State.dequeue_station (s : State)  : (s.dequeue).station = s.station := rfl
@[simp] theorem State.dequeue_meas (s : State)  : (s.dequeue).meas = s.meas := rfl
@[simp] theorem State.dequeue_demand (s : State)  : (s.dequeue).demand = s.demand := rfl
@[simp] theorem State.dequeue_claim (s : State)  : (s.dequeue).claim = s.claim := rfl
@[simp] theorem State.dequeue_peers (s : State)  : (s.dequeue).peers = s.peers := rfl
@[simp] theorem State.dequeue_out (s : State)  : (s.dequeue).out = s.out := rfl
@[simp] theorem State.dequeue_feed (s : State)  : (s.dequeue).feed = s.feed := rfl
@[simp] theorem State.dequeue_bio (s : State)  : (s.dequeue).bio = s.bio := rfl
@[simp] theorem State.dequeue_stats (s : State)  : (s.dequeue).stats = s.stats := rfl
@[simp] theorem State.dequeue_port (s : State)  : (s.dequeue).port = s.port := rfl
@[simp] theorem State.dequeue_pending (s : State)  : (s.dequeue).pending = s.pending := rfl

@[simp] theorem State.engine_dequeue (s : State)  (p : Pool) : (s.dequeue).engine p = s.engine p := by cases p <;> rfl
@[simp] theorem State.valve_dequeue (s : State)  (v : Valve) : (s.dequeue).valve v = s.valve v := by cases v <;> rfl

@[simp] theorem State.raise_flags (s : State) (e : Event) :
    (s.raise e).stats.flags = s.stats.flags ||| BitVec.twoPow 32 e.bit := rfl
@[simp] theorem State.raise_alarms (s : State) (e : Event) : (s.raise e).stats.alarms = s.stats.alarms := rfl
@[simp] theorem State.raise_counters (s : State) (e : Event) : (s.raise e).stats.counters = s.stats.counters := rfl
@[simp] theorem State.raise_histogram (s : State) (e : Event) : (s.raise e).stats.histogram = s.stats.histogram := rfl
@[simp] theorem State.raise_mask (s : State) (e : Event) : (s.raise e).stats.mask = s.stats.mask := rfl
@[simp] theorem State.raise_lastCounter (s : State) (e : Event) :
    (s.raise e).stats.lastCounter = s.stats.lastCounter := rfl
@[simp] theorem State.occur_flags (s : State) (k : AlarmKind) : (s.occur k).stats.flags = s.stats.flags := rfl
@[simp] theorem State.occur_counters (s : State) (k : AlarmKind) : (s.occur k).stats.counters = s.stats.counters := rfl
@[simp] theorem State.occur_histogram (s : State) (k : AlarmKind) :
    (s.occur k).stats.histogram = s.stats.histogram := rfl
@[simp] theorem State.occur_mask (s : State) (k : AlarmKind) : (s.occur k).stats.mask = s.stats.mask := rfl
@[simp] theorem State.occur_alarms (s : State) (k : AlarmKind) :
    (s.occur k).stats.alarms = latchAlarm s.stats.alarms k := rfl
@[simp] theorem State.calm_flags (s : State) (k : AlarmKind) : (s.calm k).stats.flags = s.stats.flags := rfl
@[simp] theorem State.calm_counters (s : State) (k : AlarmKind) : (s.calm k).stats.counters = s.stats.counters := rfl
@[simp] theorem State.calm_histogram (s : State) (k : AlarmKind) : (s.calm k).stats.histogram = s.stats.histogram := rfl
@[simp] theorem State.calm_mask (s : State) (k : AlarmKind) : (s.calm k).stats.mask = s.stats.mask := rfl
@[simp] theorem State.calm_alarms (s : State) (k : AlarmKind) :
    (s.calm k).stats.alarms = calmAlarm s.stats.alarms k := rfl
@[simp] theorem State.driveLines_blowdown (s : State) : s.driveLines.out.blowdown = s.out.blowdown := rfl
@[simp] theorem State.driveLines_makeup (s : State) : s.driveLines.out.makeup = s.out.makeup := rfl
@[simp] theorem State.driveLines_biocidePump (s : State) : s.driveLines.out.biocidePump = s.out.biocidePump := rfl
@[simp] theorem State.driveLines_inhibitorPulse (s : State) :
    s.driveLines.out.inhibitorPulse = s.out.inhibitorPulse := rfl
@[simp] theorem State.driveLines_relay (s : State) : s.driveLines.out.relay = s.relayLevel := rfl
@[simp] theorem State.driveLines_attention (s : State) : s.driveLines.port.attention = s.attentionLevel := rfl
@[simp] theorem State.driveLines_mailbox (s : State) : s.driveLines.port.mailbox = s.port.mailbox := rfl
@[simp] theorem State.driveLines_response (s : State) : s.driveLines.port.response = s.port.response := rfl
@[simp] theorem State.driveLines_clearedBy (s : State) : s.driveLines.port.clearedBy = s.port.clearedBy := rfl

end Sys2Proof.Machine
end

