-- ==== Sys2Proof/Laws/Frame.lean ====
section
/-! SUPPORT. What the operations inside an event leave as it was: the time, a standing reset cause, station control, the
measurement unit, the peer table and the queue. One lemma per operation, cited in place of unfolding it. -/

namespace Sys2Proof.Machine
open Sys2Proof

/-- The second state agrees with the first on everything the claim engine, the demand unit, the sequencer, the transmit
path and the lists of statistics never touch. -/
abbrev Steady (s t : State) : Prop :=
  t.now = s.now ∧ t.held = s.held ∧ t.station = s.station ∧ t.meas = s.meas ∧ t.peers = s.peers ∧
  t.pending = s.pending

@[simp] theorem State.askFromRest_steady (s : State) (p : Pool) : Steady s (s.askFromRest p) := by
  simp only [State.askFromRest]; (repeat' split) <;> simp [Steady]
@[simp] theorem State.arriveRest_steady (s : State) (p : Pool) : Steady s (s.arriveRest p) := by
  simp only [State.arriveRest]; simp [Steady]
@[simp] theorem State.closedNotice_steady (s : State) (v : Valve) : Steady s (s.closedNotice v) := by
  simp only [State.closedNotice]; (repeat' split) <;> simp [Steady]
@[simp] theorem State.stuckAlarms_steady (s : State) (p : Pool) : Steady s (s.stuckAlarms p) := by
  simp only [State.stuckAlarms]; (repeat' split) <;> simp [Steady]
@[simp] theorem State.enterStuck_steady (s : State) (p : Pool) (e : Engine) : Steady s (s.enterStuck p e) := by
  simp only [State.enterStuck]; simp [Steady]
@[simp] theorem State.closeFailedNotice_steady (s : State) (v : Valve) : Steady s (s.closeFailedNotice v) := by
  simp only [State.closeFailedNotice]; (repeat' split) <;> simp [Steady]
@[simp] theorem State.unbiddenOpenNotice_steady (s : State) (v : Valve) : Steady s (s.unbiddenOpenNotice v) := by
  simp only [State.unbiddenOpenNotice]; (repeat' split) <;> simp [Steady]
@[simp] theorem State.closeCommand_steady (s : State) (v : Valve) : Steady s (s.closeCommand v) := by
  simp only [State.closeCommand]; (repeat' split) <;> simp [Steady]
@[simp] theorem State.openCommand_steady (s : State) (v : Valve) : Steady s (s.openCommand v) := by
  simp only [State.openCommand]; (repeat' split) <;> simp [Steady]
@[simp] theorem State.release_steady (s : State) (v : Valve) (a b c : Bool) : Steady s (s.release v a b c) := by
  simp only [State.release]; simp [Steady]
@[simp] theorem State.openFailedNotice_steady (s : State) (v : Valve) : Steady s (s.openFailedNotice v) := by
  simp only [State.openFailedNotice]; (repeat' split) <;> simp [Steady]
@[simp] theorem State.giveUpWaiting_steady (s : State) (p : Pool) : Steady s (s.giveUpWaiting p) := by
  simp only [State.giveUpWaiting]; simp [Steady]
@[simp] theorem State.needRises_steady (s : State) (p : Pool) : Steady s (s.needRises p) := by
  simp only [State.needRises]; (repeat' split) <;> simp [Steady]
@[simp] theorem State.needFalls_steady (s : State) (p : Pool) : Steady s (s.needFalls p) := by
  simp only [State.needFalls]; (repeat' split) <;> simp [Steady]
@[simp] theorem State.needNotice_steady (s : State) (p : Pool) (b : Bool) (n : Nat) :
    Steady s (s.needNotice p b n) := by
  simp only [State.needNotice]; (repeat' split) <;> simp [Steady]
@[simp] theorem State.recomputeDischarge_steady (s : State) : Steady s s.recomputeDischarge := by
  simp only [State.recomputeDischarge]; (repeat' split) <;> simp [Steady]
@[simp] theorem State.recomputeSupply_steady (s : State) : Steady s s.recomputeSupply := by
  simp only [State.recomputeSupply]; (repeat' split) <;> simp [Steady]
@[simp] theorem State.recomputeBiocide_steady (s : State) : Steady s s.recomputeBiocide := by
  simp only [State.recomputeBiocide]; simp [Steady]
@[simp] theorem State.request_steady (s : State) (a b : Bool) : Steady s (s.request a b) := by
  simp only [State.request]; simp [Steady]
@[simp] theorem State.placeFrame_steady (s : State) (f : TxFrame) : Steady s (s.placeFrame f) := by
  simp only [State.placeFrame]; (repeat' split) <;> simp [Steady]
@[simp] theorem State.composeReport_steady (s : State) : Steady s s.composeReport := by
  simp only [State.composeReport]; (repeat' split) <;> simp [Steady]
@[simp] theorem State.composeReports_steady (s : State) (n : Nat) : Steady s (s.composeReports n) := by
  induction n generalizing s with
  | zero => simp [State.composeReports, Steady]
  | succ n ih =>
    obtain ⟨h1, h2, h3, h4, h5, h6⟩ := ih s.composeReport
    simp only [State.composeReports, Steady, h1, h2, h3, h4, h5, h6]
    simp
@[simp] theorem State.cycleNotice_steady (s : State) : Steady s s.cycleNotice := by
  simp only [State.cycleNotice]; simp [Steady]
@[simp] theorem State.biocideToRest_steady (s : State) : Steady s s.biocideToRest := by
  simp only [State.biocideToRest]; simp [Steady]
@[simp] theorem State.releaseBiocide_steady (s : State) : Steady s s.releaseBiocide := by
  simp only [State.releaseBiocide]; (repeat' split) <;> simp [Steady]
@[simp] theorem State.abortCycle_steady (s : State) : Steady s s.abortCycle := by
  simp only [State.abortCycle]; (repeat' split) <;> simp [Steady]
@[simp] theorem State.abortIfRunning_steady (s : State) : Steady s s.abortIfRunning := by
  simp only [State.abortIfRunning]; (repeat' split) <;> simp [Steady]
@[simp] theorem State.forcedRelease_steady (s : State) (p : Pool) : Steady s (s.forcedRelease p) := by
  simp only [State.forcedRelease]; (repeat' split) <;> simp [Steady]
@[simp] theorem State.releaseAll_steady (s : State) : Steady s s.releaseAll := by
  simp only [State.releaseAll]; simp [Steady]
@[simp] theorem State.enterDue_steady (s : State) : Steady s s.enterDue := by
  simp only [State.enterDue]; simp [Steady]
@[simp] theorem State.enterClosing_steady (s : State) : Steady s s.enterClosing := by
  simp only [State.enterClosing]; (repeat' split) <;> simp [Steady]
@[simp] theorem State.startPrebleed_steady (s : State) : Steady s s.startPrebleed := by
  simp only [State.startPrebleed]; simp [Steady]
@[simp] theorem State.enterPrebleed_steady (s : State) : Steady s s.enterPrebleed := by
  simp only [State.enterPrebleed]; (repeat' split) <;> simp [Steady]
@[simp] theorem State.holdingNotice_steady (s : State) : Steady s s.holdingNotice := by
  simp only [State.holdingNotice]; (repeat' split) <;> simp [Steady]
@[simp] theorem State.prebleedTest_steady (s : State) : Steady s s.prebleedTest := by
  simp only [State.prebleedTest]; (repeat' split) <;> simp [Steady]
@[simp] theorem State.enterDosing_steady (s : State) : Steady s s.enterDosing := by
  simp only [State.enterDosing]; simp [Steady]
@[simp] theorem State.closingTest_steady (s : State) : Steady s s.closingTest := by
  simp only [State.closingTest]; (repeat' split) <;> simp [Steady]
@[simp] theorem State.endDose_steady (s : State) : Steady s s.endDose := by
  simp only [State.endDose]; simp [Steady]
@[simp] theorem State.endContact_steady (s : State) : Steady s s.endContact := by
  simp only [State.endContact]; (repeat' split) <;> simp [Steady]
@[simp] theorem State.withdraw_steady (s : State) (p : Pool) : Steady s (s.withdraw p) := by
  simp only [State.withdraw]; simp [Steady]
@[simp] theorem State.yieldPool_steady (s : State) (p : Pool) : Steady s (s.yieldPool p) := by
  simp only [State.yieldPool]; (repeat' split) <;> simp [Steady]
@[simp] theorem State.evaluateAsking_steady (s : State) (p : Pool) : Steady s (s.evaluateAsking p) := by
  simp only [State.evaluateAsking]; (repeat' split) <;> simp [Steady]
@[simp] theorem State.evaluate_steady (s : State) (p : Pool) : Steady s (s.evaluate p) := by
  simp only [State.evaluate]; (repeat' split) <;> simp [Steady]
@[simp] theorem State.evaluateAll_steady (s : State) : Steady s s.evaluateAll := by
  simp only [State.evaluateAll]; (repeat' split) <;> simp [Steady]
@[simp] theorem State.grant_steady (s : State) (p : Pool) : Steady s (s.grant p) := by
  simp only [State.grant]; (repeat' split) <;> simp [Steady]
@[simp] theorem State.confirmExpires_steady (s : State) (p : Pool) : Steady s (s.confirmExpires p) := by
  simp only [State.confirmExpires]; (repeat' split) <;> simp [Steady]
@[simp] theorem State.askExpires_steady (s : State) (p : Pool) : Steady s (s.askExpires p) := by
  simp only [State.askExpires]; simp [Steady]
@[simp] theorem State.evaluateIfAsking_steady (s : State) (p : Pool) : Steady s (s.evaluateIfAsking p) := by
  simp only [State.evaluateIfAsking]; (repeat' split) <;> simp [Steady]
@[simp] theorem State.periodicNotice_steady (s : State) : Steady s s.periodicNotice := by
  simp only [State.periodicNotice]; simp [Steady]
@[simp] theorem State.calmValveFault_steady (s : State) (b : State) : Steady s (s.calmValveFault b) := by
  simp only [State.calmValveFault]; (repeat' split) <;> simp [Steady]
@[simp] theorem State.finish_steady (b s : State) : Steady s (State.finish b s) := by
  simp only [State.finish]; (repeat' split) <;> simp [Steady]

/-! ## The claim engine and the valves -/

/-- What the claim engine's and the output unit's operations leave besides: demand, line, sequencer, port, the free
values, the pumps and the relay. -/
abbrev ClaimOnly (s t : State) : Prop :=
  t.demand = s.demand ∧ t.line = s.line ∧ t.bio = s.bio ∧ t.port = s.port ∧ t.freeIx = s.freeIx ∧
  t.out.biocidePump = s.out.biocidePump ∧ t.out.inhibitorPulse = s.out.inhibitorPulse ∧ t.out.relay = s.out.relay

@[simp] theorem State.askFromRest_claimOnly (s : State) (p : Pool) : ClaimOnly s (s.askFromRest p) := by
  simp only [State.askFromRest]; (repeat' split) <;> simp [ClaimOnly]
@[simp] theorem State.arriveRest_claimOnly (s : State) (p : Pool) : ClaimOnly s (s.arriveRest p) := by
  simp only [State.arriveRest]; simp [ClaimOnly]
@[simp] theorem State.closedNotice_claimOnly (s : State) (v : Valve) : ClaimOnly s (s.closedNotice v) := by
  simp only [State.closedNotice]; (repeat' split) <;> simp [ClaimOnly]
@[simp] theorem State.closeCommand_claimOnly (s : State) (v : Valve) : ClaimOnly s (s.closeCommand v) := by
  simp only [State.closeCommand]; (repeat' split) <;> simp [ClaimOnly]
@[simp] theorem State.openCommand_claimOnly (s : State) (v : Valve) : ClaimOnly s (s.openCommand v) := by
  simp only [State.openCommand]; (repeat' split) <;> simp [ClaimOnly]
@[simp] theorem State.release_claimOnly (s : State) (v : Valve) (a b c : Bool) : ClaimOnly s (s.release v a b c) := by
  simp only [State.release]; simp [ClaimOnly]
@[simp] theorem State.openFailedNotice_claimOnly (s : State) (v : Valve) : ClaimOnly s (s.openFailedNotice v) := by
  simp only [State.openFailedNotice]; (repeat' split) <;> simp [ClaimOnly]
@[simp] theorem State.giveUpWaiting_claimOnly (s : State) (p : Pool) : ClaimOnly s (s.giveUpWaiting p) := by
  simp only [State.giveUpWaiting]; simp [ClaimOnly]
@[simp] theorem State.needRises_claimOnly (s : State) (p : Pool) : ClaimOnly s (s.needRises p) := by
  simp only [State.needRises]; (repeat' split) <;> simp [ClaimOnly]
@[simp] theorem State.needFalls_claimOnly (s : State) (p : Pool) : ClaimOnly s (s.needFalls p) := by
  simp only [State.needFalls]; (repeat' split) <;> simp [ClaimOnly]
@[simp] theorem State.needNotice_claimOnly (s : State) (p : Pool) (b : Bool) (n : Nat) :
    ClaimOnly s (s.needNotice p b n) := by
  simp only [State.needNotice]; (repeat' split) <;> simp [ClaimOnly]
@[simp] theorem State.withdraw_claimOnly (s : State) (p : Pool) : ClaimOnly s (s.withdraw p) := by
  simp only [State.withdraw]; simp [ClaimOnly]
@[simp] theorem State.biocideToRest_claimOnly (s : State) : ClaimOnly s s.biocideToRest := by
  simp only [State.biocideToRest]; simp [ClaimOnly]
@[simp] theorem State.releaseBiocide_claimOnly (s : State) : ClaimOnly s s.releaseBiocide := by
  simp only [State.releaseBiocide]; (repeat' split) <;> simp [ClaimOnly]

/-- What an entry to STUCK leaves besides: demand, line, sequencer, port, outputs and feed. The free values may advance, for
the order of two alarms (log 9). -/
abbrev StuckOnly (s t : State) : Prop :=
  t.demand = s.demand ∧ t.line = s.line ∧ t.bio = s.bio ∧ t.port = s.port ∧ t.out = s.out ∧ t.feed = s.feed

@[simp] theorem State.stuckAlarms_stuckOnly (s : State) (p : Pool) : StuckOnly s (s.stuckAlarms p) := by
  simp only [State.stuckAlarms]; (repeat' split) <;> simp [StuckOnly]
@[simp] theorem State.stuckAlarms_claim (s : State) (p : Pool) : (s.stuckAlarms p).claim = s.claim := by
  simp only [State.stuckAlarms]; (repeat' split) <;> simp
@[simp] theorem State.stuckAlarms_engine (s : State) (p q : Pool) : (s.stuckAlarms p).engine q = s.engine q := by
  cases q <;> simp [State.engine]
@[simp] theorem State.stuckAlarms_valve (s : State) (p : Pool) (w : Valve) :
    (s.stuckAlarms p).valve w = s.valve w := by
  cases w <;> simp [State.valve]
@[simp] theorem State.enterStuck_stuckOnly (s : State) (p : Pool) (e : Engine) : StuckOnly s (s.enterStuck p e) := by
  simp only [State.enterStuck]; simp [StuckOnly]
@[simp] theorem State.closeFailedNotice_stuckOnly (s : State) (v : Valve) : StuckOnly s (s.closeFailedNotice v) := by
  simp only [State.closeFailedNotice]; (repeat' split) <;> simp [StuckOnly]
@[simp] theorem State.unbiddenOpenNotice_stuckOnly (s : State) (v : Valve) :
    StuckOnly s (s.unbiddenOpenNotice v) := by
  simp only [State.unbiddenOpenNotice]; (repeat' split) <;> simp [StuckOnly]

/-! ## The other pools and the other valve -/

theorem Pool.valve_pool {p : Pool} {v : Valve} (h : p.valve = some v) : v.pool = p := by
  cases p <;> simp_all [Pool.valve] <;> subst h <;> rfl

theorem State.askFromRest_engine_ne (s : State) {p : Pool} {q : Pool} (h : q ≠ p) :
    (s.askFromRest p).engine q = s.engine q := by
  simp only [State.askFromRest]; (repeat' split) <;> simp [State.engine_setEngine_ne, h]
theorem State.arriveRest_engine_ne (s : State) {p : Pool} {q : Pool} (h : q ≠ p) :
    (s.arriveRest p).engine q = s.engine q := by
  simp only [State.arriveRest]; simp [State.engine_setEngine_ne, State.askFromRest_engine_ne, h]
theorem State.enterStuck_engine_ne (s : State) {p : Pool} (e : Engine) {q : Pool} (h : q ≠ p) :
    (s.enterStuck p e).engine q = s.engine q := by
  simp only [State.enterStuck]; simp [State.engine_setEngine_ne, h]
theorem State.giveUpWaiting_engine_ne (s : State) {p : Pool} {q : Pool} (h : q ≠ p) :
    (s.giveUpWaiting p).engine q = s.engine q := by
  simp only [State.giveUpWaiting]; simp [State.engine_setEngine_ne, State.arriveRest_engine_ne, h]
theorem State.needRises_engine_ne (s : State) {p : Pool} {q : Pool} (h : q ≠ p) :
    (s.needRises p).engine q = s.engine q := by
  simp only [State.needRises]; (repeat' split) <;> simp [State.engine_setEngine_ne, State.askFromRest_engine_ne, h]
theorem State.withdraw_engine_ne (s : State) {p : Pool} {q : Pool} (h : q ≠ p) :
    (s.withdraw p).engine q = s.engine q := by
  simp only [State.withdraw]; simp [State.engine_setEngine_ne, h]
theorem State.closedNotice_engine_ne (s : State) {v : Valve} {q : Pool} (h : q ≠ v.pool) :
    (s.closedNotice v).engine q = s.engine q := by
  simp only [State.closedNotice]; (repeat' split) <;> simp [State.engine_setEngine_ne, State.arriveRest_engine_ne, h]
theorem State.closeFailedNotice_engine_ne (s : State) {v : Valve} {q : Pool} (h : q ≠ v.pool) :
    (s.closeFailedNotice v).engine q = s.engine q := by
  simp only [State.closeFailedNotice]; (repeat' split) <;> simp [State.enterStuck_engine_ne, h]
theorem State.unbiddenOpenNotice_engine_ne (s : State) {v : Valve} {q : Pool} (h : q ≠ v.pool) :
    (s.unbiddenOpenNotice v).engine q = s.engine q := by
  simp only [State.unbiddenOpenNotice]; (repeat' split) <;> simp [State.enterStuck_engine_ne, h]
theorem State.closeCommand_engine_ne (s : State) {v : Valve} {q : Pool} (h : q ≠ v.pool) :
    (s.closeCommand v).engine q = s.engine q := by
  simp only [State.closeCommand]; (repeat' split) <;> simp [State.closedNotice_engine_ne, h]
@[simp] theorem State.openCommand_engine (s : State) (v : Valve) (q : Pool) :
    (s.openCommand v).engine q = s.engine q := by
  simp only [State.openCommand]; (repeat' split) <;> simp
theorem State.release_engine_ne (s : State) {v : Valve} (a b c : Bool) {q : Pool} (h : q ≠ v.pool) :
    (s.release v a b c).engine q = s.engine q := by
  simp only [State.release]; simp [State.engine_setEngine_ne, State.closeCommand_engine_ne, h]
theorem State.openFailedNotice_engine_ne (s : State) {v : Valve} {q : Pool} (h : q ≠ v.pool) :
    (s.openFailedNotice v).engine q = s.engine q := by
  simp only [State.openFailedNotice]; (repeat' split) <;> simp [State.release_engine_ne, h]
theorem State.needFalls_engine_ne (s : State) {p q : Pool} (h : q ≠ p) : (s.needFalls p).engine q = s.engine q := by
  simp only [State.needFalls]
  (repeat' split) <;> try simp [State.engine_setEngine_ne, State.giveUpWaiting_engine_ne, h]
  next v hv _ => exact State.release_engine_ne s _ _ _ (by rw [Pool.valve_pool hv]; exact h)
theorem State.needNotice_engine_ne (s : State) {p : Pool} (b : Bool) (n : Nat) {q : Pool} (h : q ≠ p) :
    (s.needNotice p b n).engine q = s.engine q := by
  simp only [State.needNotice]; (repeat' split) <;>
    simp [State.engine_setEngine_ne, State.needRises_engine_ne, State.needFalls_engine_ne, h]
@[simp] theorem State.askFromRest_valve (s : State) (p : Pool) (w : Valve) :
    (s.askFromRest p).valve w = s.valve w := by
  simp only [State.askFromRest]; (repeat' split) <;> simp
@[simp] theorem State.arriveRest_valve (s : State) (p : Pool) (w : Valve) : (s.arriveRest p).valve w = s.valve w := by
  simp only [State.arriveRest]; simp
@[simp] theorem State.enterStuck_valve (s : State) (p : Pool) (e : Engine) (w : Valve) :
    (s.enterStuck p e).valve w = s.valve w := by
  simp only [State.enterStuck]; simp
@[simp] theorem State.giveUpWaiting_valve (s : State) (p : Pool) (w : Valve) :
    (s.giveUpWaiting p).valve w = s.valve w := by
  simp only [State.giveUpWaiting]; simp
@[simp] theorem State.needRises_valve (s : State) (p : Pool) (w : Valve) : (s.needRises p).valve w = s.valve w := by
  simp only [State.needRises]; (repeat' split) <;> simp
@[simp] theorem State.withdraw_valve (s : State) (p : Pool) (w : Valve) : (s.withdraw p).valve w = s.valve w := by
  simp only [State.withdraw]; simp
@[simp] theorem State.closedNotice_valve (s : State) (v w : Valve) : (s.closedNotice v).valve w = s.valve w := by
  simp only [State.closedNotice]; (repeat' split) <;> simp
@[simp] theorem State.closeFailedNotice_valve (s : State) (v w : Valve) :
    (s.closeFailedNotice v).valve w = s.valve w := by
  simp only [State.closeFailedNotice]; (repeat' split) <;> simp
@[simp] theorem State.unbiddenOpenNotice_valve (s : State) (v w : Valve) :
    (s.unbiddenOpenNotice v).valve w = s.valve w := by
  simp only [State.unbiddenOpenNotice]; (repeat' split) <;> simp
theorem State.closeCommand_valve_ne (s : State) {v w : Valve} (h : w ≠ v) :
    (s.closeCommand v).valve w = s.valve w := by
  simp only [State.closeCommand]; (repeat' split) <;> simp [State.valve_setValve_ne, h]
theorem State.openCommand_valve_ne (s : State) {v w : Valve} (h : w ≠ v) :
    (s.openCommand v).valve w = s.valve w := by
  simp only [State.openCommand]; (repeat' split) <;> simp [State.valve_setValve_ne, h]
theorem State.release_valve_ne (s : State) {v w : Valve} (a b c : Bool) (h : w ≠ v) :
    (s.release v a b c).valve w = s.valve w := by
  simp only [State.release]; simp [State.closeCommand_valve_ne, h]
theorem State.openFailedNotice_valve_ne (s : State) {v w : Valve} (h : w ≠ v) :
    (s.openFailedNotice v).valve w = s.valve w := by
  simp only [State.openFailedNotice]; (repeat' split) <;> simp [State.release_valve_ne, h]
theorem State.needFalls_valve_ne (s : State) {p : Pool} {w : Valve} (h : w.pool ≠ p) :
    (s.needFalls p).valve w = s.valve w := by
  simp only [State.needFalls]
  (repeat' split) <;> try simp
  next v hv _ =>
    exact State.release_valve_ne s _ _ _ (fun e => h (by rw [e]; exact Pool.valve_pool hv))
theorem State.needNotice_valve_ne (s : State) {p : Pool} {w : Valve} (b : Bool) (n : Nat) (h : w.pool ≠ p) :
    (s.needNotice p b n).valve w = s.valve w := by
  simp only [State.needNotice]; (repeat' split) <;> simp [State.needFalls_valve_ne, h]

end Sys2Proof.Machine
end

