-- ==== Sys2Proof/Laws/Events.lean ====
section
/-! SUPPORT. What an event is: it answers a next state always, changes nothing where it cannot occur, ends with its two
lines driven, and ends with nothing more than that where its body changes no engine state, cycle state or alarm summary. -/

namespace Sys2Proof.Machine
open Sys2Proof

theorem event_of_due {due : Bool} {body : State → State} {s : State} (hh : s.held = none) (hd : due = true) :
    event due body s = .next (State.finish s (body s)) := by
  simp [event, hh, hd]

theorem event_of_not_due {body : State → State} {s : State} : event false body s = .next s := by simp [event]

theorem event_of_held {due : Bool} {body : State → State} {s : State} (hh : s.held ≠ none) :
    event due body s = .next s := by
  cases h : s.held
  · exact absurd h hh
  · simp [event, h]

theorem quietEvent_of_due {due : Bool} {body : State → State} {s : State} (hh : s.held = none) (hd : due = true) :
    quietEvent due body s = .next ((body s).nameLast s).driveLines := by
  simp [quietEvent, hh, hd]

theorem quietEvent_of_held {due : Bool} {body : State → State} {s : State} (hh : s.held ≠ none) :
    quietEvent due body s = .next s := by
  cases h : s.held
  · exact absurd h hh
  · simp [quietEvent, h]

/-- An event answers a next state: the same state, or its finished body. -/
theorem event_next (due : Bool) (body : State → State) (s : State) :
    event due body s = .next s ∨
      s.held = none ∧ due = true ∧ event due body s = .next (State.finish s (body s)) := by
  cases hh : s.held <;> cases due <;> simp [event, hh]

theorem quietEvent_next (due : Bool) (body : State → State) (s : State) :
    quietEvent due body s = .next s ∨
      s.held = none ∧ due = true ∧ quietEvent due body s = .next ((body s).nameLast s).driveLines := by
  cases hh : s.held <;> cases due <;> simp [quietEvent, hh]

/-! ## The two lines -/

@[simp] theorem State.relayLevel_driveLines (s : State) : s.driveLines.relayLevel = s.relayLevel := rfl
@[simp] theorem State.attentionLevel_driveLines (s : State) : s.driveLines.attentionLevel = s.attentionLevel := rfl

theorem linesFollow_driveLines (s : State) : LinesFollow s.driveLines := ⟨rfl, rfl⟩

theorem linesFollow_finish (b s : State) : LinesFollow (State.finish b s) := linesFollow_driveLines _

theorem driveLines_of_linesFollow {s : State} (h : LinesFollow s) : s.driveLines = s := by
  obtain ⟨h1, h2⟩ := h
  simp only [State.driveLines, ← h1, ← h2]

/-! ## The last counter field (R173) -/

/-- Naming the last counter changes that field alone, and uses up a free value where it does. -/
theorem State.nameLast_eq (s b : State) : s.nameLast b =
    { s with freeIx := (s.nameLast b).freeIx, stats := { s.stats with lastCounter := (s.nameLast b).stats.lastCounter } } := by
  simp only [State.nameLast]; split <;> rfl

/-- Where no two groups of counters crossed, nothing is chosen. -/
theorem State.nameLast_of_one {s b : State} (h : (b.stats.lastCrossings s.stats).length < 2) : s.nameLast b = s := by
  simp [State.nameLast, h]

/-- A choice names a counter that crossed. -/
theorem State.nameLast_lastCounter (s b : State) :
    (s.nameLast b).stats.lastCounter = s.stats.lastCounter ∨
      ∃ c ∈ b.stats.lastCrossings s.stats, (s.nameLast b).stats.lastCounter = c.number := by
  simp only [State.nameLast]
  split
  · exact .inl rfl
  · next h =>
    right
    have hl : 0 < (b.stats.lastCrossings s.stats).length := by omega
    have hi := Nat.mod_lt (Config.lastCrossing s.freeIx) hl
    exact ⟨_, List.getElem_mem hi, by simp [List.getD_eq_getElem?_getD, hi]⟩

/-- A counter among the last crossings crossed. -/
theorem Stats.crossed_of_mem_lastCrossings {t u : Stats} {c : Counter} (h : c ∈ t.lastCrossings u) :
    t.crossed u c = true := by
  obtain ⟨g, _, hg⟩ := List.mem_filterMap.mp h
  exact (List.mem_filter.mp (List.mem_of_getLast? hg)).2

/-- A group whose counters kept their values gives no crossing. -/
theorem Stats.not_crossed_of_eq {t u : Stats} {c : Counter} (h : u.counter c = t.counter c) : t.crossed u c = false := by
  simp [Stats.crossed, crosses, h]

/-- At most one element of a list without repetition gives something: at most one thing is given. -/
theorem length_filterMap_lt_two {α β : Type} {f : α → Option β} {l : List α} {g : α} (hd : l.Nodup)
    (h : ∀ k ∈ l, k ≠ g → f k = none) : (l.filterMap f).length < 2 := by
  induction l with
  | nil => simp
  | cons k l ih =>
    have hl := fun x hx => h x (List.mem_cons_of_mem k hx)
    obtain ⟨hk, hd⟩ := List.nodup_cons.mp hd
    by_cases hg : k = g
    · have hz : l.filterMap f = [] := by
        rw [List.filterMap_eq_nil_iff]
        intro x hx
        exact hl x hx (fun e => hk (by rw [hg, ← e]; exact hx))
      rw [List.filterMap_cons]
      split <;> simp [hz]
    · rw [List.filterMap_cons_none (h k (by simp) hg)]
      exact ih hd hl

/-- Where only the counters of one group changed, nothing is chosen. -/
theorem State.nameLast_of_group {s b : State} (g : List Counter)
    (h : ∀ k ∈ Counter.groups, k ≠ g → ∀ c ∈ k, s.stats.counter c = b.stats.counter c) : s.nameLast b = s := by
  refine State.nameLast_of_one (length_filterMap_lt_two (g := g) (by decide) ?_)
  intro k hk hne
  rw [Stats.lastOf, List.getLast?_eq_none_iff, List.filter_eq_nil_iff]
  intro c hc
  simp [Stats.not_crossed_of_eq (h k hk hne c hc)]

/-- Where no counter changed, nothing is chosen. -/
theorem State.nameLast_of_same {s b : State} (h : s.stats.counters = b.stats.counters) : s.nameLast b = s :=
  State.nameLast_of_group [] (fun _ _ _ c _ => by simp [Stats.counter, Stats.counterAt, h])

/-! ## An event that compares equal -/

/-- Nothing is composed, tested, told or named where the compared parts are as they were and no two groups of counters
crossed. -/
theorem finish_of_unchanged {b s : State} (he : ∀ p, engineDiffers b s p = false) (hc : s.bio.cycle = b.bio.cycle)
    (ha : alarmSummaryDiffers b s = false) (hv : b.valveFault = true → s.valveFault = true)
    (hl : s.nameLast b = s) : State.finish b s = s.driveLines := by
  have hd : (b.engine .discharge).state = (s.engine .discharge).state := by
    simpa [engineDiffers] using he .discharge
  have h1 : closingTestDue b s = false := by simp [closingTestDue, hc, hd]
  have h2 : s.calmValveFault b = s := by
    simp only [State.calmValveFault]
    cases hb : b.valveFault <;> simp_all
  have h3 : reportTriggers b s = 0 := by simp [reportTriggers, he, ha, hc]
  simp [State.finish, h1, h2, h3, State.composeReports, hl]

@[simp] theorem engineDiffers_self (s : State) (p : Pool) : engineDiffers s s p = false := by simp [engineDiffers]
@[simp] theorem alarmSummaryDiffers_self (s : State) : alarmSummaryDiffers s s = false := by simp [alarmSummaryDiffers]

/-- A body that leaves engines, sequencer, alarm list, channels and feed marks as they are ends with the lines alone. -/
theorem finish_of_same {b s : State} (hcl : s.claim = b.claim) (hb : s.bio = b.bio)
    (hal : s.stats.alarms = b.stats.alarms) (hm : s.meas = b.meas) (hf1 : s.feed.mismatch = b.feed.mismatch)
    (hf2 : s.feed.backlog = b.feed.backlog) (hl : s.nameLast b = s) : State.finish b s = s.driveLines := by
  refine finish_of_unchanged ?_ ?_ ?_ ?_ hl
  · intro p; cases p <;> simp [engineDiffers, State.engine, hcl]
  · rw [hb]
  · simp [alarmSummaryDiffers, State.alarmCondition, State.faultSummary, State.valveFault, hcl, hal, hm, hf1, hf2]
  · simp [State.valveFault, hcl]

/-! ## What each command does, said of `exec` -/

theorem exec_coldReset (cause : ResetCause) (straps : BitVec 5) (s : State) : exec (.coldReset cause straps) s =
    .next (s.coldReset cause straps).driveLines := rfl
theorem exec_configAttempt (answer : MemoryAnswer) (i : StartInputs) (s : State) : exec (.configAttempt answer i) s =
    quietEvent s.attempt.isSome (fun s => s.attemptEnds (s.attempt.getD 0) answer i) s := rfl
theorem exec_configRetryDelay (s : State) : exec .configRetryDelay s = event s.retryOver State.nextAttempt s := rfl
theorem exec_scan (k : Codes) (s : State) : exec (.scan k) s =
    event s.scanDue (fun s => ((s.takeScan k).scanDemand).prebleedTest) s := rfl
theorem exec_holdTimerExpiry (c : Chan) (s : State) : exec (.holdTimerExpiry c) s =
    event (s.meas.channel c).holdOver (fun s => s.probeFails c) s := rfl
theorem exec_hhTimerExpiry (s : State) : exec .hhTimerExpiry s =
    event (reached Config.alarmDelay s.demand.hhTimer && !s.demand.hhCondition) State.hhExpires s := rfl
theorem exec_llTimerExpiry (s : State) : exec .llTimerExpiry s =
    event (reached Config.alarmDelay s.demand.llTimer && !s.demand.llCondition) State.llExpires s := rfl
theorem exec_askWindowExpiry (p : Pool) (s : State) : exec (.askWindowExpiry p) s =
    event (s.engine p).askOver (fun s => s.askExpires p) s := rfl
theorem exec_confirmPeriodExpiry (p : Pool) (s : State) : exec (.confirmPeriodExpiry p) s =
    event (s.engine p).confirmOver (fun s => s.confirmExpires p) s := rfl
theorem exec_ageingStep (p : Pool) (s : State) : exec (.ageingStep p) s =
    event (s.engine p).ageingDue (fun s => s.setEngine p (s.engine p).aged) s := rfl
theorem exec_minimumRunEnd (p : Pool) (s : State) : exec (.minimumRunEnd p) s =
    event (p.valve.isSome && s.minimumRunEnds p) (fun s => s.deferredRelease p) s := rfl
theorem exec_maxRunExpiry (p : Pool) (s : State) : exec (.maxRunExpiry p) s =
    event (p.valve.isSome && s.maxRunOver p) (fun s => s.maxRunRelease p) s := rfl
theorem exec_reportProcessed (straps : BitVec 5) (s : State) : exec (.reportProcessed straps) s =
    event (s.headIs .report) (fun s => s.takeFrame straps State.takeReport) s := rfl
theorem exec_leavingProcessed (straps : BitVec 5) (s : State) : exec (.leavingProcessed straps) s =
    event (s.headIs .leaving) (fun s => s.takeFrame straps State.takeLeaving) s := rfl
theorem exec_peerStale (n : Nat) (s : State) : exec (.peerStale n) s =
    event (s.staleDue n) (fun s => ((s.makeStale n).raise .peerStale).tableNotice) s := rfl
theorem exec_peerDropped (n : Nat) (s : State) : exec (.peerDropped n) s =
    event (s.dropDue n) (fun s => s.deletePeer n) s := rfl
theorem exec_frameEnd (r : Reception) (s : State) : exec (.frameEnd r) s =
    event s.receives (fun s => s.receivesFrom r) s := rfl
theorem exec_reportTimer (s : State) : exec .reportTimer s =
    event (reached Config.reportPeriod s.line.reportTimer) State.reportFires s := rfl
theorem exec_attemptStart (quietMicros : Nat) (s : State) : exec (.attemptStart quietMicros) s =
    event (s.mayStart quietMicros) State.startAttempt s := rfl
theorem exec_echoMismatch (a : AttemptEnd) (s : State) : exec (.echoMismatch a) s =
    event (s.line.echoes a.readBack .mismatch)
      (fun s => match s.line.onLine with | some o => s.attemptMisses o a.straps | none => s) s := rfl
theorem exec_delivery (a : AttemptEnd) (s : State) : exec (.delivery a) s =
    event (s.line.echoes a.readBack .delivered)
      (fun s => match s.line.onLine with | some o => s.attemptDelivers o a.straps | none => s) s := rfl
theorem exec_deliveryTimerExpiry (s : State) : exec .deliveryTimerExpiry s =
    event (s.station.state.isolable && reached Config.failsafe s.line.deliveryTimer) State.enterIsolated s := rfl
theorem exec_listenTimerExpiry (s : State) : exec .listenTimerExpiry s =
    event (s.station.state == .listen && ranOut s.station.listen) State.enterRun s := rfl
theorem exec_feedbackSettled (v : Valve) (i : Held ValvePos) (s : State) : exec (.feedbackSettled v i) s =
    event (s.feedbackChanges v i) (fun s => s.feedbackSettles v i.level) s := rfl
theorem exec_openCheckExpiry (k : OpenCheckEnd) (s : State) : exec (.openCheckExpiry k) s =
    event (s.checkOver k.valve .openCheck) (fun s => s.openFails k.valve k.openHeldFor) s := rfl
theorem exec_closeCheckExpiry (v : Valve) (s : State) : exec (.closeCheckExpiry v) s =
    event (s.checkOver v .closeCheck) (fun s => s.closeCheckEnds v) s := rfl
theorem exec_strokePulseEnd (s : State) : exec .strokePulseEnd s =
    event (reached Config.strokePulse s.out.inhibitorPulse) State.endPulse s := rfl
theorem exec_meterSettled (m : Meter) (i : Held Bool) (s : State) : exec (.meterSettled m i) s =
    event (s.meterChanges m i) (fun s => s.meterSettles m i.level) s := rfl
theorem exec_slotBoundary (s : State) : exec .slotBoundary s =
    event (reached Config.slotSpan s.feed.slotClock) State.slotTurns s := rfl
theorem exec_noFlowHoldTime (s : State) : exec .noFlowHoldTime s = event s.noFlowDue State.firstNoFlowTest s := rfl
theorem exec_strokeClockExpiry (s : State) : exec .strokeClockExpiry s =
    event s.strokeClockOver State.strokeIntervalPasses s := rfl
theorem exec_intervalTimerExpiry (s : State) : exec .intervalTimerExpiry s =
    event s.intervalOver State.enterDue s := rfl
theorem exec_prebleedShort (s : State) : exec .prebleedShort s =
    event (s.phaseOver .prebleed) State.prebleedRunsOut s := rfl
theorem exec_doseTimeExpiry (s : State) : exec .doseTimeExpiry s = event (s.phaseOver .dosing) State.endDose s := rfl
theorem exec_contactTimeExpiry (s : State) : exec .contactTimeExpiry s =
    event (s.phaseOver .contact) State.endContact s := rfl
theorem exec_readStation (s : State) : exec .readStation s = .next (s.readRecord 1 0) := rfl
theorem exec_readMeasure (s : State) : exec .readMeasure s = .next (s.readRecord 2 0) := rfl
theorem exec_readPool (p : Pool) (s : State) : exec (.readPool p) s = .next (s.readRecord 3 p.index) := rfl
theorem exec_readPeer (index : Byte) (s : State) : exec (.readPeer index) s =
    .next (s.readRecord 4 index.toNat) := rfl
theorem exec_readCounter (index : Byte) (s : State) : exec (.readCounter index) s =
    .next (s.readRecord 5 index.toNat) := rfl
theorem exec_readHistogram (s : State) : exec .readHistogram s = .next (s.readRecord 6 0) := rfl
theorem exec_readEvents (s : State) : exec .readEvents s = .next (s.readRecord 7 0) := rfl
theorem exec_readBalance (s : State) : exec .readBalance s = .next (s.readRecord 8 0) := rfl
theorem exec_readBiocide (s : State) : exec .readBiocide s = .next (s.readRecord 9 0) := rfl
theorem exec_readConfig (s : State) : exec .readConfig s = .next (s.readRecord 10 0) := rfl
theorem exec_readResetCause (s : State) : exec .readResetCause s = .next (s.readRecord 11 0) := rfl
theorem exec_outOfRange (record index : Byte) (s : State) : exec (.outOfRange record index) s =
    .next (s.readRecord record.toNat index.toNat) := rfl
theorem exec_unknownTransaction (firstByte : Byte) (s : State) : exec (.unknownTransaction firstByte) s =
    .next (s.respond []) := rfl
theorem exec_readMailbox (s : State) : exec .readMailbox s =
    .next (s.respond (if s.held.isSome then [] else s.port.mailbox.bytes)) := rfl
theorem exec_postCommand (code : Byte) (argument : Word32) (s : State) : exec (.postCommand code argument) s =
    event true (fun s => (s.respond []).arrive code argument) s := rfl
theorem exec_acknowledge (s : State) : exec .acknowledge s =
    event (s.awaits .acknowledge) (fun s => s.takeCommand false State.acknowledge) s := rfl
theorem exec_biocideNow (s : State) : exec .biocideNow s =
    event (s.awaits .biocideNow) (fun s => s.takeCommand s.biocideNowRefused State.enterDue) s := rfl
theorem exec_hold (s : State) : exec .hold s =
    event (s.awaits .hold) (fun s => s.takeCommand s.holdRefused State.takeHold) s := rfl
theorem exec_resume (s : State) : exec .resume s =
    event (s.awaits .resume) (fun s => s.takeCommand (s.station.state != .hold) State.enterListen) s := rfl
theorem exec_clearCounters (s : State) : exec .clearCounters s =
    event (s.awaits .clearCounters) State.takeClear s := rfl
theorem exec_setMask (s : State) : exec .setMask s =
    event (s.awaits .setMask) (fun s => s.takeCommand false State.setMask) s := rfl
theorem exec_lineRestart (s : State) : exec .lineRestart s =
    event (s.awaits .lineRestart) (fun s => s.takeCommand (s.station.state == .start) State.lineRestart) s := rfl
theorem exec_restart (straps : BitVec 5) (s : State) : exec (.restart straps) s =
    event (s.awaits .restart) (fun s => s.restartCommand straps) s := rfl
theorem exec_heldInReset (cause : ResetCause) (s : State) : exec (.heldInReset cause) s =
    .next (s.holdInReset cause).driveLines := rfl

/-! ## No command stops the machine -/

theorem event_answers (due : Bool) (body : State → State) (s : State) : ∃ t, event due body s = .next t := by
  rcases event_next due body s with h | ⟨_, _, h⟩ <;> exact ⟨_, h⟩

theorem quietEvent_answers (due : Bool) (body : State → State) (s : State) :
    ∃ t, quietEvent due body s = .next t := by
  rcases quietEvent_next due body s with h | ⟨_, _, h⟩ <;> exact ⟨_, h⟩

/-- Every command in every state answers a next state. -/
theorem exec_next (c : Instr) (s : State) : ∃ t, exec c s = .next t := by
  cases c with
  | coldReset _ _ => exact ⟨_, exec_coldReset _ _ s⟩
  | configAttempt _ _ => rw [exec_configAttempt]; exact quietEvent_answers _ _ _
  | configRetryDelay => rw [exec_configRetryDelay]; exact event_answers _ _ _
  | scan _ => rw [exec_scan]; exact event_answers _ _ _
  | holdTimerExpiry _ => rw [exec_holdTimerExpiry]; exact event_answers _ _ _
  | hhTimerExpiry => rw [exec_hhTimerExpiry]; exact event_answers _ _ _
  | llTimerExpiry => rw [exec_llTimerExpiry]; exact event_answers _ _ _
  | askWindowExpiry _ => rw [exec_askWindowExpiry]; exact event_answers _ _ _
  | confirmPeriodExpiry _ => rw [exec_confirmPeriodExpiry]; exact event_answers _ _ _
  | ageingStep _ => rw [exec_ageingStep]; exact event_answers _ _ _
  | minimumRunEnd _ => rw [exec_minimumRunEnd]; exact event_answers _ _ _
  | maxRunExpiry _ => rw [exec_maxRunExpiry]; exact event_answers _ _ _
  | reportProcessed _ => rw [exec_reportProcessed]; exact event_answers _ _ _
  | leavingProcessed _ => rw [exec_leavingProcessed]; exact event_answers _ _ _
  | peerStale _ => rw [exec_peerStale]; exact event_answers _ _ _
  | peerDropped _ => rw [exec_peerDropped]; exact event_answers _ _ _
  | frameEnd _ => rw [exec_frameEnd]; exact event_answers _ _ _
  | reportTimer => rw [exec_reportTimer]; exact event_answers _ _ _
  | attemptStart _ => rw [exec_attemptStart]; exact event_answers _ _ _
  | echoMismatch _ => rw [exec_echoMismatch]; exact event_answers _ _ _
  | delivery _ => rw [exec_delivery]; exact event_answers _ _ _
  | deliveryTimerExpiry => rw [exec_deliveryTimerExpiry]; exact event_answers _ _ _
  | listenTimerExpiry => rw [exec_listenTimerExpiry]; exact event_answers _ _ _
  | feedbackSettled _ _ => rw [exec_feedbackSettled]; exact event_answers _ _ _
  | openCheckExpiry _ => rw [exec_openCheckExpiry]; exact event_answers _ _ _
  | closeCheckExpiry _ => rw [exec_closeCheckExpiry]; exact event_answers _ _ _
  | strokePulseEnd => rw [exec_strokePulseEnd]; exact event_answers _ _ _
  | meterSettled _ _ => rw [exec_meterSettled]; exact event_answers _ _ _
  | slotBoundary => rw [exec_slotBoundary]; exact event_answers _ _ _
  | noFlowHoldTime => rw [exec_noFlowHoldTime]; exact event_answers _ _ _
  | strokeClockExpiry => rw [exec_strokeClockExpiry]; exact event_answers _ _ _
  | intervalTimerExpiry => rw [exec_intervalTimerExpiry]; exact event_answers _ _ _
  | prebleedShort => rw [exec_prebleedShort]; exact event_answers _ _ _
  | doseTimeExpiry => rw [exec_doseTimeExpiry]; exact event_answers _ _ _
  | contactTimeExpiry => rw [exec_contactTimeExpiry]; exact event_answers _ _ _
  | readStation => exact ⟨_, exec_readStation s⟩
  | readMeasure => exact ⟨_, exec_readMeasure s⟩
  | readPool _ => exact ⟨_, exec_readPool _ s⟩
  | readPeer _ => exact ⟨_, exec_readPeer _ s⟩
  | readCounter _ => exact ⟨_, exec_readCounter _ s⟩
  | readHistogram => exact ⟨_, exec_readHistogram s⟩
  | readEvents => exact ⟨_, exec_readEvents s⟩
  | readBalance => exact ⟨_, exec_readBalance s⟩
  | readBiocide => exact ⟨_, exec_readBiocide s⟩
  | readConfig => exact ⟨_, exec_readConfig s⟩
  | readResetCause => exact ⟨_, exec_readResetCause s⟩
  | outOfRange _ _ => exact ⟨_, exec_outOfRange _ _ s⟩
  | unknownTransaction _ => exact ⟨_, exec_unknownTransaction _ s⟩
  | readMailbox => exact ⟨_, exec_readMailbox s⟩
  | postCommand _ _ => rw [exec_postCommand]; exact event_answers _ _ _
  | acknowledge => rw [exec_acknowledge]; exact event_answers _ _ _
  | biocideNow => rw [exec_biocideNow]; exact event_answers _ _ _
  | hold => rw [exec_hold]; exact event_answers _ _ _
  | resume => rw [exec_resume]; exact event_answers _ _ _
  | clearCounters => rw [exec_clearCounters]; exact event_answers _ _ _
  | setMask => rw [exec_setMask]; exact event_answers _ _ _
  | lineRestart => rw [exec_lineRestart]; exact event_answers _ _ _
  | restart _ => rw [exec_restart]; exact event_answers _ _ _
  | heldInReset _ => exact ⟨_, exec_heldInReset _ s⟩

/-! ## The stroke clock (R127) -/

/-- No stroke is due while the clock runs or its expiry is still to be taken. -/
theorem State.strokeDue_of_unpassed {s : State} (hp : s.feed.strokePassed = false) (hc : s.feed.strokeClock ≠ none) :
    s.strokeDue = false := by
  cases h : s.feed.strokeClock
  · exact absurd h hc
  · simp [State.strokeDue, Feed.paced, h, hp]

/-- The clock's reaching of the interval gives a stroke where one is owed and the feed runs, and leaves its mark otherwise. -/
theorem State.strokeIntervalPasses_eq (s : State) : s.strokeIntervalPasses =
    if 0 < s.feed.owed ∧ s.station.state.feedRuns = true then
      { s with feed := { s.feed with strokePassed := true } }.stroke
    else { s with feed := { s.feed with strokePassed := true } } := by
  simp only [State.strokeIntervalPasses, State.strokeTest, State.strokeDue, Feed.paced, Bool.or_true, Bool.and_true,
    Bool.and_eq_true, decide_eq_true_eq]

end Sys2Proof.Machine
end

