-- ==== Sys2Proof/Laws/Line.lean ====
section
/-! SUPPORT. What the shared operations of the line can do: the echo check, the REPORTs of an event, what is received; the
transactions of the panel port and its wires, the I2C transaction of an attempt, and the two takings of CLEAR COUNTERS. -/

namespace Sys2Proof.Machine
open Sys2Proof

/-! ## The echo check (R94) -/

/-- A character of a byte is read as that byte, its stop bit high (R81). -/
@[simp] theorem rxChar_lineChar (b : Byte) : rxChar (lineChar b) = { byte := b, framingError := false } := by
  revert b
  decide +kernel

@[simp] theorem charEchoed_self (b : Byte) : charEchoed b (some (lineChar b)) = true := by
  simp [charEchoed]

theorem charEchoed_eq_true {b : Byte} {c : EchoChar} (h : charEchoed b c = true) :
    c.map rxChar = some { byte := b, framingError := false } := by
  cases c with
  | none => simp [charEchoed] at h
  | some x => simpa [charEchoed] using h

/-- Characters read back equal leave the check to the rest of the attempt. -/
theorem echoCheck_append (pre rest : List Byte) (back : List EchoChar) :
    echoCheck (pre ++ rest) (pre.map (fun x => some (lineChar x)) ++ back) = echoCheck rest back := by
  induction pre with
  | nil => rfl
  | cons b pre ih => simp [echoCheck, ih]

/-- An attempt with every character read back equal is delivered. -/
theorem echoCheck_delivered (bytes : List Byte) :
    echoCheck bytes (bytes.map (fun x => some (lineChar x))) = .delivered := by
  simpa [echoCheck] using echoCheck_append bytes [] []

/-- One with characters still to be sent, those sent read back equal, has come to no result. -/
theorem echoCheck_sending (pre post : List Byte) (b : Byte) :
    echoCheck (pre ++ b :: post) (pre.map (fun x => some (lineChar x))) = .sending := by
  simpa [echoCheck] using echoCheck_append pre (b :: post) []

/-- The first character that is not echoed makes a mismatch. -/
theorem echoCheck_mismatch (pre post : List Byte) {b : Byte} {c : EchoChar}
    (h : c.map rxChar ≠ some { byte := b, framingError := false }) :
    echoCheck (pre ++ b :: post) (pre.map (fun x => some (lineChar x)) ++ [c]) = .mismatch := by
  have hb : charEchoed b c = false := by
    cases hc : charEchoed b c
    · rfl
    · exact absurd (charEchoed_eq_true hc) h
  rw [echoCheck_append]
  simp [echoCheck, hb]

theorem Line.echoes_onLine {l : Line} {o : OnLine} (h : l.onLine = some o) (hs : o.sending = true) (back : List EchoChar)
    (r : EchoResult) : l.echoes back r = (echoCheck o.bytes back == r) := by
  simp [Line.echoes, h, hs]

/-! ## The REPORTs of an event (R90) -/

/-- `t` is `s` with another filling of the two slots and another count of reports superseded. -/
def SlotsOnly (s t : State) : Prop :=
  t = { s with line := { s.line with onLine := t.line.onLine, nextSlot := t.line.nextSlot },
               stats := { s.stats with counters := t.stats.counters, flags := t.stats.flags,
                                       lastCounter := t.stats.lastCounter } }

theorem SlotsOnly.refl (s : State) : SlotsOnly s s := rfl

theorem SlotsOnly.trans {s t u : State} (h : SlotsOnly s t) (k : SlotsOnly t u) : SlotsOnly s u := by
  unfold SlotsOnly at *
  rw [k, h]

theorem State.count_slotsOnly (s : State) (c : Counter) (n : Nat) : SlotsOnly s (s.count c n) := by
  simp only [SlotsOnly, State.count, Stats.count]
  (repeat' split) <;> rfl

theorem State.moveUp_slotsOnly (s : State) : SlotsOnly s s.moveUp := by
  simp only [SlotsOnly, State.moveUp, Line.moveUp]
  split <;> rfl

theorem State.placeFrame_slotsOnly (s : State) (f : TxFrame) : SlotsOnly s (s.placeFrame f) := by
  have h (u : State) : SlotsOnly u { u with line := { u.line with nextSlot := some f } } := rfl
  simp only [State.placeFrame]
  split
  · exact ((s.count_slotsOnly _ _).trans (h _)).trans (State.moveUp_slotsOnly _)
  · exact (h s).trans (State.moveUp_slotsOnly _)

theorem State.composeReport_slotsOnly (s : State) : SlotsOnly s s.composeReport := by
  simp only [State.composeReport]
  split
  · exact s.placeFrame_slotsOnly _
  · exact .refl s

/-- Composing touches the two slots and the count of reports superseded, and nothing else. -/
theorem State.composeReports_slotsOnly (s : State) (n : Nat) : SlotsOnly s (s.composeReports n) := by
  induction n generalizing s with
  | zero => exact .refl s
  | succ n ih => exact s.composeReport_slotsOnly.trans (ih _)

@[simp] theorem State.composeReports_zero (s : State) : s.composeReports 0 = s := rfl
@[simp] theorem State.composeReports_one (s : State) : s.composeReports 1 = s.composeReport := rfl
theorem State.composeReports_succ (s : State) (n : Nat) :
    s.composeReports (n + 1) = s.composeReport.composeReports n := rfl

/-- Where the station composes none, the triggers of an event leave nothing. -/
theorem State.composeReports_of_silent {s : State} (h : s.composes = false) (n : Nat) : s.composeReports n = s := by
  induction n with
  | zero => rfl
  | succ n ih => simp [State.composeReports_succ, State.composeReport, h, ih]

/-! ## Panel transactions (R183) -/

theorem transaction_of_command {s : State} {sent : List Byte} {c : Instr} (h : transactionCommand sent = some c) :
    s.transaction sent = { s with pending := s.pending ++ [c] } := by
  simp [State.transaction, h]

theorem transaction_of_early_end {s : State} {sent : List Byte} (h : transactionCommand sent = none) :
    s.transaction sent = s := by
  simp [State.transaction, h]

theorem shiftedOut_length (sent response : List Byte) : (shiftedOut sent response).length = sent.length := by
  simp only [shiftedOut, List.length_take, List.length_append, List.length_replicate]
  omega

/-! ## The panel port's wires (R183) -/

/-- The part samples each bit that a controller in mode 0 clocks. -/
theorem spiSampled_clocked (clock : Bool) (bits : List Bool) : spiSampled clock (spiClocked bits) = bits := by
  induction bits generalizing clock with
  | nil => rfl
  | cons x bits ih =>
    have h : spiClocked (x :: bits) =
        { clock := false, data := x } :: { clock := true, data := x } :: spiClocked bits := rfl
    rw [h]
    simp [spiSampled, ih]

/-- The eight bits of a byte, the most significant first, are that byte. -/
theorem spiBytes_append (b : Byte) (rest : List Bool) : spiBytes (spiBits b ++ rest) = b :: spiBytes rest := by
  have h : spiBits b = [b.getLsbD 7, b.getLsbD 6, b.getLsbD 5, b.getLsbD 4, b.getLsbD 3, b.getLsbD 2, b.getLsbD 1,
      b.getLsbD 0] := rfl
  have hb : BitVec.ofBoolListBE [b.getLsbD 7, b.getLsbD 6, b.getLsbD 5, b.getLsbD 4, b.getLsbD 3, b.getLsbD 2,
      b.getLsbD 1, b.getLsbD 0] = b := by
    revert b
    decide +kernel
  rw [h]
  exact congrArg (· :: spiBytes rest) hb

theorem spiBytes_of_short {cut : List Bool} (h : cut.length < 8) : spiBytes cut = [] := by
  match cut, h with
  | [], _ | [_], _ | [_, _], _ | [_, _, _], _ | [_, _, _, _], _ | [_, _, _, _, _], _ | [_, _, _, _, _, _], _
  | [_, _, _, _, _, _, _], _ => rfl

/-- Whole bytes and an incomplete one: the incomplete one is none. -/
theorem spiBytes_flatMap (sent : List Byte) {cut : List Bool} (h : cut.length < 8) :
    spiBytes (sent.flatMap spiBits ++ cut) = sent := by
  induction sent with
  | nil => exact spiBytes_of_short h
  | cons b sent ih => rw [List.flatMap_cons, List.append_assoc, spiBytes_append, ih]

/-- What a controller in mode 0 clocks, the most significant bit of a byte first, is what the part receives. -/
theorem spiReceived_clocked (sent : List Byte) {cut : List Bool} (h : cut.length < 8) :
    spiReceived (spiClocked (sent.flatMap spiBits ++ cut)) = sent := by
  rw [spiReceived, spiSampled_clocked, spiBytes_flatMap sent h]

/-- Bits followed by low ones, taken one by one. -/
theorem take_padded (o : List Bool) {n pad : Nat} (h : n + 1 ≤ pad) :
    (o ++ List.replicate pad false).take (n + 1) =
      o.headD false :: (o.tail ++ List.replicate pad false).take n := by
  cases o with
  | cons y o => rfl
  | nil =>
    obtain ⟨m, rfl⟩ : ∃ m, pad = m + 1 := ⟨pad - 1, by omega⟩
    simp only [List.nil_append, List.headD_nil, List.tail_nil, List.take_replicate]
    rw [Nat.min_eq_left (by omega), Nat.min_eq_left (by omega), List.replicate_succ]

/-- Such a controller reads the bits the part shifts out, one for each bit it sends, low when they have run out. -/
theorem spiRead_driven (bits out : List Bool) :
    spiRead (spiClocked bits) (spiDriven false out (spiClocked bits)) =
      (out ++ List.replicate bits.length false).take bits.length := by
  suffices h : ∀ (clock : Bool) (o : List Bool) (pad : Nat), bits.length ≤ pad →
      spiSampled clock (List.zipWith (fun l x => { l with data := x }) (spiClocked bits)
        (spiDriven clock o (spiClocked bits))) =
      ((if clock then o.tail else o) ++ List.replicate pad false).take bits.length from h false out _ (Nat.le_refl _)
  induction bits with
  | nil => intro clock o pad _; rfl
  | cons x bits ih =>
    intro clock o pad hp
    have hn : bits.length + 1 ≤ pad := hp
    have h : spiClocked (x :: bits) =
        { clock := false, data := x } :: { clock := true, data := x } :: spiClocked bits := rfl
    have ht (o : List Bool) := ih true o pad (by omega)
    simp only [if_true] at ht
    rw [h, List.length_cons, take_padded _ hn]
    cases clock <;> simp [spiDriven, spiSampled, ht]

/-! ## Receiving (R81) -/

/-- A character time is 10 / 19,200 s. -/
theorem le_charTimes_iff (n micros : Nat) : n ≤ charTimes micros ↔ n * 10000000 ≤ 19200 * micros := by
  simp only [charTimes, Config.lineRate, Config.charBits, Nat.le_div_iff_mul_le (show 0 < 1000000 * 10 by decide)]
  omega

/-- No more than 31 characters of a frame are kept. -/
theorem Line.receive_length (l : Line) (cs : List RxChar) : (l.receive cs).rxChars.length ≤ 31 := by
  simp only [Line.receive, List.length_take, Config.frameMax]
  omega

/-- While the receiver does not collect, characters are not kept. -/
theorem State.hears_of_not_collecting {s : State} (h : s.line.rxMode ≠ .collect) (cs : List RxChar) : s.hears cs = s := by
  simp only [State.hears]
  split <;> simp_all

/-- A quiet time below 2 character times ends no frame. -/
theorem State.receivesFrom_of_short {s : State} {r : Reception} (h : charTimes r.quietMicros < 2) :
    s.receivesFrom r = s.hears (r.chars.map rxChar) := by
  simp only [State.receivesFrom]
  rw [if_neg (by simpa [Config.frameEndQuiet] using h)]

/-- A frame end that closes characters: the next frame begins empty, and the frame is judged by its verdict. -/
theorem State.judgeFrame_of_cons {s : State} (h : s.line.rxChars ≠ []) : s.judgeFrame =
    match s.line.verdict with
    | .damaged => s.collectAnew.count .framesDamaged 1
    | .foreign => s.collectAnew.count .framesForeign 1
    | .good => s.collectAnew.queueFrame (s.line.rxChars.map RxChar.byte) := by
  unfold State.judgeFrame
  exact if_neg (by simpa using h)

/-! ## The serial memory (R159) -/

/-- Each byte read is acknowledged but the last. -/
theorem receiveActs_eq (l : List Byte) : receiveActs l =
    l.dropLast.map (fun b => .receive b true) ++ l.getLast?.toList.map (fun b => .receive b false) := by
  induction l with
  | nil => rfl
  | cons b l ih =>
    cases l with
    | nil => rfl
    | cons c l => simp [receiveActs, ih, List.getLast?_cons_cons]

theorem memoryAnswers_iff (m : MemoryAnswer) : memoryAnswers m = true ↔ Answers m := by
  simp [memoryAnswers, Answers, and_assoc]

/-- An attempt with an answer fails by R160's checks alone. -/
theorem attemptFault_of_answers {m : MemoryAnswer} (h : Answers m) : attemptFault m = imageFault m.bytes := by
  simp [attemptFault, (memoryAnswers_iff m).mpr h]

/-! ## CLEAR COUNTERS (R191) -/

theorem takeClear_first {s : State} (h : s.port.clearedBy = none)
    (hb : badArgument s.port.mailbox.code s.port.mailbox.argument = false) :
    s.takeClear = s.clearedFirst s.nextClearer := by
  simp [State.takeClear, h, hb]

theorem takeClear_last {s : State} (h : s.port.clearedBy.isSome = true) :
    s.takeClear = s.takeCommand false State.clearLast := by
  simp [State.takeClear, h]

end Sys2Proof.Machine
end

