-- ==== Sys2Proof/Laws/PerInstr.lean ====
section
/-! SUPPORT. Per command: no word spells it, since spec/opcode_table.json gives no row any bits (98_reader.md). -/

namespace Sys2Proof.Laws
open Sys2Proof

namespace NoWord

/-- No word of any length is read as this command. -/
def Statement (i : Instr) : Prop := ∀ nbits w : Nat, decodeTableWord nbits w ≠ some i

theorem coldReset (cause : ResetCause) (straps : BitVec 5) : Statement (.coldReset cause straps) := nofun
theorem configAttempt (answer : MemoryAnswer) (inputs : StartInputs) : Statement (.configAttempt answer inputs) := nofun
theorem configRetryDelay : Statement (.configRetryDelay) := nofun
theorem scan (codes : Codes) : Statement (.scan codes) := nofun
theorem holdTimerExpiry (channel : Chan) : Statement (.holdTimerExpiry channel) := nofun
theorem hhTimerExpiry : Statement (.hhTimerExpiry) := nofun
theorem llTimerExpiry : Statement (.llTimerExpiry) := nofun
theorem askWindowExpiry (pool : Pool) : Statement (.askWindowExpiry pool) := nofun
theorem confirmPeriodExpiry (pool : Pool) : Statement (.confirmPeriodExpiry pool) := nofun
theorem ageingStep (pool : Pool) : Statement (.ageingStep pool) := nofun
theorem minimumRunEnd (pool : Pool) : Statement (.minimumRunEnd pool) := nofun
theorem maxRunExpiry (pool : Pool) : Statement (.maxRunExpiry pool) := nofun
theorem reportProcessed (straps : BitVec 5) : Statement (.reportProcessed straps) := nofun
theorem leavingProcessed (straps : BitVec 5) : Statement (.leavingProcessed straps) := nofun
theorem peerStale (number : Nat) : Statement (.peerStale number) := nofun
theorem peerDropped (number : Nat) : Statement (.peerDropped number) := nofun
theorem frameEnd (r : Reception) : Statement (.frameEnd r) := nofun
theorem reportTimer : Statement (.reportTimer) := nofun
theorem attemptStart (quietChars : Nat) : Statement (.attemptStart quietChars) := nofun
theorem echoMismatch (attempt : AttemptEnd) : Statement (.echoMismatch attempt) := nofun
theorem delivery (attempt : AttemptEnd) : Statement (.delivery attempt) := nofun
theorem deliveryTimerExpiry : Statement (.deliveryTimerExpiry) := nofun
theorem listenTimerExpiry : Statement (.listenTimerExpiry) := nofun
theorem feedbackSettled (valve : Valve) (input : Held ValvePos) : Statement (.feedbackSettled valve input) := nofun
theorem openCheckExpiry (check : OpenCheckEnd) : Statement (.openCheckExpiry check) := nofun
theorem closeCheckExpiry (valve : Valve) : Statement (.closeCheckExpiry valve) := nofun
theorem strokePulseEnd : Statement (.strokePulseEnd) := nofun
theorem meterSettled (meter : Meter) (input : Held Bool) : Statement (.meterSettled meter input) := nofun
theorem slotBoundary : Statement (.slotBoundary) := nofun
theorem noFlowHoldTime : Statement (.noFlowHoldTime) := nofun
theorem strokeClockExpiry : Statement (.strokeClockExpiry) := nofun
theorem intervalTimerExpiry : Statement (.intervalTimerExpiry) := nofun
theorem prebleedShort : Statement (.prebleedShort) := nofun
theorem doseTimeExpiry : Statement (.doseTimeExpiry) := nofun
theorem contactTimeExpiry : Statement (.contactTimeExpiry) := nofun
theorem readStation : Statement (.readStation) := nofun
theorem readMeasure : Statement (.readMeasure) := nofun
theorem readPool (pool : Pool) : Statement (.readPool pool) := nofun
theorem readPeer (index : Byte) : Statement (.readPeer index) := nofun
theorem readCounter (index : Byte) : Statement (.readCounter index) := nofun
theorem readHistogram : Statement (.readHistogram) := nofun
theorem readEvents : Statement (.readEvents) := nofun
theorem readBalance : Statement (.readBalance) := nofun
theorem readBiocide : Statement (.readBiocide) := nofun
theorem readConfig : Statement (.readConfig) := nofun
theorem readResetCause : Statement (.readResetCause) := nofun
theorem outOfRange (record index : Byte) : Statement (.outOfRange record index) := nofun
theorem unknownTransaction (firstByte : Byte) : Statement (.unknownTransaction firstByte) := nofun
theorem readMailbox : Statement (.readMailbox) := nofun
theorem postCommand (code : Byte) (argument : Word32) : Statement (.postCommand code argument) := nofun
theorem acknowledge : Statement (.acknowledge) := nofun
theorem biocideNow : Statement (.biocideNow) := nofun
theorem hold : Statement (.hold) := nofun
theorem resume : Statement (.resume) := nofun
theorem clearCounters : Statement (.clearCounters) := nofun
theorem setMask : Statement (.setMask) := nofun
theorem lineRestart : Statement (.lineRestart) := nofun
theorem restart (straps : BitVec 5) : Statement (.restart straps) := nofun
theorem heldInReset (cause : ResetCause) : Statement (.heldInReset cause) := nofun

end NoWord

end Sys2Proof.Laws
end

