-- ==== Sys2Proof/Laws/Valves.lean ====
section
/-! SUPPORT. The engine and valve operations in closed form, in the words of Safety.lean: arrival in REST, the closed
notice, the two valve commands, a release, and a need notice. -/

namespace Sys2Proof.Machine
open Sys2Proof

theorem Engine.toRest_eq (e : Engine) : e.toRest = e.atRest := rfl

theorem Engine.toReleasing_letGo (e : Engine) (reask : Bool) : e.toReleasing reask false false = e.letGo reask := rfl

theorem Engine.toReleasing_yielded (e : Engine) : e.toReleasing true false true = e.yielded := rfl

theorem Engine.noAgeing_toAsking (e : Engine) (now : Nat) : e.noAgeing.toAsking now = e.justAsking now := rfl

@[simp] theorem Engine.atRest_state (e : Engine) : e.atRest.state = .rest := rfl
@[simp] theorem Engine.atRest_need (e : Engine) : e.atRest.need = e.need := rfl

@[simp] theorem State.inRun_setEngine (s : State) (p : Pool) (e : Engine) : (s.setEngine p e).inRun = s.inRun := by
  cases p <;> rfl
@[simp] theorem State.inRun_setValve (s : State) (v : Valve) (r : ValveRec) : (s.setValve v r).inRun = s.inRun := by
  cases v <;> rfl

/-- An engine that arrives in REST stays there, or passes on to ASKING where it is asked for in RUN (R40). -/
theorem State.arriveRest_eq (s : State) (p : Pool) :
    s.arriveRest p = s.setEngine p
      (if s.inRun && (s.engine p).need then (s.engine p).atRest.justAsking s.now else (s.engine p).atRest) := by
  simp only [State.arriveRest, State.askFromRest, State.engine_setEngine, State.inRun_setEngine, State.setEngine_now,
    State.setEngine_setEngine, Engine.noAgeing_toAsking, Engine.toRest_eq, Engine.atRest_state, Engine.atRest_need]
  cases s.inRun <;> cases (s.engine p).need <;> simp

/-- The closed notice ends a release as R53 gives it. -/
theorem State.closedNotice_of_releasing {s : State} {v : Valve} (h : (s.engine v.pool).state = .releasing) :
    s.closedNotice v = s.setEngine v.pool ((s.engine v.pool).released s) := by
  simp only [State.closedNotice, h, Engine.released, Engine.standingReask, Bool.and_assoc]
  by_cases h1 : (s.engine v.pool).lock = true
  · rw [if_pos h1, if_pos h1]; rfl
  · rw [if_neg h1, if_neg h1]
    by_cases h2 : ((s.engine v.pool).reask && ((s.engine v.pool).need && s.inRun)) = true
    · rw [if_pos h2, if_pos h2]; rfl
    · rw [if_neg h2, if_neg h2]; exact State.arriveRest_eq s v.pool

/-- The closed notice clears a STUCK valve (R55). -/
theorem State.closedNotice_of_stuck {s : State} {v : Valve} (h : (s.engine v.pool).state = .stuck) :
    s.closedNotice v = (s.raise .valveCleared).arriveRest v.pool := by
  simp only [State.closedNotice, h]

/-- The closed notice acts in RELEASING and STUCK alone. -/
theorem State.closedNotice_of_other {s : State} {v : Valve} (h1 : (s.engine v.pool).state ≠ .releasing)
    (h2 : (s.engine v.pool).state ≠ .stuck) : s.closedNotice v = s := by
  simp only [State.closedNotice]
  split <;> simp_all

/-- A close command to a valve that is seen closed ends the release within the event (R109). -/
theorem State.closeCommand_of_seenClosed {s : State} {v : Valve} (h : (s.valve v).seenClosed = true) :
    s.closeCommand v = (s.setValve v (s.valve v).shut).closedNotice v := by
  simp only [State.closeCommand]
  rw [if_pos (by simpa [ValveRec.seenClosed] using h)]
  rfl

/-- A close command to any other valve begins its close check (R106, R109). -/
theorem State.closeCommand_of_not_seenClosed {s : State} {v : Valve} (h : (s.valve v).seenClosed = false) :
    s.closeCommand v = s.setValve v (s.valve v).closing := by
  simp only [State.closeCommand]
  rw [if_neg (by simp only [ValveRec.seenClosed] at h; simp [h])]
  rfl

/-- An open command: the check passes at once unless the valve is seen closed (R106, R107). -/
theorem State.openCommand_eq (s : State) (v : Valve) :
    s.openCommand v = s.setValve v
      { s.valve v with commanded := .opened, check := if (s.valve v).seenClosed then .openCheck else .none,
                       timer := if (s.valve v).seenClosed then some 0 else none } := by
  simp only [State.openCommand, ValveRec.observed, ValveRec.seenClosed]
  rcases hr : s.valve v with ⟨commanded, feedback, settled, check, timer⟩
  cases feedback <;> cases settled <;> rfl

/-- A release of a valve that is not seen closed: the engine in RELEASING, the close check begun (R51). -/
theorem State.release_of_not_seenClosed {s : State} {v : Valve} (a b c : Bool)
    (h : (s.valve v).seenClosed = false) :
    s.release v a b c =
      ((s.setEngine v.pool ((s.engine v.pool).toReleasing a b c)).endNoFlow v).setValve v (s.valve v).closing := by
  have hv : ((s.setEngine v.pool ((s.engine v.pool).toReleasing a b c)).endNoFlow v).valve v = s.valve v := by
    simp
  simp only [State.release]
  rw [State.closeCommand_of_not_seenClosed (by rw [hv]; exact h), hv]

/-- A need notice that changes no need sets the base alone (R32). -/
theorem State.needNotice_of_same {s : State} {p : Pool} {n : Bool} (b : Nat) (h : (s.engine p).need = n) :
    s.needNotice p n b = s.setEngine p { s.engine p with need := n, base := b } := by
  subst h
  simp only [State.needNotice]
  cases (s.engine p).need <;> simp

end Sys2Proof.Machine
end

