-- ==== Sys2Proof/Tests/Slice0.lean ====
section
/-! SUPPORT. Tests: the check of the commands refuses ill-formed ones; the manual's worked cases; each command on a small
state; and, for every obligation with hypotheses, a concrete state that meets them, clause by clause. -/

namespace Sys2Proof.Tests
open Sys2Proof Sys2Proof.Machine

set_option Elab.async false

/-! ## Small states -/

/-- The default image of section 9.3, without its CRC; both valves have feedback. -/
def tHead : List Byte :=
  [0x4B, 64, 31, 0, 0x13, 0x88, 0x07, 0xD0, 0, 200, 0x09, 0x60, 0, 200, 0x0C, 0x80, 0x02, 0x58, 0, 50, 0x02, 0x58] ++
  [0x02, 0xEE, 0x01, 0x2C, 0, 10, 0, 10, 0, 20, 0, 50, 2, 24, 15, 3, 0x03, 0x84, 0x01, 0x2C, 0x0E, 0x10, 0, 100] ++
  [0x01, 0x2C, 1, 1, 0, 40, 0, 80, 0x02, 0x58, 0x02, 0x58, 10, 20, 0, 200]
def tImage : List Byte := tHead ++ crcBytes tHead
def tCfg : EffConfig := effectiveConfig tImage
/-- A serial memory that acknowledges and holds these bytes, and one that does not acknowledge its address. -/
def tMemory (b : List Byte) : MemoryAnswer := { acksWrite := true, acksOffset := true, acksRead := true, bytes := b }
def tSilent : MemoryAnswer := { tMemory tImage with acksWrite := false }
def tCodes : Codes := ⟨2457, 2730, 737, 1365, 2048⟩
def tInputs : StartInputs := ⟨.closed, .closed, false, false, tCodes⟩

/-- What the command leaves. -/
def after (c : Instr) (s : State) : State :=
  match exec c s with
  | .next t => t
  | .fault _ | .refused _ => s

/-- A pool's engine in a state, after a load of the default image. -/
def tEngine (p : Pool) (st : EngineState) : Engine :=
  { Engine.reset with state := st, amount := tCfg.amount p, effCap := tCfg.cap p }
def tValve : ValveRec := { ValveRec.cold with feedbackPresent := true }

/-- Station 4 in RUN with the default image, every engine at rest, nothing on the line. -/
def tRun : State :=
  { State.reset with
    now := 30000,
    station := { State.reset.station with state := .run, number := 4, cfg := tCfg, loaded := true, work := .idle },
    meas := { Measurement.loaded tCfg with scanClock := some 1000 },
    claim := { discharge := tEngine .discharge .rest, supply := tEngine .supply .rest, biocide := tEngine .biocide .rest },
    line := { Line.reset with rxMode := .collect, reportTimer := some 2000, deliveryTimer := some 10000 },
    out := { Output.cold with blowdown := tValve, makeup := tValve },
    feed := { Feed.cold with slotClock := some 5000 },
    bio := { Sequencer.cold with interval := some 0 } }

def inState (st : StationState) (s : State) : State := { s with station := { s.station with state := st } }
def withEngine (p : Pool) (f : Engine → Engine) (s : State) : State := s.setEngine p (f (s.engine p))
def withValve (v : Valve) (f : ValveRec → ValveRec) (s : State) : State := s.setValve v (f (s.valve v))
def withBio (f : Sequencer → Sequencer) (s : State) : State := { s with bio := f s.bio }
def withLine (f : Line → Line) (s : State) : State := { s with line := f s.line }
def withFeed (f : Feed → Feed) (s : State) : State := { s with feed := f s.feed }
def withPost (c : PanelCommand) (s : State) : State :=
  { s with port := { s.port with mailbox := { state := .pending, code := c.code, argument := 0, result := .none } } }

def tAsking (p : Pool) : State :=
  withEngine p (fun e => { e with state := .asking, phase := some 2500, base := 120, need := true, grantWait := some 20000 }) tRun
def tConfirming (p : Pool) : State :=
  withEngine p (fun e => { e with state := .confirming, phase := some 2500, heldUrgency := 120, need := true,
                                  grantWait := some 20000 }) tRun
/-- A valve's pool in HOLDING, its valve open. -/
def tHolding (v : Valve) : State :=
  withValve v (fun r => { r with commanded := .opened, settled := .opened })
    (withEngine v.pool (fun e => { e with state := .holding, holdStart := some 10000, maxRun := some 600000,
                                          releaseDeferred := true }) tRun)
/-- A valve's pool in RELEASING, its valve still seen open at the confirm time. -/
def tReleasing (v : Valve) : State :=
  withValve v (fun r => { r with settled := .opened, check := .closeCheck, timer := some 10000 })
    (withEngine v.pool (fun e => { e with state := .releasing }) tRun)
def tStuck (v : Valve) : State :=
  withValve v (fun r => { r with settled := .opened, check := .closeWatch })
    (withEngine v.pool (fun e => { e with state := .stuck }) tRun)
def tDosing : State :=
  { withBio (fun b => { b with cycle := .dosing, interval := none, phase := some 0, overdue := some 0 })
      (withEngine .biocide (fun e => { e with state := .holding }) tRun) with
    out := { tRun.out with biocidePump := true } }
def tPrebleed : State :=
  withBio (fun b => { b with cycle := .prebleed, interval := none, phase := some 0, overdue := some 0, target := 2040 })
    (withEngine .biocide (fun e => { e with state := .holding }) tRun)
def tContact : State :=
  withBio (fun b => { b with cycle := .contact, interval := none, phase := some 0 })
    { tRun with demand := { tRun.demand with suppress := true } }

/-- A frame of this station on line, a chain of `k` failures behind it, being sent or waiting. -/
def tFrame (kind : FrameKind) : TxFrame := { kind := kind, source := 4, flags := 0, payload := [] }
def tOnLine (kind : FrameKind) (k : Nat) (sending : Bool) : OnLine :=
  { frame := tFrame kind, bytes := (tFrame kind).encode 0, failures := k, sending := sending }
def tSending (kind : FrameKind) (k : Nat) : State := withLine (fun l => { l with onLine := some (tOnLine kind k true) }) tRun
/-- The characters of such a frame read back: all of them, the first `n`, and these with one bit of the next wrong. -/
def echoed (b : List Byte) : List EchoChar := b.map (fun x => some (lineChar x))
def tEcho (kind : FrameKind) : AttemptEnd := { readBack := echoed (tOnLine kind 0 true).bytes, straps := 4 }
def tEchoed (n : Nat) (straps : BitVec 5) : AttemptEnd :=
  { readBack := echoed ((tOnLine .report 0 true).bytes.take n), straps := straps }
def tMisread (kind : FrameKind) : AttemptEnd :=
  { readBack := echoed ((tOnLine kind 0 true).bytes.take 1) ++ [some (lineChar 0xFF)], straps := 4 }

/-- A REPORT of a station with a DISCHARGE record, and a LEAVING. -/
def tReport (n seq : Byte) (code : Byte) (amount urgency : Byte) : List Byte :=
  TxFrame.encode { kind := .report, source := n, flags := 0,
                   payload := [code, 0, amount, urgency, 0, 100, 0, 0, 0, 0, 1, 0x2C, 0, 0, 0, 0, 0, 1] ++
                     [0, 0, 0, 0, 0, 0] } seq
def tLeaving (n seq : Byte) : List Byte := TxFrame.encode { kind := .leaving, source := n, flags := 0, payload := [] } seq
def queued (b : List Byte) (s : State) : State := withLine (fun l => { l with rxQueue := [b] }) s
def chars (b : List Byte) : List RxChar := b.map (fun x => { byte := x, framingError := false })
/-- The characters of these bytes from the line, and a quiet time after them. -/
def tHeard (b : List Byte) (micros : Nat) : Reception := { chars := b.map lineChar, quietMicros := micros }
/-- A frame being collected. -/
def tCollecting (b : List Byte) : State := withLine (fun l => { l with rxChars := chars b }) tRun
/-- A peer made from such a REPORT. -/
def tPeer (n code amount urgency : Byte) : PeerEntry := PeerEntry.ofReport (tReport n 254 code amount urgency)
def withPeers (l : List PeerEntry) (s : State) : State := { s with peers := l }

/-! ## The check of the commands -/

theorem test_wf_image_length : Instr.wf (.configAttempt (tMemory tHead) tInputs) = false ∧
    Instr.wf (.configAttempt (tMemory tImage) tInputs) = true := by decide +kernel
theorem test_wf_biocide_has_no_minimum_run : Instr.wf (.minimumRunEnd .biocide) = false := by decide
theorem test_wf_biocide_has_no_maximum_run : Instr.wf (.maxRunExpiry .biocide) = false := by decide
theorem test_wf_peer_numbers : Instr.wf (.peerStale 0) = false ∧ Instr.wf (.peerStale 32) = false ∧
    Instr.wf (.peerDropped 0) = false ∧ Instr.wf (.peerDropped 32) = false ∧
      Instr.wf (.peerStale 31) = true := by decide
theorem test_wf_record_indices : Instr.wf (.readPeer 0) = false ∧ Instr.wf (.readPeer 32) = false ∧
    Instr.wf (.readCounter 0) = false ∧ Instr.wf (.readCounter 21) = false ∧
      Instr.wf (.readCounter 20) = true := by decide
theorem test_wf_out_of_range : Instr.wf (.outOfRange 3 2) = false ∧ Instr.wf (.outOfRange 3 3) = true ∧
    Instr.wf (.outOfRange 12 0) = true ∧ Instr.wf (.outOfRange 1 1) = true := by decide
theorem test_wf_start_bit : Instr.wf (.frameEnd { chars := [1#10], quietMicros := 1042 }) = false ∧
    Instr.wf (.delivery { readBack := [some (1#1 ++ 0xB4#8 ++ 1#1)], straps := 4 }) = false ∧
    Instr.wf (.echoMismatch { readBack := [some 1#10], straps := 4 }) = false ∧
    Instr.wf (.frameEnd (tHeard [0xB4] 1042)) = true := by decide +kernel
theorem test_wf_unknown_transaction : Instr.wf (.unknownTransaction 1) = false ∧
    Instr.wf (.unknownTransaction 2) = false ∧ Instr.wf (.unknownTransaction 3) = false ∧
    Instr.wf (.unknownTransaction 4) = true := by decide
theorem test_no_word_spells_a_command : decodeTableWord 8 0x41 = none ∧
      State.reset.withFetchWord 8 0x41 = State.reset := by
  decide

/-! ## The manual's worked cases -/

theorem test_crc_check_value :
    crcBytes [0x31, 0x32, 0x33, 0x34, 0x35, 0x36, 0x37, 0x38, 0x39] = [0x29, 0xB1] := by decide +kernel
theorem test_default_image_loads : imageFault tImage = none ∧ configClampedBy tImage = false ∧
    (tCfg.sp, tCfg.db, tCfg.hh, tCfg.capDischarge, tCfg.capSupply, tCfg.capBiocide) = (2400, 200, 3200, 100, 300, 1) ∧
    (tCfg.amountDischarge, tCfg.amountSupply, tCfg.confirmTime, tCfg.balanceInterval) = (40, 80, 10, 200) := by
  decide +kernel
/-- Section 9.3, the example: confirm time 90, mask 0x1E, L_off 700 under L_on 800, DB over SP, an amount over its cap. -/
def tRepairImage : List Byte :=
  (((((((tHead.set 2 0x1E).set 10 0).set 11 250).set 12 1).set 13 44).set 20 3).set 21 0x20).set 22 2 |>.set 23 0xBC
    |>.set 45 120 |>.set 51 150 |>.set 58 90
theorem test_load_with_clamps_and_repairs :
    let c := effectiveConfig tRepairImage
    configClampedBy tRepairImage = true ∧ c.confirmTime = 60 ∧ c.enableCb = true ∧ (c.lOn, c.lOff) = (800, 801) ∧
    (c.sp, c.db) = (250, 250) ∧ c.amountDischarge = 120 := by decide +kernel
theorem test_window_across_a_short_hold :
    let r (l : List Nat) := l.foldl ChannelRec.take ChannelRec.reset
    (r [2450, 2460]).averaged = 2455 ∧ (r [2450, 2460, 4095]).state = .holding ∧
    (r [2450, 2460, 4095, 2470]).averaged = 2460 ∧
    (r [2450, 2460, 4095, 2470, 2480, 2490]).window = [2460, 2470, 2480, 2490] := by decide +kernel
/-- Section 1.7: averaged codes 2457, 2730, 737 and 1365. -/
def tMeas : Measurement :=
  { Measurement.reset with
    cb := ChannelRec.reset.take 2457, tb := ChannelRec.reset.take 2730, cm := ChannelRec.reset.take 737,
    tm := ChannelRec.reset.take 1365 }
theorem test_compensation_and_cycles :
    tMeas.derive tCfg = { rawB := some 3000, rawM := some 360, t10B := some 400, t10M := some 200, lv10 := none,
                          k25B := some 2308, k25M := some 400, coc := some 577, cyclesLimit := false } := by decide +kernel
def tNoTm : Measurement := { tMeas with tm := { ChannelRec.reset with state := .fault } }
def tNoTemp : Measurement := { tMeas with tm := ChannelRec.reset, tb := ChannelRec.reset }
theorem test_compensation_falls_back :
    ((tNoTm.derive tCfg).k25M, (tNoTemp.derive tCfg).k25B, (tNoTemp.derive tCfg).k25M) = (some 277, some 3000, some 360) := by
  decide +kernel
theorem test_discharge_base :
    let b (k : Nat) := formulaBase tCfg { Derived.reset with k25B := some k } .c
    (b 2400, b 2500, b 2301, b 2900) = (100, 150, 51, 200) ∧
    formulaBase { tCfg with mode := .k } { Derived.reset with coc := some 577 } .k = 54 := by decide +kernel
theorem test_supply_base : (supplyBase tCfg 600, supplyBase tCfg 650, supplyBase tCfg 749, supplyBase tCfg 450) =
    (100, 67, 1, 200) := by decide +kernel
/-- Section 3.5: station 5 STALE in HOLDING, station 9 asking for more than is left. -/
def tWalk : State :=
  withPeers [{ tPeer 5 3 40 0 with freshness := .stale }, tPeer 9 1 80 200]
    (withEngine .discharge (fun e => { e with amount := 20 }) (tAsking .discharge))
theorem test_walk_stops_before_this_station : tWalk.headroomAsking .discharge = 60 ∧ tWalk.fits .discharge = false ∧
    (withPeers [tPeer 9 1 80 200] tWalk).fits .discharge = true := by decide +kernel
theorem test_gap_across_the_wrap :
    let s (last seq : Byte) := after (.reportProcessed 4)
      (queued (tReport 9 seq 0 0 0) (withPeers [{ tPeer 9 0 0 0 with lastSeq := last }] tRun))
    (((s 254 255).peerAt 9).map PeerEntry.missed, ((s 255 1).peerAt 9).map PeerEntry.missed,
      ((s 1 1).peerAt 9).map PeerEntry.missed, ((s 1 5).peerAt 9).map PeerEntry.missed) =
      (some 0, some 1, some 0, some 3) := by decide +kernel
theorem test_frames_have_31_and_7_bytes : (tRun.reportFrame.encode 0).length = 31 ∧ (tLeaving 4 0).length = 7 ∧
    frameVerdict (chars (tRun.reportFrame.encode 0)) = .good ∧ frameVerdict (chars (tLeaving 4 0)) = .good := by
  decide +kernel
theorem test_feed_saturates :
    let e (a o : Nat) := { Feed.cold with remainder := a, owed := o }.earn 500
    ((e 700 249).remainder, (e 700 249).owed, (e 700 249).backlog) = (200, 250, true) ∧
    ((e 200 250).remainder, (e 700 250).remainder, (e 999 250).remainder) = (700, 999, 999) := by decide +kernel
/-- Section 10.1: counter 2 at its crossings. -/
def tCounted (v : Nat) : Stats :=
  { Stats.cold with counters := Stats.cold.counters.set 1 (BitVec.ofNat 32 v) }.count .blowdownLitres 10
theorem test_counter_crossings :
    ((tCounted 2147483630).lastCounter, (tCounted 2147483640).lastCounter, (tCounted 2147483640).flag .counterHalf) =
      (0, 2, true) ∧
    (tCounted 4294967290).counter .blowdownLitres = 4 ∧ (tCounted 4294967290).flag .counterWrap = true ∧
    (tCounted 4).lastCounter = 0 := by decide +kernel
/-- R173: a grant, a stroke behind its litres, and a superseding that cross together. -/
theorem test_last_crossings :
    let one (l : List Counter) (t : Stats) := l.foldl (fun t c => t.count c 1) t
    let l : List Counter := [.grants .supply, .makeupLitres, .inhibitorStrokes, .reportsSuperseded]
    let half : Stats := { Stats.cold with counters := List.replicate 20 (BitVec.ofNat 32 2147483647) }
    half.lastCrossings (one l half) = [.inhibitorStrokes, .reportsSuperseded, .grants .supply] ∧
    Stats.cold.lastCrossings (one l Stats.cold) = [] := by decide +kernel
theorem test_grant_wait_buckets : (waitBucket 5, waitBucket 10, waitBucket 130, waitBucket 599, waitBucket 600) =
    (0, 1, 3, 3, 4) := by decide

/-! ## Each command -/

theorem test_coldReset : (after (.coldReset .pin 9) tRun).station.number = 9 ∧
    (after (.coldReset .pin 9) tRun).station.state = .start ∧
    (after (.coldReset .pin 9) tRun).out.blowdown.feedbackPresent = true ∧
    (after (.coldReset .power 9) tRun).out.blowdown.feedbackPresent = false ∧
    (after (.coldReset .dip 0) tRun).station.state = .configFault := by decide +kernel
theorem test_configAttempt : (after (.configAttempt (tMemory tImage) tInputs) State.reset).station.state = .listen ∧
    (after (.configAttempt tSilent tInputs) State.reset).station.work = .retryWait 1 0 := by decide +kernel
/-- R159: the transaction on the I2C lines, and what is left of it where the offset is not acknowledged. -/
theorem test_configAttempt_bus :
    imageTransaction (tMemory [0x4B, 64, 31]) =
      [.start, .send 0xA0, .send 0, .repeatedStart, .send 0xA1, .receive 0x4B true, .receive 64 true, .receive 31 false,
       .stop] ∧
    (after (.configAttempt { tMemory tImage with acksOffset := false } tInputs) State.reset).station.bus =
      [.start, .send 0xA0, .send 0] := by decide +kernel
theorem test_configRetryDelay : (after .configRetryDelay
    { State.reset with station := { State.reset.station with work := .retryWait 1 5 } }).station.work = .attempt 2 := by
  decide +kernel
theorem test_scan : (after (.scan tCodes) tRun).meas.derived.k25B = some 2308 ∧
    (after (.scan { tCodes with cb := 4000 }) tRun).claim.discharge.state = .asking := by decide +kernel
/-- A channel that has been in HOLDING for 60 s. -/
def tHeldProbe : State := { tRun with meas := { tRun.meas with cm := { ChannelRec.reset with state := .holding, holdTimer := 60000 } } }
theorem test_holdTimerExpiry : (after (.holdTimerExpiry .cm) tHeldProbe).meas.cm.state = .fault ∧
    (after (.holdTimerExpiry .cm) tHeldProbe).out.relay = true := by decide +kernel
def tHigh : State := { tRun with demand := { tRun.demand with hhTimer := some 60000, llTimer := some 60000 } }
theorem test_hhTimerExpiry : (after .hhTimerExpiry tHigh).stats.flag .highConductivity = true := by decide +kernel
theorem test_llTimerExpiry : (after .llTimerExpiry tHigh).stats.flag .lowLevel = true := by decide +kernel
theorem test_askWindowExpiry : ((after (.askWindowExpiry .discharge) (tAsking .discharge)).claim.discharge.state,
    (after (.askWindowExpiry .discharge) tWalk).claim.discharge.windowExpired) = (.confirming, true) := by decide +kernel
theorem test_confirmPeriodExpiry : (after (.confirmPeriodExpiry .supply) (tConfirming .supply)).out.makeup.commanded = .opened ∧
    (after (.confirmPeriodExpiry .supply) (tConfirming .supply)).stats.histogram.getD 6 0 = 1 := by decide +kernel
theorem test_ageingStep : (after (.ageingStep .discharge)
    (withEngine .discharge (fun e => { e with ageingClock := 4000 }) (tAsking .discharge))).claim.discharge.ageing = 1 := by
  decide +kernel
theorem test_minimumRunEnd :
    (after (.minimumRunEnd .discharge) (tHolding .blowdown)).claim.discharge.state = .releasing := by decide +kernel
theorem test_maxRunExpiry : (after (.maxRunExpiry .supply) (tHolding .makeup)).claim.supply.reask = true ∧
    (after (.maxRunExpiry .supply) (tHolding .makeup)).out.makeup.commanded = .closed := by decide +kernel
theorem test_reportProcessed : (after (.reportProcessed 4) (queued (tReport 9 1 0 0 0) tRun)).peers.length = 1 ∧
    (after (.reportProcessed 4) (queued (tReport 4 1 0 0 0) tRun)).station.state = .quiet := by decide +kernel
theorem test_leavingProcessed : (after (.leavingProcessed 4)
    (queued (tLeaving 9 1) (withPeers [tPeer 9 0 0 0] tRun))).peers = [] := by decide +kernel
theorem test_peerStale : ((after (.peerStale 9) (withPeers [{ tPeer 9 0 0 0 with age := 6000 }] tRun)).peerAt 9).map
    PeerEntry.freshness = some .stale := by decide +kernel
theorem test_peerDropped : (after (.peerDropped 9) (withPeers [{ tPeer 9 0 0 0 with age := 20000 }] tRun)).peers = [] := by
  decide +kernel
theorem test_frameEnd : (after (.frameEnd (tHeard (tReport 9 1 0 0 0) 1042)) tRun).line.rxQueue.length = 1 ∧
    (after (.frameEnd (tHeard [0xB4, 2] 1042)) tRun).counter .framesDamaged = 1 := by decide +kernel
/-- R81: a frame in two parts with a quiet time below 2 character times between them; the 31st and the 32nd character. -/
theorem test_frame_goes_on : ((after (.frameEnd (tHeard ((tLeaving 9 1).take 3) 1041)) tRun).line.rxChars.length,
    (after (.frameEnd (tHeard ((tLeaving 9 1).drop 3) 1042)) (after (.frameEnd (tHeard ((tLeaving 9 1).take 3) 1041)) tRun)).line.rxQueue,
    (after (.frameEnd (tHeard (List.replicate 31 0) 1041)) tRun).line.rxTooLong,
    (after (.frameEnd (tHeard [0] 1041)) (tCollecting (List.replicate 31 0))).line.rxTooLong) =
      (3, [tLeaving 9 1], false, true) := by decide +kernel
/-- R81: 0xB4 on the line: the start bit, the data from the least significant bit on, the stop bit. -/
theorem test_character_bits : lineBits (lineChar 0xB4) =
    [false, false, false, true, false, true, true, false, true, true] ∧
    rxChar (lineChar 0xB4) = ⟨0xB4, false⟩ ∧ rxChar (0#1 ++ 0xB4#8 ++ 0#1) = ⟨0xB4, true⟩ := by decide +kernel
theorem test_reportTimer : (after .reportTimer tRun).line.onLine.isSome = true := by decide +kernel
def tWaiting : State := withLine (fun l => { l with onLine := some (tOnLine .report 1 false) }) tRun
theorem test_attemptStart : ((after (.attemptStart 8334) tWaiting).line.sending, (after (.attemptStart 8333) tWaiting).line.sending)
    = (true, false) := by decide +kernel
theorem test_echoMismatch : ((after (.echoMismatch (tMisread .report)) (tSending .report 0)).line.onLine.map OnLine.failures,
    (after (.echoMismatch (tMisread .report)) (tSending .report 7)).line.seq) = (some 1, 1) := by decide +kernel
theorem test_delivery : ((after (.delivery (tEcho .report)) (tSending .report 0)).line.seq,
    (after (.delivery (tEcho .leaving)) (tSending .leaving 0)).station.state) = (1, .start) := by decide +kernel
/-- R94: equal, a framing error, a difference, nothing in time; and an attempt still being sent. -/
theorem test_echo_check :
    let ok (b : Byte) : EchoChar := some (lineChar b)
    echoCheck [0xB4, 1] [ok 0xB4, ok 1] = .delivered ∧ echoCheck [0xB4, 1] [ok 0xB4] = .sending ∧
    echoCheck [0xB4, 1] [ok 0xB4, some (0#1 ++ 1#8 ++ 0#1)] = .mismatch ∧
    echoCheck [0xB4, 1] [ok 0xB5, ok 1] = .mismatch ∧ echoCheck [0xB4, 1] [none] = .mismatch := by decide +kernel
theorem test_deliveryTimerExpiry : (after .deliveryTimerExpiry tRun).station.state = .isolated := by decide +kernel
def tListen : State := { tRun with station := { tRun.station with state := .listen, listen := some 0 } }
theorem test_listenTimerExpiry : (after .listenTimerExpiry tListen).station.state = .run := by decide +kernel
def stood (lvl : ValvePos) (n : Nat) : Held ValvePos := { level := lvl, heldFor := n }
theorem test_feedbackSettled :
    (after (.feedbackSettled .makeup (stood .closed 250)) (tReleasing .makeup)).claim.supply.state = .rest ∧
    (after (.feedbackSettled .makeup (stood .opened 250)) tRun).claim.supply.state = .stuck ∧
    after (.feedbackSettled .makeup (stood .opened 249)) tRun = tRun := by decide +kernel
/-- R37, R52, R53: a re-ask mark at the end of RELEASING in RUN, without a need and with one (log 28). -/
theorem test_reask_stands_for_a_need :
    let s (need : Bool) := withEngine .discharge (fun e => { e with reask := true, ageing := 7, need := need }) (tReleasing .blowdown)
    let ended (need : Bool) := (after (.feedbackSettled .blowdown (stood .closed 250)) (s need)).claim.discharge
    ((ended false).state, (ended false).ageing, (ended true).state, (ended true).ageing) = (.rest, 0, .asking, 7) := by
  decide +kernel
def tUnopened (v : Valve) : State :=
  withValve v (fun r => { r with settled := .closed, check := .openCheck, timer := some 10000 }) (tHolding v)
/-- R107: the failure, and an observed OPEN at the same instant, whose close check then runs. -/
theorem test_openCheckExpiry :
    (after (.openCheckExpiry ⟨.makeup, 249⟩) (tUnopened .makeup)).claim.supply.state = .locked ∧
    (after (.openCheckExpiry ⟨.makeup, 250⟩) (tUnopened .makeup)).claim.supply.state = .releasing ∧
    (after (.openCheckExpiry ⟨.makeup, 250⟩) (tUnopened .makeup)).out.makeup.check = .closeCheck := by
  decide +kernel
/-- A yield's ageing stands until REST (R38, R54). -/
theorem test_closeCheckExpiry : (after (.closeCheckExpiry .makeup)
    (withEngine .supply (fun e => { e with ageing := 7, reask := true }) (tReleasing .makeup))).claim.supply =
      { tEngine .supply .stuck with ageing := 7 } := by decide +kernel
def tPulse : State := { tRun with out := { tRun.out with inhibitorPulse := some 200 } }
theorem test_strokePulseEnd : (after .strokePulseEnd tPulse).out.inhibitorPulse = none := by decide +kernel
def held (high : Bool) (n : Nat) : Held Bool := { level := high, heldFor := n }
theorem test_meterSettled : (after (.meterSettled .makeup (held true 20)) tRun).counter .makeupLitres = 10 ∧
    (after (.meterSettled .makeup (held true 20)) (withFeed (fun f => { f with remainder := 500 }) tRun)).out.inhibitorPulse =
      some 0 := by decide +kernel
theorem test_meter_debounce : tCfg.debounce = 20 ∧ after (.meterSettled .makeup (held true 19)) tRun = tRun := by
  decide +kernel
theorem test_slotBoundary : (after .slotBoundary
    (withFeed (fun f => { f with blowdownRing := List.replicate 11 0 ++ [7] }) tRun)).feed.blowdownRing.getD 10 0 = 7 := by
  decide +kernel
def tWatch (t : Nat) : State :=
  withFeed (fun f => { f with noFlow := some { holdTime := t, raised := false, tested := false } }) (tHolding .blowdown)
theorem test_noFlowHoldTime : (after .noFlowHoldTime (tWatch 60000)).stats.flag .noFlow = true ∧
    (after .noFlowHoldTime (tWatch 59999)).stats.flag .noFlow = false := by decide +kernel
def tOwed (n : Nat) : State := withFeed (fun f => { f with owed := n, backlog := n != 0, strokeClock := some 2000 }) tRun
def tPassed (s : State) : State := withFeed (fun f => { f with strokePassed := true }) s
theorem test_strokeClockExpiry : ((after .strokeClockExpiry (tOwed 2)).feed.owed, (after .strokeClockExpiry (tOwed 1)).feed.backlog)
    = (1, false) := by decide +kernel
/-- Half a stroke earned, the stroke clock at its interval and its expiry still to be taken. -/
def tHalfStroke : State := withFeed (fun f => { f with remainder := 500, strokeClock := some 2000 }) tRun
/-- R127: a pulse and the stroke clock's expiry at one instant: either order gives one stroke, with the event taken second. -/
theorem test_pulse_and_expiry :
    let pulse := after (.meterSettled .makeup { level := true, heldFor := 20 })
    let expiry := after .strokeClockExpiry
    let seen (s : State) := (s.feed.owed, s.out.inhibitorPulse, s.counter .inhibitorStrokes)
    seen (pulse tHalfStroke) = (1, none, 0) ∧ seen (expiry (pulse tHalfStroke)) = (0, some 0, 1) ∧
    seen (expiry tHalfStroke) = (0, none, 0) ∧ seen (pulse (expiry tHalfStroke)) = (0, some 0, 1) := by decide +kernel
theorem test_intervalTimerExpiry : (after .intervalTimerExpiry tRun).bio.cycle = .due ∧
    (after .intervalTimerExpiry tRun).claim.biocide.state = .asking := by decide +kernel
theorem test_prebleedShort : (after .prebleedShort tPrebleed).bio.cycle = .dosing ∧
    (after .prebleedShort tPrebleed).out.biocidePump = true := by
  have h : exec .prebleedShort tPrebleed = .next (State.finish tPrebleed tPrebleed.prebleedRunsOut) :=
    (exec_prebleedShort tPrebleed).trans (event_of_due rfl (by decide +kernel))
  simp only [after, h, State.prebleedRunsOut, State.enterClosing]
  split <;> decide +kernel
theorem test_doseTimeExpiry : (after .doseTimeExpiry tDosing).bio.cycle = .contact ∧
    (after .doseTimeExpiry tDosing).out.biocidePump = false := by decide +kernel
theorem test_contactTimeExpiry : (after .contactTimeExpiry tContact).bio.interval = some 86400000 := by decide +kernel
theorem test_readStation : (after .readStation tRun).port.response = [0, 15, 3, 4, 1] ++ List.replicate 12 0 := by
  decide +kernel
theorem test_readMeasure : ((after .readMeasure tRun).port.response.take 8) = [0, 49, 0, 0, 0, 0, 0, 0] := by
  decide +kernel
theorem test_readPool : ((after (.readPool .supply) tRun).port.response.take 6) = [0, 21, 1, 0, 0, 80] := by
  decide +kernel
theorem test_readPeer : (after (.readPeer 9) tRun).port.response = [1, 0] ∧
    ((after (.readPeer 9) (withPeers [tPeer 9 3 40 7] tRun)).port.response.take 6) = [0, 40, 9, 0, 0, 254] := by
  decide +kernel
theorem test_readCounter : (after (.readCounter 20) tRun).port.response = [0, 5, 0, 0, 0, 0, 0] := by decide +kernel
theorem test_readHistogram : (after .readHistogram tRun).port.response = [0, 30] ++ List.replicate 30 0 := by
  decide +kernel
theorem test_readEvents : (after .readEvents (tRun.raise .noFlow).driveLines).port.response =
    [0, 8, 0, 0, 8, 0, 0xFF, 0xFF, 0xFF, 0xFF] ∧
    (after .readEvents (tRun.raise .noFlow).driveLines).port.attention = false := by decide +kernel
theorem test_readBalance : ((after .readBalance tRun).port.response.drop 23).take 4 = [0, 0, 0x4E, 0x20] := by
  decide +kernel
theorem test_readBiocide : ((after .readBiocide tRun).port.response.take 7) = [0, 20, 0, 0, 0, 0, 0] := by decide +kernel
theorem test_readConfig : ((after .readConfig tRun).port.response) = [0, 61, 0] ++ tHead.drop 2 := by decide +kernel
theorem test_readResetCause : (after .readResetCause tRun).port.response = [0, 4, 1, 0, 0, 0] ∧
    (after .readResetCause tRun).station.causes.power = false := by decide +kernel
theorem test_outOfRange : (after (.outOfRange 12 0) tRun).port.response = [2, 0] := by decide +kernel
theorem test_unknownTransaction : after (.unknownTransaction 9) tRun = tRun := by decide +kernel
theorem test_readMailbox : (after .readMailbox tRun).port.response = [0, 0, 0, 0, 0, 0, 0] := by decide +kernel
theorem test_postCommand : (after (.postCommand 3 0) tRun).port.mailbox.state = .pending ∧
    (after (.postCommand 9 0) tRun).port.mailbox.result = .unknown := by decide +kernel
def tLocked : State := withEngine .supply (fun e => { e with state := .locked }) (tRun.occur .valveFault).driveLines
theorem test_acknowledge : (after .acknowledge (withPost .acknowledge tLocked)).claim.supply.state = .rest ∧
    (after .acknowledge (withPost .acknowledge tLocked)).stats.alarms =
      [{ kind := .valveFault, active := false, unack := false }] := by decide +kernel
theorem test_biocideNow : (after .biocideNow (withPost .biocideNow tRun)).bio.cycle = .due := by decide +kernel
theorem test_hold : (after .hold (withPost .hold (tHolding .makeup))).claim.supply.state = .releasing := by decide +kernel
theorem test_resume : (after .resume (withPost .resume (inState .hold tRun))).station.listen = some 8000 := by
  decide +kernel
def tClearedBy (o : ClearOwner) : State :=
  { withPost .clearCounters tRun with port := { (withPost .clearCounters tRun).port with clearedBy := some o } }
/-- The second owner's event, after either first one. -/
theorem test_clearCounters :
    (after .clearCounters ((tClearedBy .feed).count .framesForeign 1)).counter .framesForeign = 0 ∧
    (after .clearCounters (tClearedBy .feed)).port.mailbox.state = .done ∧
    (after .clearCounters (withFeed (fun f => { f with makeupAcc := 9 }) (tClearedBy .statistics))).feed.makeupAcc = 0 := by
  decide +kernel
/-- The first owner's event leaves the mailbox PENDING, whichever owner it is. -/
theorem test_clearCounters_first : (after .clearCounters (withPost .clearCounters tRun)).port.mailbox.state = .pending := by
  have h : exec .clearCounters (withPost .clearCounters tRun) =
      .next (State.finish (withPost .clearCounters tRun) (withPost .clearCounters tRun).takeClear) :=
    (exec_clearCounters _).trans (event_of_due rfl (by decide +kernel))
  have hc (o : ClearOwner) : (State.finish (withPost .clearCounters tRun)
      ((withPost .clearCounters tRun).clearedFirst o)).port.mailbox.state = .pending := by cases o <;> decide +kernel
  simp only [after, h, takeClear_first (s := withPost .clearCounters tRun) rfl (by decide +kernel)]
  exact hc _
theorem test_setMask : (after .setMask (withPost .setMask tRun)).stats.mask = 0 := by decide +kernel
theorem test_lineRestart : (after .lineRestart (withPost .lineRestart (tSending .report 0))).counter .reportsLost = 1 := by
  decide +kernel
theorem test_restart : (after (.restart 7) (withPost .restart (inState .quiet tRun))).station.number = 7 ∧
    (after (.restart 7) (withPost .restart tRun)).station.restartPending = true := by decide +kernel
/-- R183: a transaction's bytes name its command, one that ends early none, and what is shifted out follows the request. -/
theorem test_transactions :
    transactionCommand [1, 4, 31, 0, 0] = some (.readPeer 31) ∧ transactionCommand [1, 4, 32] = some (.outOfRange 4 32) ∧
    transactionCommand [2, 6, 0x12, 0x34, 0x56, 0x78] = some (.postCommand 6 0x12345678) ∧
    transactionCommand [2, 6, 0, 0, 0] = none ∧ transactionCommand [0x41] = some (.unknownTransaction 0x41) := by
  decide +kernel
/-- R183, mode 0: the clock idles low, a bit is sampled as it rises, the most significant first; and the part's line changes
as it falls. -/
theorem test_spi_wires :
    let bit (x : Bool) : List SpiLevels := [⟨false, x⟩, ⟨true, x⟩]
    let byte3 := [false, false, false, false, false, false, true, true].flatMap bit
    spiReceived (byte3 ++ [⟨false, true⟩]) = [3] ∧ spiReceived (byte3.take 15) = [] ∧
    (tRun.spiTransaction byte3).pending = [.readMailbox] ∧
    spiDriven false [true, false] [⟨false, false⟩, ⟨true, false⟩, ⟨false, false⟩, ⟨true, false⟩] =
      [true, true, false, false] := by decide +kernel
theorem test_transaction_shifts_out :
    (tRun.transaction [1, 11, 0]).pending = [.readResetCause] ∧
    (after .readResetCause tRun).shiftsOut [1, 11, 0, 0, 0, 0, 0, 0, 0, 0] = [0, 0, 0, 0, 4, 1, 0, 0, 0, 0] := by
  decide +kernel
theorem test_heldInReset : (after (.heldInReset .dip) (tHolding .makeup)).out.makeup.commanded = .closed ∧
    (after .readStation (after (.heldInReset .dip) tRun)).port.response = [] := by decide +kernel

/-! ## The hypotheses of the obligations are met, clause by clause, at the boundaries of their ranges -/

/-- A queue of one. -/
theorem test_witness_StepRunsFrontCommand :
    (({ tRun with pending := [.reportTimer] } : State).pending = .reportTimer :: []) := by
  decide +kernel

/-- A working state and START; an engine that ages and one that does not. -/
theorem test_witness_EmptyQueueLetsOneMillisecondPass :
    (tRun.pending = [] ∧ tRun.held = none ∧ tRun.station.state.working = true) ∧
    (State.reset.pending = [] ∧ State.reset.held = none ∧ State.reset.station.state.working = false) ∧
    (((tAsking .supply).engine .supply).state = .asking ∧ (tAsking .supply).pending = [] ∧
      (tAsking .supply).held = none) ∧
    (tHeldProbe.pending = [] ∧ tHeldProbe.held = none ∧ tHeldProbe.station.state.working = true ∧
      (tHeldProbe.meas.channel .cm).state = .holding) := by
  decide +kernel

def tHeld : State := { tRun with held := some .dip }

/-- A transaction, and a command that is none. -/
theorem test_witness_HeldPartAnswersNothing :
    (tHeld.held.isSome = true ∧ isReset .readEvents = false ∧ isTransaction .readEvents = true) ∧
    (isReset (.postCommand 1 0) = false ∧ isTransaction (.postCommand 1 0) = false) := by
  decide +kernel

/-- The strap values 0 and 31. -/
theorem test_witness_ColdResetStartsAnew :
    ((0 : BitVec 5) = 0) ∧
    ((31 : BitVec 5) ≠ 0) := by
  decide +kernel

def tStart (k : StartWork) : State := { State.reset with station := { State.reset.station with work := k } }

/-- The second and the third attempt, and the wait of 5 ms. -/
theorem test_witness_FailedAttemptWaitsOrFaults :
    (Live (tStart (.attempt 2)) ∧ (tStart (.attempt 2)).station.state = .start ∧
      (tStart (.attempt 2)).station.work = .attempt 2) ∧
    (Live (tStart (.attempt 3)) ∧ (tStart (.attempt 3)).station.work = .attempt 3) ∧
    (Live (tStart (.retryWait 1 5)) ∧ (tStart (.retryWait 1 5)).station.work = .retryWait 1 5) := by
  simp only [Live, LinesFollow]
  decide +kernel
/-- Each reason. -/
theorem test_witness_FailsWith :
    FailsWith tSilent .noAnswer ∧ FailsWith (tMemory [0]) .format ∧ FailsWith (tMemory [0x4B, 63]) .length ∧
    FailsWith (tMemory (tHead ++ [0, 0])) .crc :=
  ⟨.inl ⟨fun h => absurd h.1 (by decide), rfl⟩, .inr ⟨⟨rfl, rfl, rfl⟩, .inl ⟨by decide, rfl⟩⟩,
    .inr ⟨⟨rfl, rfl, rfl⟩, .inr (.inl ⟨by decide, by decide, rfl⟩)⟩,
    .inr ⟨⟨rfl, rfl, rfl⟩, .inr (.inr ⟨by decide +kernel, by decide +kernel, by decide +kernel, rfl⟩)⟩⟩
/-- Each acknowledge missing, and none. -/
theorem test_witness_BusShows :
    tSilent.acksWrite = false ∧ { tMemory [0] with acksOffset := false }.acksWrite = true ∧
    { tMemory [0] with acksRead := false }.acksOffset = true ∧ Answers (tMemory tImage) := by
  simp only [Answers]
  decide +kernel

/-- A warm restart's START with everything that is kept: a dose in contact, a stroke owed, both marks. -/
def tKept : State :=
  withFeed (fun f => { f with owed := 1, mismatch := true })
    (withBio (fun b => { b with cycle := .contact, abortMark := true, phase := some 5000 }) State.reset)

/-- The first attempt reads the default image, the transmit path empty; a valve seen open; nothing kept and everything. -/
theorem test_witness_PassingAttemptEntersListen :
    (State.reset.held = none ∧ State.reset.station.state = .start ∧ State.reset.station.work = .attempt 1 ∧
      imageFault tImage = none) ∧
    (State.reset.line.onLine = none ∧ State.reset.line.nextSlot = none ∧ State.reset.line.leavingComposed = false) ∧
    (tCfg.feedbackBlowdown = true ∧ { tInputs with blowdownFeedback := .opened }.blowdownFeedback = .opened) ∧
    (State.reset.bio.cycle = .idle ∧ tKept.bio.cycle = .contact ∧ 0 < tKept.feed.owed ∧
      tKept.feed.paced = true ∧ tKept.feed.mismatch = true ∧ tKept.bio.abortMark = true ∧
      tKept.held = none ∧ tKept.station.state = .start ∧ tKept.station.work = .attempt 1) := by
  decide +kernel

def tFaulty : ChannelRec := { ChannelRec.reset with state := .fault }
def tPure : Measurement := { tMeas with cm := ChannelRec.reset.take 30 }

/-- Codes at both ends of the good range, a channel in FAULT, cycles known, and cycles at their limit. -/
theorem test_witness_ReadingsAverageAndConvert :
    ([1, 4094] ≠ ([] : List Nat) ∧ ∀ c ∈ [1, 4094], 1 ≤ c ∧ c ≤ 4094) ∧
    (∀ x ∈ [1, 2, 3, 4, 4094], 1 ≤ x ∧ x ≤ 4094) ∧
    (tFaulty.state = .fault ∧ tFaulty.recovery = 0) ∧
    ((tMeas.derive tCfg).coc = some 577) ∧
    (ChannelRec.reset.state = .good ∧ (ChannelRec.reset.take 4095).state = .holding ∧ (4094 : Nat) ≠ 4095) ∧
    ((tPure.derive tCfg).cyclesLimit = true ∧ (tPure.derive tCfg).coc = some 2500) := by
  decide +kernel

def tNoLevel : State := { tRun with meas := { tRun.meas with lv := ChannelRec.loaded false } }

/-- The scan is due at 1 s; a channel in OFF. -/
theorem test_witness_ScanTakesCodesAndDerives :
    (tRun.held = none ∧ tRun.station.state.working = true ∧ reached 1000 tRun.meas.scanClock = true) ∧
    ((tNoLevel.meas.channel .lv).state = .off ∧ reached 1000 tNoLevel.meas.scanClock = true) := by
  decide +kernel

/-- The channels and the codes that end every condition a scan can end: a level and a conductivity known, a channel in FAULT
one good code from recovery. -/
def tEnding : State :=
  { tRun with
    demand := { tRun.demand with hhTimer := some 60000, hhCondition := true, llTimer := some 60000, llCondition := true },
    meas := { tRun.meas with cm := { ChannelRec.reset with state := .fault, recovery := 9 } } }
def tLevelAt (l : Nat) : Derived := { Derived.reset with lv10 := some l }
def tOverdue (c : Cycle) : Sequencer := { Sequencer.cold with cycle := c, overdue := some 6000000 }

/-- The scan is due, and each engine's need and base are those handed on; each condition standing and ended; the lines of the
SUPPLY table at LL and one above; the overdue clock at 100 minutes. -/
theorem test_witness_ScanHandsOnDemand :
    (tRun.held = none ∧ tRun.station.state.working = true ∧ reached 1000 tRun.meas.scanClock = true) ∧
    ((tRun.engine .discharge).need = tRun.demand.dDemand ∧ (tRun.engine .discharge).base = tRun.demand.dBase) ∧
    ((tRun.engine .supply).need = tRun.demand.sDemand ∧ (tRun.engine .supply).base = tRun.demand.sBase) ∧
    ((∃ x ∈ (after (.scan { tCodes with cb := 4000 }) tRun).meas.derived.k25B, tRun.station.cfg.hh ≤ x) ∧
      ¬ (∃ x ∈ (after (.scan tCodes) tEnding).meas.derived.k25B, tEnding.station.cfg.hh ≤ x)) ∧
    ((∃ x ∈ (after (.scan { tCodes with lv := 10 }) tRun).meas.derived.lv10, x ≤ tRun.station.cfg.ll) ∧
      ¬ (∃ x ∈ (after (.scan tCodes) tEnding).meas.derived.lv10, x ≤ tEnding.station.cfg.ll)) ∧
    (tEnding.demand.hhCondition = true ∧ tEnding.demand.llCondition = true ∧ tEnding.meas.cm.state = .fault ∧
      (after (.scan tCodes) tEnding).meas.probeFault = false) ∧
    ((tLevelAt 300).lv10 = some 300 ∧ 300 ≤ tCfg.ll ∧ tCfg.ll < 301 ∧ Derived.reset.lv10 = none) ∧
    ((tOverdue .dosing).overdue = some 6000000) := by
  decide +kernel

/-- SUPPLY wanted, and handed on so, by an engine in a state with a hold of 20 s or of less. -/
def tWants (st : EngineState) (start : Nat) : State :=
  { withEngine .supply (fun e => { e with state := st, need := true, holdStart := some start }) tRun with
    demand := { tRun.demand with sDemand := true, sMark := true } }

theorem test_witness_ScanReachesTheTarget :
    (after (.scan { tCodes with cb := 2000 }) tPrebleed).meas.derived.k25B = some 1878 := by
  have h : exec (.scan { tCodes with cb := 2000 }) tPrebleed = .next (State.finish tPrebleed
      (((tPrebleed.takeScan { tCodes with cb := 2000 }).scanDemand).prebleedTest)) :=
    (exec_scan _ _).trans (event_of_due rfl (by decide +kernel))
  simp only [after, h, (State.finish_steady _ _).2.2.2.1, (State.prebleedTest_steady _).2.2.2.1]
  decide +kernel

/-- SCAN in PREBLEED below the target and above it; a need that rises and one that falls, in the states they act on. -/
theorem test_witness_ScanMovesEnginesAndCycle :
    (reached 1000 tPrebleed.meas.scanClock = true ∧ tPrebleed.held = none ∧
      (tPrebleed.engine .discharge).need = tPrebleed.demand.dDemand ∧ 1878 ≤ tPrebleed.bio.target) ∧
    ((after (.scan tCodes) tPrebleed).meas.derived.k25B = some 2308 ∧ ¬ 2308 ≤ tPrebleed.bio.target) ∧
    (let rises (s : State) := (s.engine .discharge).need = false ∧
       ((after (.scan { tCodes with cb := 4000 }) s).engine .discharge).need = true
     rises tRun ∧ rises (tHolding .blowdown) ∧ rises (tReleasing .blowdown) ∧ rises (tStuck .blowdown)) ∧
    (let falls (s : State) := (s.engine .supply).need = true ∧
       ((after (.scan { tCodes with lv := 4000 }) s).engine .supply).need = false
     falls (tWants .asking 0) ∧ falls (tWants .confirming 0) ∧ falls (tWants .holding 10000) ∧
       falls (tWants .holding 10001) ∧ falls (tWants .releasing 0) ∧ falls (tWants .locked 0)) := by
  decide +kernel

def tKappa (k : Nat) : Derived := { Derived.reset with k25B := some k }

/-- X at the setpoint, at both ends of the deadband; the lines of the table, κ25B at HH and below. -/
theorem test_witness_FormulaBaseMeasuresTheDeadband :
    (1 ≤ deadband tCfg .c ∧ controlled .c (tKappa 2400) = setpoint tCfg .c) ∧
    (controlled .c (tKappa 2200) + deadband tCfg .c ≤ setpoint tCfg .c ∧
      setpoint tCfg .c ≤ controlled .c (tKappa 2200) + deadband tCfg .c) ∧
    (setpoint tCfg .c + deadband tCfg .c ≤ controlled .c (tKappa 2600) ∧
      controlled .c (tKappa 2600) ≤ setpoint tCfg .c + deadband tCfg .c) ∧
    (Demand.reset.mode = .c ∧ Demand.reset.suppress = false ∧ Demand.reset.force = false) ∧
    ({ Demand.reset with suppress := true }.mode = .c ∧ { Demand.reset with force := true }.suppress = false) ∧
    (∃ k ∈ (tKappa 3200).k25B, tCfg.hh ≤ k) ∧
    (¬ (∃ k ∈ (tKappa 3199).k25B, tCfg.hh ≤ k) ∧ (tKappa 3199).k25B ≠ none) := by
  decide +kernel

/-- Each timer at 60 s. -/
theorem test_witness_DelaysLatchTheirAlarms :
    (Live tHeldProbe ∧ (tHeldProbe.meas.channel .cm).state = .holding ∧
      60000 ≤ (tHeldProbe.meas.channel .cm).holdTimer) ∧
    (Live tHigh ∧ reached 60000 tHigh.demand.hhTimer = true ∧ tHigh.demand.hhCondition = false) ∧
    (reached 60000 tHigh.demand.llTimer = true ∧ tHigh.demand.llCondition = false) := by
  simp only [Live, LinesFollow]
  decide +kernel

def tAgeing (s : State) : State := withEngine .discharge (fun e => { e with ageingClock := 4000 }) s

/-- A window at 2.5 s that fits, one that does not, and an ageing clock at 4 s. -/
theorem test_witness_AskingWaitsThenConfirms :
    (Live (tAsking .biocide) ∧ ((tAsking .biocide).engine .biocide).state = .asking ∧
      ((tAsking .biocide).engine .biocide).windowExpired = false) ∧
    (reached 2500 ((tAsking .biocide).engine .biocide).phase = true ∧ (tAsking .biocide).fits .biocide = true) ∧
    (Live tWalk ∧ (tWalk.engine .discharge).state = .asking ∧ (tWalk.engine .discharge).windowExpired = false ∧
      reached 2500 (tWalk.engine .discharge).phase = true ∧ tWalk.fits .discharge = false) ∧
    (Live (tAgeing tWalk) ∧ ((tAgeing tWalk).engine .discharge).state = .asking ∧
      4000 ≤ ((tAgeing tWalk).engine .discharge).ageingClock) ∧
    (((tAgeing (tConfirming .discharge)).engine .discharge).state = .confirming) := by
  simp only [Live, LinesFollow]
  decide +kernel

def tBlocked (p : Pool) : State := withPeers [tPeer 9 4 100 0] (tConfirming p)

/-- A confirm period at 2.5 s, with and without room. -/
theorem test_witness_ConfirmPeriodExpiryGrantsOrWithdraws :
    (Live (tBlocked .discharge) ∧ ((tBlocked .discharge).engine .discharge).state = .confirming ∧
      (tBlocked .discharge).fits .discharge = false) ∧
    (reached 2500 ((tBlocked .discharge).engine .discharge).phase = true) ∧
    (Live (tConfirming .supply) ∧ ((tConfirming .supply).engine Valve.makeup.pool).state = .confirming ∧
      reached 2500 ((tConfirming .supply).engine Valve.makeup.pool).phase = true ∧
      (tConfirming .supply).fits Valve.makeup.pool = true) := by
  simp only [Live, LinesFollow]
  decide +kernel
/-- No counter crosses, so any two that do are one. -/
theorem test_witness_nameLast : ∀ c d : Counter,
    (tRun.stats.counter c).toNat < (tRun.stats.counter c).toNat ∨
      ((tRun.stats.counter c).toNat < 2 ^ 31 ∧ 2 ^ 31 ≤ (tRun.stats.counter c).toNat) →
    (tRun.stats.counter d).toNat < (tRun.stats.counter d).toNat ∨
      ((tRun.stats.counter d).toNat < 2 ^ 31 ∧ 2 ^ 31 ≤ (tRun.stats.counter d).toNat) → c = d := by
  intro c d h _
  omega

def tDue (k : Nat) : State :=
  { withBio (fun b => { b with cycle := .due, interval := none, overdue := some 0 }) (tConfirming .biocide) with
    meas := { tRun.meas with derived := tKappa k } }
def tDueNoDrop : State := { tDue 9000 with station := { tRun.station with cfg := { tCfg with prebleedDrop := 0 } } }
/-- At the target with DISCHARGE in a given state and its valve seen closed, and in HOLDING with the valve seen open. -/
def tDueWith (e : EngineState) : State := withEngine .discharge (fun _ => tEngine .discharge e) (tDue 2040)
def tDueFlowing : State := withValve .blowdown (fun r => { r with commanded := .opened, settled := .opened }) (tDueWith .holding)

/-- In DUE above the target by one, at the target in each state of DISCHARGE, with no drop; and outside DUE. -/
theorem test_witness_BiocideGrantStartsPrebleed :
    ((tDue 2041).held = none ∧ (tDue 2041).stats.counters.length = 20 ∧
      ((tDue 2041).engine .biocide).state = .confirming ∧ reached 2500 ((tDue 2041).engine .biocide).phase = true) ∧
    ((tDue 2041).fits .biocide = true ∧ (tDue 2041).bio.cycle = .due ∧ 0 < (tDue 2041).station.cfg.prebleedDrop) ∧
    ((tDue 2041).meas.derived.k25B = some 2041 ∧ roundDiv (tCfg.sp * (100 - tCfg.prebleedDrop)) 100 < 2041) ∧
    ((tDue 2040).fits .biocide = true ∧ (tDue 2040).bio.cycle = .due ∧ ∃ k ∈ (tDue 2040).meas.derived.k25B,
      k ≤ roundDiv (tCfg.sp * (100 - tCfg.prebleedDrop)) 100) ∧
    (∀ e ∈ [EngineState.rest, .asking, .confirming, .holding, .releasing, .stuck, .locked],
      (tDueWith e).fits .biocide = true ∧ (tDueWith e).bio.cycle = .due ∧ ((tDueWith e).engine .discharge).state = e ∧
      ((tDueWith e).engine .discharge).need = (tDueWith e).demand.dDemand) ∧
    ((tDueWith .holding).out.blowdown.seenClosed = true ∧ (tDueFlowing).out.blowdown.seenClosed = false) ∧
    (tDueNoDrop.station.cfg.prebleedDrop = 0 ∧ tDueNoDrop.fits .biocide = true) ∧
    ((tConfirming .biocide).bio.cycle ≠ .due ∧ (tConfirming .biocide).fits .biocide = true) := by
  decide +kernel

def tSeenClosed (v : Valve) : State := withValve v (fun r => { r with settled := .closed }) (tHolding v)

/-- The minimum run just over, the maximum run reached; the valve seen open and seen closed, and that in CLOSING. -/
theorem test_witness_RunLimitsReleaseTheValve :
    (Live (tHolding .blowdown) ∧ ((tHolding .blowdown).engine .discharge).state = .holding ∧
      (tHolding .blowdown).bio.cycle ≠ .closing) ∧
    (((tHolding .blowdown).engine .discharge).releaseDeferred = true ∧
      20000 ≤ (tHolding .blowdown).now - ((tHolding .blowdown).engine .discharge).holdStart.getD 0) ∧
    (reached ((tHolding .makeup).station.cfg.maxRun .supply) ((tHolding .makeup).engine .supply).maxRun = true) ∧
    (Live (tSeenClosed .makeup) ∧ ((tSeenClosed .makeup).valve .makeup).seenClosed = true ∧
      ((tSeenClosed .makeup).engine .supply).state = .holding) ∧
    (let s := withBio (fun b => { b with cycle := .closing }) (tSeenClosed .blowdown)
     Live s ∧ s.inRun = true ∧ (s.engine .discharge).state = .holding ∧ (s.engine .discharge).releaseDeferred = true ∧
       (s.engine .discharge).need = false ∧ (s.valve .blowdown).seenClosed = true) ∧
    (let s := withEngine .discharge (fun e => { e with need := true })
      (withBio (fun b => { b with cycle := .closing }) (tSeenClosed .blowdown))
     Live s ∧ s.inRun = true ∧ (s.engine .discharge).state = .holding ∧ (s.engine .discharge).need = true ∧
       (s.valve .blowdown).seenClosed = true) := by
  simp only [Live, LinesFollow]
  decide +kernel

/-- A table in order, this station before and behind it. -/
theorem test_witness_WalkAdmitsByRank :
    (TableInOrder tWalk) ∧
    (tWalk.fitsIn .discharge .asking 100 = true ∧ tWalk.fitsIn .discharge .asking 99 = false) ∧
    ((tWalk.engine .discharge).state = .asking ∧ ((tConfirming .supply).engine .supply).state = .confirming ∧
      ((tHolding .makeup).engine .supply).state = .holding) := by
  simp only [TableInOrder]
  decide +kernel

def tJoin (l : List PeerEntry) (seq : Byte) : State := queued (tReport 9 seq 3 40 120) (withPeers l tRun)
def tKnown : State := tJoin [{ tPeer 9 0 0 0 with mismatch := true }] 254

/-- A REPORT of station 9, holding nothing or 40 of a DISCHARGE cap of 100, processed while this one is in a state. -/
def tMeet (code : Byte) (s : State) : State := queued (tReport 9 1 code 40 120) s
def tWindowOver (s : State) : State := withEngine .discharge (fun e => { e with windowExpired := true, phase := none }) s
/-- A claim of 40 on DISCHARGE beside which a station 8 holds 80 of the 100 that its own cap allows. -/
def tFullPool (s : State) : State := withPeers [tPeer 8 4 80 120] s
def tBiocideHolds (c : Cycle) : State :=
  withBio (fun b => { b with cycle := c })
    (withEngine .biocide (fun e => { e with state := .holding, amount := 9 }) (tMeet 0 tRun))

/-- The premises of the evaluations, and each engine state they act on, with and without room. -/
theorem test_witness_EvaluationsMade :
    (tRun.stats.counters.length = 20 ∧ tRun.bio.cycle ≠ .closing) ∧
    (let s := tMeet 0 (tWindowOver (tAsking .discharge))
     let u := evaluatedOn s (after (.reportProcessed 4) s)
     (u.engine .discharge).state = .asking ∧ (u.engine .discharge).windowExpired = true ∧ u.fits .discharge = true) ∧
    (let s := tMeet 4 (tFullPool (tConfirming .discharge))
     let u := evaluatedOn s (after (.reportProcessed 4) s)
     (u.engine .discharge).state = .confirming ∧ u.fits .discharge = false) ∧
    (let s := tMeet 4 (tFullPool (tHolding .blowdown))
     let u := evaluatedOn s (after (.reportProcessed 4) s)
     (u.engine .discharge).state = .holding ∧ u.fits .discharge = false) ∧
    (let s := tBiocideHolds .dosing
     let u := evaluatedOn s (withPeers [tPeer 9 0 0 0] s).recomputeCaps
     (u.engine .biocide).state = .holding ∧ u.fits .biocide = false ∧ u.bio.cycle.abortable = true) ∧
    (tBiocideHolds .contact).bio.cycle.abortable = false := by
  decide +kernel

/-- An empty slot, a repeat, the last number of the table, and a table with its mismatch. -/
theorem test_witness_ReportReplacesTheEntryAlone :
    ((tJoin [] 1).held = none ∧ (tJoin [] 1).station.state.reporting = true ∧
      (tJoin [] 1).line.rxQueue = tReport 9 1 3 40 120 :: []) ∧
    (byteAt (tReport 9 1 3 40 120) 1 = 1 ∧ nat1At (tReport 31 1 3 40 120) 2 < 32 ∧
      nat1At (tReport 9 1 3 40 120) 2 ≠ tRun.station.number) ∧
    ((tJoin [] 1).peerAt 9 = none ∧ (tKnown.peerAt 9).map PeerEntry.lastSeq = some 254) ∧
    (Live tKnown ∧ (tKnown.peerAt 9).isSome = true ∧ tKnown.capMismatch = true) ∧
    ((tKnown.engine .discharge).state.passive = true ∧ (tKnown.engine .supply).state.passive = true ∧
      (tKnown.engine .biocide).state.passive = true) := by
  simp only [Live, LinesFollow]
  decide +kernel

/-- Source 32; QUIET and CONFIG FAULT; a LEAVING from an empty slot. -/
theorem test_witness_DiscardedFrameChangesNothing :
    (Live (queued (tReport 32 0 0 0 0) tRun) ∧ 32 ≤ nat1At (tReport 32 0 0 0 0) 2 ∧
      (queued (tReport 32 0 0 0 0) tRun).station.state ≠ .start) ∧
    (Live (inState .quiet (queued (tReport 31 0 0 0 0) tRun)) ∧ nat1At (tReport 31 0 0 0 0) 2 < 32) ∧
    (byteAt (tLeaving 9 0) 1 ≠ 1 ∧ nat1At (tLeaving 9 0) 2 ≠ tRun.station.number ∧
      tRun.peerAt (nat1At (tLeaving 9 0) 2) = none ∧
      tRun.station.state.reporting = true) := by
  simp only [Live, LinesFollow]
  decide +kernel

def tEntry (age : Nat) : PeerEntry := { tPeer 9 0 0 0 with age := age }
def tEntryAt (age : Nat) : State := queued (tLeaving 9 1) (withPeers [tEntry age] tRun)

/-- A LEAVING of an entry, an age of 6 s and one of 20 s. -/
theorem test_witness_EntriesAgeAndLeave :
    ((tEntryAt 0).held = none ∧ (tEntryAt 0).line.rxQueue = tLeaving 9 1 :: [] ∧ byteAt (tLeaving 9 1) 1 ≠ 1 ∧
      nat1At (tLeaving 9 1) 2 = 9) ∧
    (((tEntryAt 0).peerAt 9).isSome = true ∧ (tEntryAt 0).station.state.reporting = true ∧
      9 ≠ (tEntryAt 0).station.number) ∧
    ((tEntryAt 6000).peerAt 9 = some (tEntry 6000) ∧ (tEntry 6000).freshness = .fresh ∧ 6000 ≤ (tEntry 6000).age) ∧
    ((tEntryAt 20000).peerAt 9 = some (tEntry 20000) ∧ 20000 ≤ (tEntry 20000).age) := by
  decide +kernel

def tRestarting (s : State) : State := { s with station := { s.station with restartPending := true } }

/-- The own number, without and with a RESTART awaiting its LEAVING. -/
theorem test_witness_DuplicateGoesQuiet :
    ((queued (tReport 4 0 0 0 0) tRun).held = none ∧ nat1At (tReport 4 0 0 0 0) 2 = tRun.station.number ∧
      nat1At (tReport 4 0 0 0 0) 2 < 32) ∧
    ((queued (tReport 4 0 0 0 0) tRun).station.state.reporting = true ∧
      (queued (tReport 4 0 0 0 0) tRun).station.restartPending = false) ∧
    ((tRestarting (queued (tLeaving 4 0) tRun)).station.restartPending = true ∧
      (tRestarting (queued (tLeaving 4 0) tRun)).line.rxQueue = tLeaving 4 0 :: []) := by
  decide +kernel

def tRx (m : RxMode) : State := withLine (fun l => { l with rxMode := m }) tRun
def tQueue (n : Nat) : State := withLine (fun l => { l with rxQueue := List.replicate n (tLeaving 9 0) }) tRun
/-- A frame of another kind, and ones of a wrong length or source, each with its CRC. -/
def tOther (kind source : Byte) : List RxChar := chars ([0xB4, kind, source, 0, 0] ++ crcBytes [kind, source, 0, 0])

/-- Each receiver mode, each verdict, a quiet time at the limit and below, the 31st and the 32nd character, three and four
queued frames. -/
theorem test_witness_FrameEndCountsOrQueues :
    (Live (tRx .skip) ∧ Live (tRx .ownEcho) ∧ Live (tRx .off) ∧ Live (tRx .ownDamaged) ∧
      (tRx .skip).line.sending = false ∧
      (tRx .skip).station.state ≠ .start) ∧
    (19200 * (tHeard [] 1041).quietMicros < 20000000 ∧ 20000000 ≤ 19200 * (tHeard [] 1042).quietMicros ∧ tRun.line.rxMode = .collect ∧
      tRun.line.rxChars ++ (tHeard [] 1042).chars.map rxChar = []) ∧
    (let long (b : List Byte) := 31 < ((tCollecting b).line.rxChars ++ (tHeard [0] 1042).chars.map rxChar).length
     Live (tCollecting (List.replicate 31 0)) ∧ long (List.replicate 31 0) ∧ ¬ long (List.replicate 30 0) ∧
      Live (withLine (fun l => { l with rxTooLong := true }) tRun)) ∧
    (frameVerdict (chars [0xB4]) = .damaged ∧ frameVerdict (tOther 3 9) = .foreign ∧
      frameVerdict (tOther 1 9) = .damaged ∧
      frameVerdict (tOther 2 0) = .foreign ∧ frameVerdict (tOther 2 9) = .good) ∧
    (Live (tQueue 3) ∧ (tQueue 3).line.rxQueue.length < 4) ∧
    (Live (tQueue 4) ∧ 4 ≤ (tQueue 4).line.rxQueue.length) := by
  simp only [Live, LinesFollow]
  decide +kernel

/-- QUIET, a LEAVING composed, and the three fillings of the slots. -/
theorem test_witness_ComposedReportTakesItsSlot :
    ((inState .quiet tRun).station.state.reporting = false) ∧
    ((withLine (fun l => { l with leavingComposed := true }) tRun).line.leavingComposed = true) ∧
    (tRun.station.state.reporting = true ∧ tRun.line.leavingComposed = false ∧ tRun.line.onLine = none ∧
      tRun.line.nextSlot = none) ∧
    ((tSending .report 0).line.onLine.isSome = true ∧ (tSending .report 0).line.nextSlot = none ∧
      (tSending .report 0).station.state.reporting = true) ∧
    ((withLine (fun l => { l with nextSlot := some (tFrame .report) }) (tSending .report 0)).line.nextSlot.isSome = true) := by
  decide +kernel

/-- The timer at 2 s; no engine with its window expired, and one that fits. -/
theorem test_witness_ReportTimerComposesAndEvaluates :
    (tRun.held = none ∧ reached 2000 tRun.line.reportTimer = true) ∧
    ((tRun.engine .discharge).windowExpired = false ∧ (tRun.engine .supply).windowExpired = false ∧
      (tRun.engine .biocide).windowExpired = false) ∧
    ((withEngine .discharge (fun e => { e with windowExpired := true }) (tAsking .discharge)).fits .discharge = true) := by
  decide +kernel

/-- The quiet time at its limit and below; the seventh and the eighth failure; each kind of frame. -/
theorem test_witness_AttemptsWaitRetryAndLose :
    (Live tWaiting ∧ tWaiting.line.onLine = some (tOnLine .report 1 false) ∧
      10000000 * (4 + tWaiting.station.number + 8 * 1) ≤ 19200 * 8334 ∧
      19200 * 8333 < 10000000 * (4 + tWaiting.station.number + 8 * 1)) ∧
    (Live (tSending .report 6) ∧ (tSending .report 6).line.onLine = some (tOnLine .report 6 true) ∧ 6 + 1 < 8 ∧
      (tSending .report 6).line.nextSlot = none) ∧
    ((tOnLine .report 6 true).bytes = [] ++ 0xB4 :: (tOnLine .report 6 true).bytes.drop 1 ∧
      (tOnLine .report 6 true).bytes = (tOnLine .report 6 true).bytes.take 6 ++ (byteAt (tOnLine .report 6 true).bytes 6) :: [] ∧
      (none : EchoChar).map rxChar ≠ some { byte := 0xB4, framingError := false } ∧
      (some (0#1 ++ 0xB4#8 ++ 0#1) : EchoChar).map rxChar ≠ some { byte := 0xB4, framingError := false }) ∧
    ((withLine (fun l => { l with nextSlot := some (tFrame .report) }) (tSending .report 6)).line.nextSlot = some (tFrame .report)) ∧
    (Live (tSending .report 7) ∧ 8 ≤ (tOnLine .report 7 true).failures + 1 ∧
      (tOnLine .report 7 true).frame.kind = .report) ∧
    (Live (tSending .leaving 7) ∧ (tSending .leaving 7).line.onLine = some (tOnLine .leaving 7 true) ∧
      (tOnLine .leaving 7 true).frame.kind = .leaving ∧ (tSending .leaving 7).stats.counters.length = 20) := by
  simp only [Live, LinesFollow]
  decide +kernel

def tIsolated : State := inState .isolated (tSending .report 0)

/-- A REPORT in RUN and in ISOLATED, and a LEAVING. -/
theorem test_witness_DeliveryAdvancesTheNumber :
    (Live (tSending .report 0) ∧ (tSending .report 0).line.onLine = some (tOnLine .report 0 true) ∧
      (tOnLine .report 0 true).sending = true ∧ (tSending .report 0).station.state ≠ .isolated) ∧
    (Live tIsolated ∧ tIsolated.station.state = .isolated) ∧
    (Live (tSending .leaving 0) ∧ (tOnLine .leaving 0 true).frame.kind = .leaving ∧
      (tSending .leaving 0).stats.counters.length = 20) := by
  simp only [Live, LinesFollow]
  decide +kernel

/-- LISTEN at its end, a need waiting; the delivery timer at 10 s, a cycle in DOSING and one idle; HOLD. -/
theorem test_witness_StationTimersMoveTheStation :
    (tListen.held = none ∧ tListen.station.state = .listen ∧ tListen.station.listen = some 0) ∧
    ((withEngine .supply (fun e => { e with need := true }) tListen).station.listen = some 0) ∧
    (tRun.held = none ∧ tRun.station.state = .run ∧ reached 10000 tRun.line.deliveryTimer = true ∧
      tRun.bio.cycle.abortable = false) ∧
    (tDosing.bio.cycle.abortable = true ∧ reached 10000 tDosing.line.deliveryTimer = true) ∧
    ((inState .hold tRun).station.state = .hold) := by
  decide +kernel

/-- A valve in each check, its feedback about to change. -/
theorem test_witness_FeedbackFollowsTheCheck :
    (Live (tUnopened .makeup) ∧ (tUnopened .makeup).station.state.working = true ∧
      ((tUnopened .makeup).valve .makeup).feedbackPresent = true) ∧
    (((tUnopened .makeup).valve .makeup).settled = .closed ∧ ((tUnopened .makeup).valve .makeup).check = .openCheck) ∧
    (Live (tHolding .makeup) ∧ ((tHolding .makeup).valve .makeup).settled = .opened ∧
      ((tHolding .makeup).valve .makeup).check = .none ∧ ((tHolding .makeup).valve .makeup).commanded = .opened) ∧
    (((withValve .makeup (fun r => { r with settled := .closed }) (tReleasing .makeup)).valve .makeup).check = .closeCheck) ∧
    (((withValve .makeup (fun r => { r with settled := .opened }) tRun).valve .makeup).commanded = .closed) := by
  simp only [Live, LinesFollow]
  decide +kernel

def tClosing (s : State) : State :=
  withBio (fun b => { b with cycle := .closing, interval := none, overdue := some 0 })
    (withEngine .biocide (fun e => { e with state := .holding }) { s with demand := { s.demand with suppress := true } })
/-- A release in CLOSING whose re-ask mark stands for a need; no run reaches it (NoBlowdownDuringTheDose). -/
def tMarked : State := withEngine .discharge (fun e => { e with reask := true, need := true }) (tClosing (tReleasing .blowdown))

/-- A closed valve whose engine rests, outside CLOSING and in it. -/
theorem test_witness_UnbiddenOpeningSticks :
    (Live tRun ∧ tRun.station.state.working = true ∧ (tRun.valve .makeup).feedbackPresent = true ∧
      (tRun.valve .makeup).settled = .closed) ∧
    ((tRun.valve .makeup).check = .none ∧ (tRun.valve .makeup).commanded = .closed ∧
      (tRun.engine .supply).state ≠ .holding ∧
      (tRun.engine .supply).state ≠ .releasing ∧ (tRun.engine .supply).state ≠ .stuck) ∧
    (Live (tClosing tRun) ∧ (tClosing tRun).bio.cycle = .closing ∧
      ((tClosing tRun).valve .blowdown).settled = .closed ∧ ((tClosing tRun).valve .blowdown).check = .none) := by
  simp only [Live, LinesFollow]
  decide +kernel

/-- A valve in its close check and in its close watch, outside CLOSING and in it. -/
theorem test_witness_SeenClosedEndsTheRelease :
    (Live (tReleasing .makeup) ∧ ((tReleasing .makeup).valve .makeup).feedbackPresent = true ∧
      ((tReleasing .makeup).valve .makeup).settled = .opened ∧
      ((tReleasing .makeup).valve .makeup).check = .closeCheck) ∧
    (((tReleasing .makeup).engine .supply).state = .releasing ∧ (tReleasing .makeup).station.state.working = true) ∧
    (Live (tStuck .makeup) ∧ ((tStuck .makeup).valve .makeup).check = .closeWatch ∧
      ((tStuck .makeup).engine .supply).state = .stuck) ∧
    ((tClosing (tReleasing .blowdown)).held = none ∧
      (tClosing (tReleasing .blowdown)).out.blowdown.settled = .opened ∧
      (tClosing (tReleasing .blowdown)).out.blowdown.check = .closeCheck) ∧
    ((tClosing (tReleasing .blowdown)).bio.cycle = .closing ∧ (tClosing (tReleasing .blowdown)).demand.suppress = true ∧
      ((tClosing (tReleasing .blowdown)).engine .discharge).need = false ∧
      ((tClosing (tReleasing .blowdown)).engine .discharge).state = .releasing ∧
      ((tClosing (tReleasing .blowdown)).engine .discharge).reasks (tClosing (tReleasing .blowdown)) = false) ∧
    (Live tMarked ∧ tMarked.bio.cycle = .closing ∧ (tMarked.engine .discharge).reasks tMarked = true) ∧
    (((tClosing (tStuck .blowdown)).engine .discharge).state = .stuck ∧
      (tClosing (tStuck .blowdown)).out.blowdown.check = .closeWatch) := by
  simp only [Live, LinesFollow]
  decide +kernel

def tNoFeedbackB : State := withValve .blowdown (fun r => { r with feedbackPresent := false }) (tReleasing .blowdown)
def tNoFeedback : State := withValve .makeup (fun r => { r with feedbackPresent := false }) (tReleasing .makeup)

/-- The confirm time reached: an open check, a close check, and one without feedback. -/
theorem test_witness_ConfirmTimeDecides :
    (Live (tUnopened .makeup) ∧
      reached ((tUnopened .makeup).station.cfg.confirmTime * 1000) ((tUnopened .makeup).valve .makeup).timer = true ∧ ((tUnopened .makeup).valve .makeup).check = .openCheck) ∧
    (((tUnopened .makeup).valve .makeup).seenClosed = true ∧ ((tUnopened .makeup).engine .supply).state = .holding) ∧
    (249 < 250 ∧ 250 ≤ 250) ∧
    (Live (tReleasing .blowdown) ∧
      reached (tCfg.confirmTime * 1000) ((tReleasing .blowdown).valve .blowdown).timer = true ∧
      (tReleasing .blowdown).bio.cycle ≠ .closing) ∧
    (((tReleasing .blowdown).valve .blowdown).check = .closeCheck ∧
      ((tReleasing .blowdown).valve .blowdown).settled = .opened ∧
      ((tReleasing .blowdown).engine .discharge).state = .releasing) ∧
    (Live tNoFeedback ∧ (tNoFeedback.valve .makeup).feedbackPresent = false ∧
      (tNoFeedback.valve .makeup).check = .closeCheck ∧ (tNoFeedback.valve .makeup).commanded = .closed) ∧
    ((tClosing (tReleasing .blowdown)).held = none ∧
      reached (tCfg.confirmTime * 1000) (tClosing (tReleasing .blowdown)).out.blowdown.timer = true ∧
      (tClosing (tReleasing .blowdown)).out.blowdown.check = .closeCheck) ∧
    ((tClosing tNoFeedbackB).out.blowdown.feedbackPresent = false ∧ (tClosing tNoFeedbackB).demand.suppress = true ∧
      ((tClosing tNoFeedbackB).engine .discharge).need = false ∧
      ((tClosing tNoFeedbackB).engine .discharge).reasks (tClosing tNoFeedbackB) = false ∧
      (tClosing tNoFeedbackB).out.blowdown.commanded = .closed) ∧
    (let s := withValve .blowdown (fun r => { r with feedbackPresent := false }) tMarked
     Live s ∧ (s.valve .blowdown).check = .closeCheck ∧ (s.engine .discharge).reasks s = true) ∧
    (let s := tClosing (tUnopened .blowdown)
     s.held = none ∧ s.bio.cycle = .closing ∧ s.out.blowdown.check = .openCheck ∧ s.out.blowdown.seenClosed = true ∧
       (s.engine .discharge).state = .holding ∧ reached (tCfg.confirmTime * 1000) s.out.blowdown.timer = true) := by
  simp only [Live, LinesFollow]
  decide +kernel

def tBalance (m b : Nat) (c : Option Nat) : State :=
  withFeed (fun f => { f with makeupAcc := m, blowdownAcc := b })
    { tRun with meas := { tRun.meas with derived := { tRun.meas.derived with coc := c } } }
def tEarning : State := tPassed tHalfStroke

/-- A pulse below the interval and at it: no blowdown, no cycles, within and beyond the tolerance; a stroke given; the cap. -/
theorem test_witness_MakeupPulseCountsFeedsAndBalances :
    (tRun.held = none ∧ tRun.station.state.working = true ∧ tRun.feed.makeupLevel ≠ true ∧
      edgePulse tRun.station.cfg.edgeMakeup true = true ∧ tRun.station.cfg.debounce ≤ 20 ∧
      tRun.stats.counters.length = 20) ∧
    ((tBalance 19980 0 none).feed.makeupAcc + tCfg.kM < tCfg.balanceInterval * 100) ∧
    (tCfg.balanceInterval * 100 ≤ (tBalance 19990 0 none).feed.makeupAcc + tCfg.kM ∧
      (tBalance 19990 0 none).feed.blowdownAcc = 0) ∧
    (0 < (tBalance 19990 3500 none).feed.blowdownAcc ∧ (tBalance 19990 3500 none).meas.derived.coc = none) ∧
    (absDiff (min 2500 (roundDiv (20000 * 100) 3500)) 577 * 100 ≤ tCfg.tolerance * 577) ∧
    (tCfg.tolerance * 400 < absDiff (min 2500 (roundDiv (20000 * 100) 3500)) 400 * 100) ∧
    (tHalfStroke.feed.strokePassed = false ∧ tHalfStroke.feed.strokeClock = some 2000) ∧
    (tEarning.feed.owed < (tEarning.feed.earn (tCfg.kM * tCfg.milliPerLitre)).owed ∧
      tEarning.feed.strokePassed = true) ∧
    (249 + (700 + 1299) / 1000 ≤ 250 ∧ 250 < 249 + (700 + 1300) / 1000) := by
  decide +kernel

/-- A falling edge that is no pulse, and a rising one. -/
theorem test_witness_BlowdownPulseCounts :
    (Live tRun ∧ tRun.station.state.working = true ∧ tRun.feed.level .blowdown ≠ true ∧
      edgePulse tCfg.edgeBlowdown true = true ∧ 19 < tCfg.debounce ∧ tCfg.debounce ≤ 20) ∧
    ((withFeed (fun f => { f with blowdownLevel := true }) tRun).feed.level .blowdown ≠ false ∧
      edgePulse (edgeMode tCfg .blowdown) false = false) := by
  simp only [Live, LinesFollow]
  decide +kernel

def tWatched (t : NoFlowWatch) : State := withFeed (fun f => { f with noFlow := some t }) (tHolding .blowdown)

/-- Each clock at its limit; a watch tested, raised, neither; a ring with and without litres; the last owed stroke. -/
theorem test_witness_FeedClocksRun :
    (Live tRun ∧ reached 5000 tRun.feed.slotClock = true ∧ tRun.feed.noFlow = none) ∧
    (Live (tWatched ⟨60000, false, true⟩) ∧
      (tWatched ⟨60000, false, true⟩).feed.noFlow = some ⟨60000, false, true⟩ ∧
      (tWatched ⟨60000, false, true⟩).feed.blowdownRing.sum = 0) ∧
    (Live (tWatch 60000) ∧ (tWatch 60000).feed.noFlow = some ⟨60000, false, false⟩) ∧
    (Live (tOwed 1) ∧ reached (tCfg.strokeInterval * 1000) (tOwed 1).feed.strokeClock = true ∧
      (tOwed 1).feed.backlog = true ∧ (tOwed 1).station.state ≠ .hold) ∧
    (Live (tOwed 0) ∧ (tOwed 0).feed.owed = 0 ∧ (tOwed 0).feed.strokePassed = false) ∧
    (Live (tPassed (tOwed 1)) ∧ (tPassed (tOwed 1)).feed.strokePassed = true) ∧
    (Live tPulse ∧ reached 200 tPulse.out.inhibitorPulse = true) := by
  simp only [Live, LinesFollow]
  decide +kernel

/-- IDLE with its interval over, and BIOCIDE NOW in RUN, in HOLD and in DUE. -/
theorem test_witness_CycleFallsDue :
    (Live tRun ∧ tRun.bio.cycle = .idle ∧ (tRun.engine .biocide).state = .rest ∧
      (tRun.engine .biocide).need = false ∧ tRun.bio.interval = some 0) ∧
    (Posted (withPost .biocideNow tRun) .biocideNow ∧ (withPost .biocideNow tRun).inRun = true ∧
      Live (withPost .biocideNow tRun)) ∧
    (Live (inState .hold (withPost .biocideNow tRun)) ∧ (inState .hold tRun).station.state ≠ .run) ∧
    ((tDue 0).bio.cycle ≠ .idle) := by
  simp only [Live, LinesFollow, Posted]
  decide +kernel

def tPrebleedAt (st : EngineState) : State := withEngine .discharge (fun e => { e with state := st }) tPrebleed
def tPrebleedOpen : State := withValve .blowdown (fun r => { r with commanded := .opened, settled := .opened }) (tPrebleedAt .holding)

/-- The limit reached, the DISCHARGE engine in every state, its valve open and seen closed. -/
theorem test_witness_PrebleedLimitClosesBlowdown :
    (tPrebleed.held = none ∧ tPrebleed.station.state.working = true ∧ tPrebleed.bio.cycle = .prebleed ∧
      tPrebleed.bio.phase = some 0) ∧
    ((tPrebleed.engine .discharge).need = tPrebleed.demand.dDemand ∧ (tPrebleed.engine .discharge).state = .rest) ∧
    ((tPrebleedOpen.engine .discharge).state = .holding ∧ tPrebleedOpen.out.blowdown.seenClosed = false ∧
      (tPrebleedOpen.engine .discharge).need = tPrebleedOpen.demand.dDemand) ∧
    (((tPrebleedAt .holding).engine .discharge).state = .holding ∧
      (tPrebleedAt .holding).out.blowdown.seenClosed = true) ∧
    (((tPrebleedAt .releasing).engine .discharge).state = .releasing ∧
      ((tPrebleedAt .asking).engine .discharge).state = .asking ∧
      ((tPrebleedAt .confirming).engine .discharge).state = .confirming) ∧
    (((tPrebleedAt .locked).engine .discharge).state = .locked ∧
      ((tPrebleedAt .stuck).engine .discharge).state = .stuck) := by
  decide +kernel

/-- DOSING with its time over. -/
theorem test_witness_DoseEndsInContact :
    (Live tDosing ∧ tDosing.station.state.working = true ∧ tDosing.bio.cycle = .dosing ∧ tDosing.bio.phase = some 0) ∧
    ((tDosing.engine .biocide).state = .holding ∧ (tDosing.engine .biocide).need = false) := by
  simp only [Live, LinesFollow]
  decide +kernel

/-- CONTACT with its time over. -/
theorem test_witness_ContactEndsTheCycle :
    (tContact.held = none ∧ tContact.station.state.working = true ∧ tContact.bio.cycle = .contact ∧
      tContact.bio.phase = some 0) ∧
    ((tContact.engine .discharge).need = tContact.demand.dDemand ∧ tContact.demand.dDemand = false ∧
      (tContact.engine .discharge).state = .rest) := by
  decide +kernel

/-- Counters 1 and 20, slots 1 and 31, an index beyond the range. -/
theorem test_witness_ReadsReturnTheirRecord :
    (Live tRun ∧ tRun.stats.histogram.length = 15) ∧
    (1 ≤ (1 : Byte).toNat ∧ (20 : Byte).toNat ≤ 20 ∧ (31 : Byte).toNat ≤ 31) ∧
    (recordIndexInRange 4 0 = false ∧ recordIndexInRange 5 21 = false ∧ recordIndexInRange 12 0 = false) := by
  simp only [Live, LinesFollow]
  decide +kernel

/-- Transactions at the ends of their ranges, ended early, and of an unknown first byte. -/
theorem test_witness_TransactionsNameTheirCommand :
    ((1 : Byte).toNat = 1 ∧ (31 : Byte).toNat ≤ 31 ∧ (20 : Byte).toNat ≤ 20 ∧ recordIndexInRange 4 32 = false ∧
      recordIndexInRange 3 2 = true ∧ recordIndexInRange 11 0 = true ∧ recordIndexInRange 0 0 = false) ∧
    (([1, 5] : List Byte).headD 0 = 1 ∧ ([1, 5] : List Byte).length < 3 ∧ ([2, 5, 0, 0, 0] : List Byte).length < 6) ∧
    ((0 : Byte) ≠ 1 ∧ (4 : Byte) ≠ 3 ∧ transactionCommand [3, 0] = some .readMailbox) ∧
    ([true, false, true, true, false, false, true] : List Bool).length < 8 := by
  decide +kernel

/-- A full and an empty mailbox; codes 0, 9, 8 and 6; each refusal. -/
theorem test_witness_MailboxStoresAndRefuses :
    (Live (withPost .hold tRun) ∧ (withPost .hold tRun).port.mailbox.state = .pending) ∧
    (Live tRun ∧ tRun.port.mailbox.state ≠ .pending) ∧
    (8 < (9 : Byte).toNat ∧ (8 : Byte).toNat ≤ 8 ∧ (8 : Byte) ≠ 6 ∧ (1 : Word32) ≠ 0) ∧
    (Live (inState .quiet (withPost .hold tRun)) ∧ Posted (inState .quiet (withPost .hold tRun)) .hold) ∧
    (Live (withPost .resume tRun) ∧ Posted (withPost .resume tRun) .resume ∧
      (withPost .resume tRun).station.state ≠ .hold) ∧
    (Live (withPost .lineRestart State.reset) ∧ Posted (withPost .lineRestart State.reset) .lineRestart ∧
      State.reset.station.state = .start) ∧
    (Live (withPost .restart State.reset) ∧ Posted (withPost .restart State.reset) .restart) := by
  simp only [Live, LinesFollow, Posted]
  decide +kernel

/-- ACKNOWLEDGE with an engine in LOCKED, outside CLOSING; the other two commands. -/
theorem test_witness_RecordCommandsAct :
    ((withPost .acknowledge tLocked).held = none ∧ Posted (withPost .acknowledge tLocked) .acknowledge ∧
      (withPost .acknowledge tLocked).bio.cycle ≠ .closing) ∧
    (Live (withPost .clearCounters tRun) ∧ Posted (withPost .clearCounters tRun) .clearCounters ∧
      (withPost .clearCounters tRun).port.clearedBy = none) ∧
    (Live (tClearedBy .statistics) ∧ Posted (tClearedBy .statistics) .clearCounters ∧ Live (tClearedBy .feed) ∧
      Posted (tClearedBy .feed) .clearCounters) ∧
    (Live (withPost .setMask tRun) ∧ (withPost .setMask tRun).port.mailbox.code = 6 ∧
      (withPost .setMask tRun).station.restartPending = false) := by
  simp only [Live, LinesFollow, Posted]
  decide +kernel

/-- HOLD from RUN, from ISOLATED, in DOSING and in HOLD; RESUME with a stroke owed. -/
theorem test_witness_HoldReleasesAndResumeListens :
    (Live (withPost .hold tRun) ∧ Posted (withPost .hold tRun) .hold ∧ (withPost .hold tRun).station.state = .run ∧
      tRun.bio.cycle.abortable = false) ∧
    (Live (withPost .hold (inState .isolated tRun)) ∧ (withPost .hold tDosing).bio.cycle.abortable = true ∧
      Live (withPost .hold tDosing)) ∧
    (Live (inState .hold (withPost .hold tRun))) ∧
    (Live (inState .hold (withPost .resume (tPassed (tOwed 1)))) ∧
      Posted (inState .hold (withPost .resume (tPassed (tOwed 1)))) .resume ∧ (tPassed (tOwed 1)).feed.strokePassed = true) := by
  simp only [Live, LinesFollow, Posted]
  decide +kernel

/-- An empty line and a frame on it. -/
theorem test_witness_LineRestartEmptiesTheLine :
    (Live (withPost .lineRestart tRun) ∧ Posted (withPost .lineRestart tRun) .lineRestart ∧
      tRun.line.onLine = none ∧ tRun.station.state ≠ .start) ∧
    (Live (withPost .lineRestart (tSending .report 0)) ∧
      (withPost .lineRestart (tSending .report 0)).line.onLine.isSome = true) := by
  simp only [Live, LinesFollow, Posted]
  decide +kernel

def tBothSlots : State := withLine (fun l => { l with nextSlot := some (tFrame .report) }) (tSending .report 0)

/-- QUIET, an engine STUCK, the other states, and the three fillings of the slots; each kind of cycle state. -/
theorem test_witness_RestartLeavesFirst :
    (Live (inState .quiet (withPost .restart tRun)) ∧ Posted (inState .quiet (withPost .restart tRun)) .restart ∧
      tRun.bio.cycle = .idle) ∧
    (Live (withPost .restart (tStuck .makeup)) ∧ ((tStuck .makeup).engine .supply).state = .stuck ∧
      (tStuck .makeup).station.state ≠ .start) ∧
    (Live (withPost .restart tRun) ∧ tRun.station.state = .run ∧ (tRun.engine .discharge).state = .rest ∧
      tRun.line.onLine = none ∧ tRun.line.nextSlot = none) ∧
    (Live (withPost .restart (tSending .report 0)) ∧ (tSending .report 0).line.nextSlot = none) ∧
    (Live (withPost .restart (tBothSlots)) ∧ Posted (withPost .restart tBothSlots) .restart ∧
      tBothSlots.line.onLine.isSome = true ∧ tBothSlots.line.nextSlot.isSome = true) ∧
    ((inState .quiet (withPost .restart tContact)).bio.cycle = .contact ∧
      Live (inState .quiet (withPost .restart tContact))) ∧
    ((inState .quiet (withPost .restart tDosing)).bio.cycle = .dosing ∧
      Live (inState .quiet (withPost .restart tDosing))) := by
  simp only [Live, LinesFollow, Posted]
  decide +kernel

/-- Sums at 2^31 and 2^32 and one below; every index of the cells. -/
theorem test_witness_CountersWrapAndTell :
    (Stats.cold.counters.length = 20 ∧ Stats.cold.histogram.length = 15 ∧ 1000 ≤ 1000) ∧
    (2 ^ 32 ≤ 4294967286 + 10 ∧ 4294967285 + 10 < 2 ^ 32) ∧
    (2147483638 < 2 ^ 31 ∧ 2 ^ 31 ≤ 2147483638 + 10 ∧ 2147483637 + 10 < 2 ^ 31) := by
  decide +kernel

/-- A list of two kinds. -/
theorem test_witness_EventsAndAlarmsLatch :
    (([{ kind := .probeFault, active := true, unack := false }, { kind := .isolated, active := false, unack := true }] : List AlarmEntry).map
      AlarmEntry.kind |>.Nodup) := by
  decide +kernel

def tFull : State :=
  { tRun with station := { tRun.station with number := 31 },
              meas := { tRun.meas with derived := { tRun.meas.derived with k25B := some 20000, coc := some 2500 } } }

/-- Station 31 with the largest values measured. -/
theorem test_witness_OwnReportIsReadAsComposed :
    (1 ≤ tFull.station.number ∧ tFull.station.number ≤ 31 ∧ tFull.meas.derived.k25B.getD 0 < 65536 ∧
      tFull.meas.derived.coc.getD 0 < 65536) ∧
    (∀ p, (tFull.engine p).amount < 65536 ∧ (tFull.engine p).heldUrgency < 256 ∧
      tFull.station.cfg.cap p < 65536) := by
  refine ⟨by decide +kernel, fun p => ?_⟩
  cases p <;> decide +kernel

/-- An image with every field in its range, which needs no repair. -/
theorem test_witness_ConfigRecordReloadsUnchanged :
    (∀ f ∈ imageFields, f.lo ≤ f.raw tImage ∧ f.raw tImage ≤ f.hi) ∧ (byteAt tImage 2).getLsbD 0 = true ∧
    nat2At tImage 20 < nat2At tImage 22 ∧ nat2At tImage 12 ≤ nat2At tImage 10 ∧
    nat2At tImage 50 ≤ nat2At tImage 44 ∧ nat2At tImage 52 ≤ nat2At tImage 46 ∧
    nat1At tImage 49 ≤ nat1At tImage 48 ∧ nat1At tImage 30 % 4 ≠ 3 ∧ nat1At tImage 30 / 4 % 4 ≠ 3 := by
  decide +kernel

/-! The invariants' hypotheses: a state in which each is true and says something, and a step from it. -/

/-- The blowdown valve open, HIGH CONDUCTIVITY latched, and a stroke owed. -/
def tBusy : State := (withFeed (fun f => { f with owed := 250, remainder := 999 }) (tHolding .blowdown)).driveLines

theorem step_idle {s : State} (h : s.pending = []) : step s = .next s.tick := by
  simp only [step, h]

theorem test_witness_LinesFollowAlways : LinesFollow (tRun.occur .isolated).driveLines ∧
    step (tRun.occur .isolated).driveLines = .next (tRun.occur .isolated).driveLines.tick := ⟨linesFollow_driveLines _, step_idle rfl⟩
theorem test_witness_PassiveOutsideRunAlways : PassiveOutsideRun (inState .hold tRun) ∧
    step (inState .hold tRun) = .next (inState .hold tRun).tick :=
  ⟨fun _ p => by cases p <;> rfl, step_idle rfl⟩
theorem test_witness_ValvesFollowEnginesAlways : OpenOnlyHolding tBusy ∧ ValvesMatch tBusy ∧
    step tBusy = .next tBusy.tick := by
  refine ⟨fun v => ?_, fun _ _ v => ?_, step_idle rfl⟩
  · cases v <;> decide +kernel
  · cases v
    · simp only [valveMatches, show (tBusy.engine Valve.blowdown.pool).state = .holding from by decide +kernel]
      decide +kernel
    · simp only [valveMatches, show (tBusy.engine Valve.makeup.pool).state = .rest from by decide +kernel]
      decide +kernel
theorem test_witness_DosePhasesAreHeldAlways : PassiveOutsideRun tDosing ∧ PhasesHeld tDosing ∧
      PumpOnlyDosing tDosing ∧
    step tDosing = .next tDosing.tick :=
  ⟨fun h => absurd rfl h, fun _ => rfl, fun _ => rfl, step_idle rfl⟩
theorem test_witness_BoundsHoldAlways : Bounded tBusy ∧ OneEntryPerKind tBusy ∧ step tBusy = .next tBusy.tick := by
  refine ⟨⟨by decide +kernel, by decide +kernel, by decide +kernel, by decide +kernel, fun p => ?_, by decide +kernel, by decide +kernel,
    by decide +kernel, by decide +kernel, by decide +kernel, by decide +kernel, by decide +kernel, by decide +kernel⟩, by simp only [OneEntryPerKind]; decide +kernel, step_idle rfl⟩
  cases p <;> decide +kernel
theorem test_witness_PeerTableStaysInOrder : TableInOrder tKnown ∧ QueueSourced tKnown ∧ TableOnlyReporting tKnown ∧
    step tKnown = .next tKnown.tick := by
  have h : (tKnown.station.state.reporting = false) = False := by decide +kernel
  refine ⟨?_, ?_, ?_, step_idle (by decide +kernel)⟩
  · simp only [TableInOrder]
    decide +kernel
  · simp only [QueueSourced]
    decide +kernel
  · simp only [TableOnlyReporting, h, false_implies]
theorem test_witness_CapsAreSmallestAlways : CapsSmallest tRun ∧ AmountsWithinOwn tRun ∧ UnloadedOutsideWork tRun ∧
    TableOnlyReporting tRun ∧ step tRun = .next tRun.tick := by
  have hp : tRun.peers = [] := by decide +kernel
  have hw : tRun.station.state.working = true := by decide +kernel
  refine ⟨fun p => ?_, fun p => ?_, fun h => ?_, fun _ => hp, step_idle (by decide +kernel)⟩
  · rw [hp]
    exact ⟨by cases p <;> decide +kernel, by simp, Or.inl (by cases p <;> decide +kernel)⟩
  · cases p <;> decide +kernel
  · rw [hw] at h
    exact absurd h (by decide)
theorem test_witness_OnLineFrameIsReadyAlways : OnLineFrameReady (tSending .report 7) ∧
    step (tSending .report 7) = .next (tSending .report 7).tick := by
  refine ⟨⟨fun o h => ?_, nofun⟩, step_idle rfl⟩
  cases h
  decide +kernel
/-- A release that ends in CLOSING. -/
theorem test_witness_NoBlowdownDuringTheDose :
    let u := tClosing (tReleasing .blowdown)
    let s := { u with pending := [.feedbackSettled .blowdown (stood .closed 250)] }
    DoseSealed s ∧ PassiveOutsideRun s ∧ PhasesHeld s ∧ UnloadedOutsideWork s ∧
    step s = .next (after (.feedbackSettled .blowdown (stood .closed 250)) u) := by
  intro u s
  have hw : s.station.state.working = true := by decide +kernel
  refine ⟨fun _ => by decide +kernel, fun h => absurd rfl h, fun _ => rfl, fun h => ?_, rfl⟩
  rw [hw] at h
  exact absurd h (by decide)
theorem test_witness_SequenceNumberAdvancesByOne : step { tRun with pending := [.readStation] } =
    .next (after .readStation tRun) := rfl

end Sys2Proof.Tests
end

section
/-! SUPPORT. The measurement unit's readings (R2 to R14): a code taken in each channel state, the window over a run of
good codes, the conversions of the derived set. -/

namespace Sys2Proof.Machine
open Sys2Proof

/-! ## Rounding and clamping -/

theorem mul_roundDiv_le (a b : Nat) : 2 * b * roundDiv a b ≤ 2 * a + b := Nat.mul_div_le _ _

theorem lt_mul_roundDiv_succ (a : Nat) {b : Nat} (hb : 0 < b) : 2 * a + b < 2 * b * (roundDiv a b + 1) :=
  Nat.lt_mul_div_succ _ (by omega)

theorem clampNat_eq_max_min {lo hi : Nat} (h : lo ≤ hi) (x : Nat) : clampNat lo hi x = max lo (min hi x) := by
  unfold clampNat
  split
  · omega
  · split <;> omega

/-! ## Codes (R2 to R6) -/

theorem railCode_iff (c : Nat) : railCode c = true ↔ c = 0 ∨ c = 4095 := by simp [railCode]

theorem railCode_eq_false_iff (c : Nat) : railCode c = false ↔ c ≠ 0 ∧ c ≠ 4095 := by simp [railCode]

/-- Section 1.1: a code of 1..4094 is a good code. -/
theorem railCode_eq_false_of_range {c : Nat} (h : 1 ≤ c ∧ c ≤ 4094) : railCode c = false :=
  (railCode_eq_false_iff c).2 (by omega)

theorem ChannelRec.take_good_rail {r : ChannelRec} {c : Nat} (hr : r.state = .good) (hc : railCode c = true) :
    r.take c = { r with state := .holding, holdTimer := 0 } := by
  simp only [ChannelRec.take, hr, hc, if_true]

theorem ChannelRec.take_holding_rail {r : ChannelRec} {c : Nat} (hr : r.state = .holding) (hc : railCode c = true) :
    r.take c = r := by
  simp only [ChannelRec.take, hr, hc, if_true]

theorem ChannelRec.take_joins {r : ChannelRec} {c : Nat} (hr : r.state = .good ∨ r.state = .holding)
    (hc : railCode c = false) : r.take c = r.joinGood c := by
  obtain hr | hr := hr <;> simp only [ChannelRec.take, hr, hc, Bool.false_eq_true, if_false]

theorem ChannelRec.take_fault_rail {r : ChannelRec} {c : Nat} (hr : r.state = .fault) (hc : railCode c = true) :
    r.take c = { r with recovery := 0 } := by
  simp only [ChannelRec.take, hr, hc, if_true]

theorem ChannelRec.take_fault_counts {r : ChannelRec} {c : Nat} (hr : r.state = .fault) (hc : railCode c = false)
    (hn : r.recovery + 1 < Config.recoveryCodes) : r.take c = { r with recovery := r.recovery + 1 } := by
  simp only [ChannelRec.take, hr, hc, Bool.false_eq_true, if_false, if_neg (Nat.not_le.2 hn)]

theorem ChannelRec.take_fault_recovers {r : ChannelRec} {c : Nat} (hr : r.state = .fault) (hc : railCode c = false)
    (hn : Config.recoveryCodes ≤ r.recovery + 1) : r.take c = r.recovered c := by
  simp only [ChannelRec.take, hr, hc, Bool.false_eq_true, if_false, if_pos hn]

/-- R6: good codes that do not complete the recovery are counted, and nothing else of the record changes. -/
theorem ChannelRec.foldl_take_fault {codes : List Nat} (hc : ∀ c ∈ codes, railCode c = false) {r : ChannelRec}
    (hr : r.state = .fault) (hn : r.recovery + codes.length < Config.recoveryCodes) :
    codes.foldl ChannelRec.take r = { r with recovery := r.recovery + codes.length } := by
  induction codes generalizing r with
  | nil => rfl
  | cons c cs ih =>
    obtain ⟨hc, hcs⟩ := List.forall_mem_cons.1 hc
    rw [List.length_cons, Nat.add_comm cs.length, ← Nat.add_assoc] at hn
    rw [List.foldl_cons, take_fault_counts hr hc (by omega), ih hcs (r := { r with recovery := r.recovery + 1 }) hr hn,
      List.length_cons, Nat.add_comm cs.length, Nat.add_assoc]

/-! ## The averaging window (R4) -/

/-- The codes a window holds after a run of good codes: the last four, or all of them if they are fewer. -/
def lastCodes (codes : List Nat) : List Nat := codes.drop (codes.length - Config.windowSize)

theorem joinWindow_lastCodes (codes : List Nat) (c : Nat) :
    joinWindow (lastCodes codes) c = lastCodes (codes ++ [c]) := by
  unfold joinWindow lastCodes
  rw [← List.drop_append_of_le_length (Nat.sub_le _ _), List.drop_drop, List.length_drop, List.length_append,
    List.length_singleton]
  congr 1
  omega

theorem lastCodes_length_pos {codes : List Nat} (h : codes ≠ []) : 0 < (lastCodes codes).length := by
  have := List.length_pos_iff.2 h
  simp only [lastCodes, List.length_drop, Config.windowSize]
  omega

/-- The record of a channel that has taken exactly `codes`, all good, since its window was emptied. -/
structure ChannelRec.AveragesOver (r : ChannelRec) (codes : List Nat) : Prop where
  state : r.state = .good
  window : r.window = lastCodes codes
  averaged : codes ≠ [] → r.averaged = windowMean (lastCodes codes)
  present : codes ≠ [] → r.present = true

theorem ChannelRec.averagesOver_reset : ChannelRec.reset.AveragesOver [] where
  state := rfl
  window := rfl
  averaged h := absurd rfl h
  present h := absurd rfl h

theorem ChannelRec.AveragesOver.take {r : ChannelRec} {codes : List Nat} (h : r.AveragesOver codes) {c : Nat}
    (hc : railCode c = false) : (r.take c).AveragesOver (codes ++ [c]) := by
  have hw : joinWindow r.window c = lastCodes (codes ++ [c]) := by rw [h.window, joinWindow_lastCodes]
  rw [take_joins (.inl h.state) hc]
  exact ⟨rfl, hw, fun _ => congrArg windowMean hw, fun _ => rfl⟩

theorem ChannelRec.AveragesOver.foldl_take {r : ChannelRec} {taken : List Nat} (h : r.AveragesOver taken)
    {codes : List Nat} (hc : ∀ c ∈ codes, railCode c = false) :
    (codes.foldl ChannelRec.take r).AveragesOver (taken ++ codes) := by
  induction codes generalizing r taken with
  | nil => rwa [List.append_nil]
  | cons c cs ih =>
    obtain ⟨hc, hcs⟩ := List.forall_mem_cons.1 hc
    rw [List.append_cons]
    exact ih (h.take hc) hcs

/-! ## Conversions (R8 to R14) -/

theorem ChannelRec.map_reading (r : ChannelRec) (f : Nat → Nat) :
    r.reading.map f = if r.usable then some (f r.averaged) else none := by
  unfold ChannelRec.reading
  split <;> rfl

theorem ChannelRec.getD_map_reading (r : ChannelRec) (f : Nat → Nat) (d : Nat) :
    (r.reading.map f).getD d = if r.usable then f r.averaged else d := by
  rw [r.map_reading]
  split <;> rfl

/-- R11: the compensation temperature of the basin conductivity. -/
def Measurement.basinTemp (m : Measurement) : Nat := if m.tb.usable then temperature m.tb.averaged else 250

/-- R11: the compensation temperature of the makeup conductivity. -/
def Measurement.makeupTemp (m : Measurement) : Nat := if m.tm.usable then temperature m.tm.averaged else m.basinTemp

section
variable (m : Measurement) (c : EffConfig)

theorem Measurement.derive_rawB :
    (m.derive c).rawB = if m.cb.usable then some (conductivity c.fsB m.cb.averaged) else none := m.cb.map_reading _

theorem Measurement.derive_rawM :
    (m.derive c).rawM = if m.cm.usable then some (conductivity c.fsM m.cm.averaged) else none := m.cm.map_reading _

theorem Measurement.derive_lv10 :
    (m.derive c).lv10 = if m.lv.usable then some (level m.lv.averaged) else none := m.lv.map_reading _

theorem Measurement.derive_t10B :
    (m.derive c).t10B = if m.tb.usable then some (temperature m.tb.averaged) else none := m.tb.map_reading _

theorem Measurement.derive_t10M :
    (m.derive c).t10M = if m.tm.usable then some (temperature m.tm.averaged) else none := m.tm.map_reading _

theorem Measurement.derive_k25B :
    (m.derive c).k25B = (m.derive c).rawB.map (fun r => compensate c.alpha r m.basinTemp) := by
  rw [Measurement.basinTemp, ← ChannelRec.getD_map_reading]
  rfl

theorem Measurement.derive_k25M :
    (m.derive c).k25M = (m.derive c).rawM.map (fun r => compensate c.alpha r m.makeupTemp) := by
  rw [Measurement.makeupTemp, Measurement.basinTemp, ← ChannelRec.getD_map_reading, ← ChannelRec.getD_map_reading]
  rfl

theorem Measurement.derive_k25B_isSome : (m.derive c).k25B.isSome = m.cb.usable := by
  rw [derive_k25B, derive_rawB, Option.isSome_map]
  cases m.cb.usable <;> rfl

theorem Measurement.derive_k25M_isSome : (m.derive c).k25M.isSome = m.cm.usable := by
  rw [derive_k25M, derive_rawM, Option.isSome_map]
  cases m.cm.usable <;> rfl

/-- R13: CoC100 is known exactly while both compensated conductivities are. -/
theorem Measurement.derive_coc_eq_some_iff (x : Nat) :
    (m.derive c).coc = some x ↔ ∃ a b, (m.derive c).k25B = some a ∧ (m.derive c).k25M = some b ∧ cycles a b = x := by
  have hcoc : (m.derive c).coc =
      if (m.derive c).k25B.isSome && (m.derive c).k25M.isSome then
        some (cycles ((m.derive c).k25B.getD 0) ((m.derive c).k25M.getD 0)) else none := rfl
  rw [hcoc]
  cases (m.derive c).k25B <;> cases (m.derive c).k25M <;> simp

theorem Measurement.derive_coc_isSome : (m.derive c).coc.isSome = (m.cb.usable && m.cm.usable) := by
  rw [← m.derive_k25B_isSome c, ← m.derive_k25M_isSome c, Bool.eq_iff_iff, Bool.and_eq_true]
  simp only [Option.isSome_iff_exists, derive_coc_eq_some_iff]
  exact ⟨fun ⟨_, a, b, ha, hb, _⟩ => ⟨⟨a, ha⟩, b, hb⟩, fun ⟨⟨a, ha⟩, b, hb⟩ => ⟨_, a, b, ha, hb, rfl⟩⟩

/-- R14: the cycles limit mark stands where CoC100 is known and the makeup conductivity is below 20. -/
theorem Measurement.derive_cyclesLimit_iff :
    (m.derive c).cyclesLimit = true ↔ m.cb.usable = true ∧ ∃ k, (m.derive c).k25M = some k ∧ k < 20 := by
  have hlimit : (m.derive c).cyclesLimit =
      ((m.derive c).k25B.isSome && (m.derive c).k25M.isSome && (m.derive c).k25M.getD 0 < 20) := rfl
  rw [hlimit, m.derive_k25B_isSome c]
  cases (m.derive c).k25M <;> simp

end

/-- R14: cycles of concentration against almost pure makeup water. -/
theorem cycles_of_lt {a b : Nat} (h : b < 20) : cycles a b = 2500 := if_pos h

theorem cycles_of_le {a b : Nat} (h : 20 ≤ b) : cycles a b = max 100 (min 2500 (roundDiv (a * 100) b)) := by
  rw [cycles, if_neg (by omega), clampNat_eq_max_min (by decide)]

theorem cycles_bounds (a b : Nat) : 100 ≤ cycles a b ∧ cycles a b ≤ 2500 := by
  obtain h | h := Nat.lt_or_ge b 20
  · rw [cycles_of_lt h]
    decide
  · rw [cycles_of_le h]
    omega

theorem Measurement.derive_coc_bounds {m : Measurement} {c : EffConfig} {x : Nat} (h : (m.derive c).coc = some x) :
    100 ≤ x ∧ x ≤ 2500 ∧ ((m.derive c).cyclesLimit = true → x = 2500) := by
  obtain ⟨a, b, _, hb, rfl⟩ := (m.derive_coc_eq_some_iff c x).1 h
  obtain ⟨hlo, hhi⟩ := cycles_bounds a b
  refine ⟨hlo, hhi, fun hl => ?_⟩
  obtain ⟨_, k, hk, hlt⟩ := (m.derive_cyclesLimit_iff c).1 hl
  obtain rfl : b = k := Option.some.inj (hb.symm.trans hk)
  exact cycles_of_lt hlt

/-! ## The statement about readings -/

/-- R2, R4: the channel after a run of good codes from a reset. -/
theorem ChannelRec.run_of_good_codes {codes : List Nat} (hne : codes ≠ []) (hc : ∀ c ∈ codes, 1 ≤ c ∧ c ≤ 4094) :
    let r := codes.foldl ChannelRec.take ChannelRec.reset
    let w := codes.drop (codes.length - 4)
    r.state = .good ∧ r.window = w ∧ r.present = true ∧ 2 * w.length * r.averaged ≤ 2 * w.sum + w.length ∧
    2 * w.sum + w.length < 2 * w.length * (r.averaged + 1) := by
  intro r w
  have h : r.AveragesOver codes := averagesOver_reset.foldl_take fun c hm => railCode_eq_false_of_range (hc c hm)
  have hmean : r.averaged = roundDiv w.sum w.length := h.averaged hne
  rw [hmean]
  exact ⟨h.state, h.window, h.present hne, mul_roundDiv_le _ _, lt_mul_roundDiv_succ _ (lastCodes_length_pos hne)⟩

/-- R6: the fifth good code in a row brings a channel back from FAULT. -/
theorem ChannelRec.fifth_good_code_recovers {r : ChannelRec} {a b c d e : Nat} (hr : r.state = .fault)
    (hc : ∀ x ∈ [a, b, c, d, e], 1 ≤ x ∧ x ≤ 4094) (hn : r.recovery = 0) :
    [a, b, c, d].foldl ChannelRec.take r = { r with recovery := 4 } ∧
    [a, b, c, d, e].foldl ChannelRec.take r =
      { r with state := .good, window := [e], averaged := e, present := true, recovery := 0 } := by
  have hgood : ∀ x ∈ [a, b, c, d] ++ [e], railCode x = false := fun x hm => railCode_eq_false_of_range (hc x hm)
  obtain ⟨hfour, he⟩ := List.forall_mem_append.1 hgood
  have hcount : [a, b, c, d].foldl ChannelRec.take r = { r with recovery := 4 } := by
    rw [foldl_take_fault hfour hr (by rw [hn]; exact Nat.lt_add_one 4), hn]
    rfl
  refine ⟨hcount, ?_⟩
  change ([a, b, c, d].foldl ChannelRec.take r).take e = _
  rw [hcount]
  exact take_fault_recovers (r := { r with recovery := 4 }) hr (he e (List.mem_singleton_self e)) (Nat.le_refl 5)

/-- Settles O10: the codes by the lemmas on `take` in each state, the derived set by those on each quantity of
`derive`. -/
theorem readingsAverageAndConvert : Obligations.ReadingsAverageAndConvert := by
  refine ⟨⟨fun _ => ChannelRec.run_of_good_codes, fun r a b c d e hr hc => ?_, fun r x => ?_⟩, fun m c => ?_⟩
  · exact ⟨ChannelRec.fifth_good_code_recovers hr hc, ChannelRec.take_fault_rail hr rfl,
      ChannelRec.take_fault_rail hr rfl⟩
  · exact ⟨fun hx hr => ChannelRec.take_good_rail hr ((railCode_iff x).2 hx),
      fun hx hr => ChannelRec.take_holding_rail hr ((railCode_iff x).2 hx),
      fun h0 h1 hr => ChannelRec.take_joins hr ((railCode_eq_false_iff x).2 ⟨h0, h1⟩)⟩
  · exact ⟨m.derive_rawB c, m.derive_rawM c, m.derive_lv10 c, m.derive_t10B c, m.derive_t10M c, m.derive_k25B c,
      m.derive_k25M c, m.derive_coc_isSome c, fun _ => Measurement.derive_coc_bounds,
      fun a ha b hb h => (m.derive_coc_eq_some_iff c _).2 ⟨a, b, ha, hb, cycles_of_le h⟩, m.derive_cyclesLimit_iff c⟩

end Sys2Proof.Machine
end

section
/-! SUPPORT. DISCHARGE demand (section 2.3): the margin and the formula base of R22, and the lines of the table of
section 2.3. -/

namespace Sys2Proof.Machine
open Sys2Proof

/-! ## Rounding a quotient -/

theorem roundDiv_mul_self (k : Nat) {b : Nat} (hb : 0 < b) : roundDiv (k * b) b = k := by
  have hsplit : 2 * (k * b) + b = b + 2 * b * k := by
    rw [Nat.mul_comm k b, ← Nat.mul_assoc, Nat.add_comm]
  have hhalf : b / (2 * b) = 0 := Nat.div_eq_of_lt (by omega)
  rw [roundDiv, hsplit, Nat.add_mul_div_left _ _ (by omega), hhalf, Nat.zero_add]

theorem roundDiv_le_roundDiv {a a' : Nat} (h : a ≤ a') (b : Nat) : roundDiv a b ≤ roundDiv a' b :=
  Nat.div_le_div_right (by omega)

/-! ## The formula base (R22) -/

/-- R22: the margin X + W − S, a negative one taken as 0. -/
def margin (c : EffConfig) (d : Derived) (m : ControlMode) : Nat := controlled m d + deadband c m - setpoint c m

section
variable {c : EffConfig} {d : Derived} {m : ControlMode}

theorem formulaBase_eq : formulaBase c d m = min 200 (roundDiv (100 * margin c d m) (deadband c m)) := rfl

/-- A margin of `k` whole deadbands. -/
theorem formulaBase_of_margin_eq_mul (hW : 0 < deadband c m) {k : Nat} (h : margin c d m = k * deadband c m) :
    formulaBase c d m = min 200 (100 * k) := by
  rw [formulaBase_eq, h, ← Nat.mul_assoc, roundDiv_mul_self _ hW]

theorem formulaBase_of_margin_ge (hW : 0 < deadband c m) (h : 2 * deadband c m ≤ margin c d m) :
    formulaBase c d m = 200 := by
  have hmono := roundDiv_le_roundDiv (show 200 * deadband c m ≤ 100 * margin c d m by omega) (deadband c m)
  rw [roundDiv_mul_self 200 hW] at hmono
  exact Nat.min_eq_left hmono

/-- Up to two deadbands the clamp at 200 does not act. -/
theorem formulaBase_of_margin_le (hW : 0 < deadband c m) (h : margin c d m ≤ 2 * deadband c m) :
    formulaBase c d m = roundDiv (100 * margin c d m) (deadband c m) := by
  have hmono := roundDiv_le_roundDiv (show 100 * margin c d m ≤ 200 * deadband c m by omega) (deadband c m)
  rw [roundDiv_mul_self 200 hW] at hmono
  exact Nat.min_eq_right hmono

theorem formulaBase_at_setpoint (hW : 0 < deadband c m) (h : controlled m d = setpoint c m) :
    formulaBase c d m = 100 :=
  formulaBase_of_margin_eq_mul (k := 1) hW (by simp [margin, h])

theorem formulaBase_below_deadband (hW : 0 < deadband c m) (h : controlled m d + deadband c m ≤ setpoint c m) :
    formulaBase c d m = 0 :=
  formulaBase_of_margin_eq_mul (k := 0) hW (by simpa [margin] using Nat.sub_eq_zero_of_le h)

theorem formulaBase_above_deadband (hW : 0 < deadband c m) (h : setpoint c m + deadband c m ≤ controlled m d) :
    formulaBase c d m = 200 :=
  formulaBase_of_margin_ge hW (by unfold margin; omega)

/-- Rounded to nearest, a half up: the two bounds name one number. -/
theorem formulaBase_rounds (hW : 0 < deadband c m) (h : margin c d m ≤ 2 * deadband c m) :
    2 * deadband c m * formulaBase c d m ≤ 200 * margin c d m + deadband c m ∧
    200 * margin c d m + deadband c m < 2 * deadband c m * (formulaBase c d m + 1) := by
  have hle := mul_roundDiv_le (100 * margin c d m) (deadband c m)
  have hlt := lt_mul_roundDiv_succ (100 * margin c d m) hW
  rw [← Nat.mul_assoc] at hle hlt
  rw [formulaBase_of_margin_le hW h]
  exact ⟨hle, hlt⟩

end

/-! ## The table of section 2.3, line by line -/

theorem aboveHh_iff (c : EffConfig) (d : Derived) : aboveHh c d = true ↔ ∃ k ∈ d.k25B, c.hh ≤ k := by
  unfold aboveHh
  cases d.k25B <;> simp

theorem aboveHh_eq_false_iff (c : EffConfig) (d : Derived) : aboveHh c d = false ↔ ¬ ∃ k ∈ d.k25B, c.hh ≤ k := by
  rw [← aboveHh_iff, Bool.not_eq_true]

section
variable {c : EffConfig} {d : Derived} {q : Demand}

/-- R27. -/
theorem dischargeDemand_suppressed (hs : q.suppress = true) : dischargeDemand c d q = (false, 0) := by
  rw [dischargeDemand, if_pos hs]

/-- R26: at or above HH. -/
theorem dischargeDemand_forced_above (hs : q.suppress = false) (hf : q.force = true) (hh : aboveHh c d = true) :
    dischargeDemand c d q = (true, 255) := by
  simp [dischargeDemand, hs, hf, hh]

/-- R26: below HH, or with CB not usable. -/
theorem dischargeDemand_forced_below (hs : q.suppress = false) (hf : q.force = true) (hh : aboveHh c d = false) :
    dischargeDemand c d q = (true, max 120 (if d.k25B = none then 0 else formulaBase c d q.mode)) := by
  cases hk : d.k25B <;> simp [dischargeDemand, hs, hf, hh, hk]

/-- R23. -/
theorem dischargeDemand_unusable (hs : q.suppress = false) (hf : q.force = false) (hk : d.k25B = none) :
    dischargeDemand c d q = (false, 0) := by
  simp [dischargeDemand, hs, hf, hk]

/-- R24; at or above HH the conductivity is known. -/
theorem dischargeDemand_above (hs : q.suppress = false) (hf : q.force = false) (hh : aboveHh c d = true) :
    dischargeDemand c d q = (true, 255) := by
  obtain ⟨k, hk, -⟩ := (aboveHh_iff c d).1 hh
  simp [dischargeDemand, hs, hf, hh, Option.mem_def.1 hk]

/-- R21, R22. -/
theorem dischargeDemand_marked (hs : q.suppress = false) (hf : q.force = false) (hk : d.k25B ≠ none)
    (hh : aboveHh c d = false) :
    dischargeDemand c d q = if q.dMark then (true, formulaBase c d q.mode) else (false, 0) := by
  simp [dischargeDemand, hs, hf, hk, hh]

end

/-- Settles O13: the base by the margin in deadbands (none, one, two and more, up to two), the table by its lines. -/
theorem formulaBaseMeasuresTheDeadband : Obligations.FormulaBaseMeasuresTheDeadband := by
  intro c d m hW
  refine ⟨formulaBase_at_setpoint hW, formulaBase_below_deadband hW, formulaBase_above_deadband hW,
    fun _ hx => formulaBase_rounds hW (by unfold margin; omega), ?_⟩
  rintro q rfl hh
  have habove : hh → aboveHh c d = true := (aboveHh_iff c d).2
  have hbelow : ¬ hh → aboveHh c d = false := (aboveHh_eq_false_iff c d).2
  exact ⟨dischargeDemand_suppressed,
    fun hs hf h => dischargeDemand_forced_above hs hf (habove h),
    fun hs hf h => dischargeDemand_forced_below hs hf (hbelow h),
    dischargeDemand_unusable,
    fun hs hf h => dischargeDemand_above hs hf (habove h),
    fun hs hf hk h => dischargeDemand_marked hs hf hk (hbelow h)⟩

end Sys2Proof.Machine
end

section
/-! SUPPORT. The alarm relay and the attention line along a run (R117, R177): a command leaves every part of the state
they depend on as it was or ends by driving them, and a millisecond touches none of it. -/

namespace Sys2Proof.Machine
open Sys2Proof

/-! ## What one step is -/

/-- A step takes the command at the front, or lets one millisecond pass. -/
theorem step_cases {s t : State} (h : step s = .next t) :
    (∃ c rest, s.pending = c :: rest ∧ exec c { s with pending := rest } = .next t) ∨
      s.pending = [] ∧ t = s.tick := by
  cases hp : s.pending with
  | nil =>
    simp only [step, hp, Host.Outcome.next.injEq] at h
    exact .inr ⟨rfl, h.symm⟩
  | cons c rest =>
    simp only [step, hp] at h
    exact .inl ⟨c, rest, rfl, h⟩

/-! ## How a command ends -/

/-- `t` is `s` itself, or differs from it in the response alone, or has had its two lines driven last. -/
def DrivenOrQuiet (s t : State) : Prop := t = s ∨ (∃ b, t = s.respond b) ∨ ∃ u : State, t = u.driveLines

section
variable {s t : State}

theorem drivenOrQuiet_of_event {due : Bool} {body : State → State} (h : event due body s = .next t) :
    DrivenOrQuiet s t := by
  obtain hn | ⟨-, -, hn⟩ := event_next due body s
  · exact .inl (Host.Outcome.next.inj (h.symm.trans hn))
  · exact .inr (.inr ⟨_, Host.Outcome.next.inj (h.symm.trans hn)⟩)

theorem drivenOrQuiet_of_quietEvent {due : Bool} {body : State → State} (h : quietEvent due body s = .next t) :
    DrivenOrQuiet s t := by
  obtain hn | ⟨-, -, hn⟩ := quietEvent_next due body s
  · exact .inl (Host.Outcome.next.inj (h.symm.trans hn))
  · exact .inr (.inr ⟨_, Host.Outcome.next.inj (h.symm.trans hn)⟩)

/-- R176: a read of EVENTS clears the flags, so a read that is answered drives the lines too. -/
theorem drivenOrQuiet_readRecord (s : State) (rec idx : Nat) : DrivenOrQuiet s (s.readRecord rec idx) := by
  unfold State.readRecord
  split
  · exact .inr (.inl ⟨_, rfl⟩)
  · exact .inr (.inr ⟨_, rfl⟩)

theorem exec_drivenOrQuiet {c : Instr} (h : exec c s = .next t) : DrivenOrQuiet s t := by
  cases c with
  | coldReset | heldInReset =>
    cases h
    exact .inr (.inr ⟨_, rfl⟩)
  | configAttempt =>
    rw [exec_configAttempt] at h
    exact drivenOrQuiet_of_quietEvent h
  | readStation | readMeasure | readPool | readPeer | readCounter | readHistogram | readEvents | readBalance
  | readBiocide | readConfig | readResetCause | outOfRange =>
    cases h
    exact drivenOrQuiet_readRecord _ _ _
  | unknownTransaction | readMailbox =>
    cases h
    exact .inr (.inl ⟨_, rfl⟩)
  | _ =>
    simp only [exec_configRetryDelay, exec_scan, exec_holdTimerExpiry, exec_hhTimerExpiry, exec_llTimerExpiry,
      exec_askWindowExpiry, exec_confirmPeriodExpiry, exec_ageingStep, exec_minimumRunEnd, exec_maxRunExpiry,
      exec_reportProcessed, exec_leavingProcessed, exec_peerStale, exec_peerDropped, exec_frameEnd, exec_reportTimer,
      exec_attemptStart, exec_echoMismatch, exec_delivery, exec_deliveryTimerExpiry, exec_listenTimerExpiry,
      exec_feedbackSettled, exec_openCheckExpiry, exec_closeCheckExpiry, exec_strokePulseEnd, exec_meterSettled,
      exec_slotBoundary, exec_noFlowHoldTime, exec_strokeClockExpiry, exec_intervalTimerExpiry, exec_prebleedShort,
      exec_doseTimeExpiry, exec_contactTimeExpiry, exec_postCommand, exec_acknowledge, exec_biocideNow, exec_hold,
      exec_resume, exec_clearCounters, exec_setMask, exec_lineRestart, exec_restart] at h
    exact drivenOrQuiet_of_event h

end

/-! ## What one millisecond leaves as it was -/

@[simp] theorem State.tick_held (s : State) : s.tick.held = s.held := by
  simp only [State.tick, State.tickWorking]; (repeat' split) <;> rfl
@[simp] theorem State.tick_stats (s : State) : s.tick.stats = s.stats := by
  simp only [State.tick, State.tickWorking]; (repeat' split) <;> rfl
@[simp] theorem State.tick_port (s : State) : s.tick.port = s.port := by
  simp only [State.tick, State.tickWorking]; (repeat' split) <;> rfl
@[simp] theorem State.tick_station_state (s : State) : s.tick.station.state = s.station.state := by
  simp only [State.tick]; split <;> rfl
@[simp] theorem State.tick_relay (s : State) : s.tick.out.relay = s.out.relay := by
  simp only [State.tick]; split <;> rfl

/-! ## The two lines -/

/-- The lines depend on the reset cause, the station state, and the list, flags and mask of statistics. -/
theorem LinesFollow.of_same {s t : State} (h : LinesFollow s) (hheld : t.held = s.held)
    (hstate : t.station.state = s.station.state) (hstats : t.stats = s.stats)
    (hrelay : t.out.relay = s.out.relay) (hattention : t.port.attention = s.port.attention) : LinesFollow t := by
  obtain ⟨hr, ha⟩ := h
  constructor
  · simp only [hrelay, hr, State.relayLevel, State.alarmCondition, hheld, hstate, hstats]
  · simp only [hattention, ha, State.attentionLevel, hheld, hstate, hstats]

theorem LinesFollow.respond {s : State} (h : LinesFollow s) (b : List Byte) : LinesFollow (s.respond b) :=
  h.of_same rfl rfl rfl rfl rfl

theorem LinesFollow.dropCommand {s : State} (h : LinesFollow s) (rest : List Instr) :
    LinesFollow { s with pending := rest } :=
  h.of_same rfl rfl rfl rfl rfl

theorem LinesFollow.tick {s : State} (h : LinesFollow s) : LinesFollow s.tick :=
  h.of_same s.tick_held s.tick_station_state s.tick_stats s.tick_relay (congrArg Port.attention s.tick_port)

theorem LinesFollow.of_drivenOrQuiet {s t : State} (h : LinesFollow s) (ht : DrivenOrQuiet s t) : LinesFollow t := by
  obtain rfl | ⟨b, rfl⟩ | ⟨u, rfl⟩ := ht
  · exact h
  · exact h.respond b
  · exact linesFollow_driveLines u

/-- Settles O52: a command leaves the lines' sources alone or drives the lines, and a millisecond leaves them alone. -/
theorem linesFollowAlways : Obligations.LinesFollowAlways := by
  intro s t h hstep
  obtain ⟨c, rest, -, hexec⟩ | ⟨-, rfl⟩ := step_cases hstep
  · exact (h.dropCommand rest).of_drivenOrQuiet (exec_drivenOrQuiet hexec)
  · exact h.tick

end Sys2Proof.Machine
end

section
/-! SUPPORT. Counters and wait cells (sections 10.1 to 10.3): what one increment leaves in the counters, the flags and
the last counter field, and what one grant's wait leaves in the cells. -/

namespace Sys2Proof.Machine
open Sys2Proof

/-! ## One place of a list -/

theorem getD_set_of_lt {α : Type} {l : List α} {i : Nat} (hi : i < l.length) (a d : α) (j : Nat) :
    (l.set i a).getD j d = if j = i then a else l.getD j d := by
  rw [List.getD_eq_getElem?_getD, List.getD_eq_getElem?_getD]
  by_cases hj : j = i
  · rw [if_pos hj, hj, List.getElem?_set_self hi, Option.getD_some]
  · rw [if_neg hj, List.getElem?_set_ne (Ne.symm hj)]

/-! ## Where a counter and a cell stand -/

theorem Pool.index_lt_three (p : Pool) : p.index < 3 := by cases p <;> decide

/-- Section 10.1: the counters are numbered from 1 to 20. -/
theorem Counter.number_bounds (c : Counter) : 1 ≤ c.number ∧ c.number ≤ 20 := by
  cases c with
  | grants p | yields p | withdrawals p =>
    have hp := Pool.index_lt_three p
    simp only [Counter.number]
    omega
  | _ => simp only [Counter.number]; omega

theorem waitBucket_lt (seconds : Nat) : waitBucket seconds < 5 := by
  unfold waitBucket
  repeat' split
  all_goals decide

theorem cellIndex_lt (p : Pool) {bucket : Nat} (h : bucket < 5) : cellIndex p bucket < 15 := by
  have hp := Pool.index_lt_three p
  unfold cellIndex
  omega

/-! ## One increment (R171, R172) -/

section
variable {t : Stats} {c : Counter} {amount : Nat}

/-- Whatever is told of it, an increment writes one entry of the list of counters. -/
theorem Stats.count_counters (t : Stats) (c : Counter) (amount : Nat) :
    (t.count c amount).counters = t.counters.set (c.number - 1) (BitVec.ofNat 32 ((t.counter c).toNat + amount)) := by
  simp only [Stats.count]
  (repeat' split) <;> rfl

theorem Stats.count_counterAt (hlen : t.counters.length = 20) (n : Nat) :
    (t.count c amount).counterAt n =
      if n - 1 = c.number - 1 then t.counter c + BitVec.ofNat 32 amount else t.counterAt n := by
  obtain ⟨hpos, hle⟩ := c.number_bounds
  have hplace : c.number - 1 < t.counters.length := by omega
  rw [Stats.counterAt, Stats.count_counters, getD_set_of_lt hplace, BitVec.ofNat_add, BitVec.ofNat_toNat,
    BitVec.setWidth_eq, Stats.counterAt]

theorem Stats.count_counter_self (hlen : t.counters.length = 20) :
    (t.count c amount).counter c = t.counter c + BitVec.ofNat 32 amount := by
  rw [Stats.counter, Stats.count_counterAt hlen, if_pos rfl]

theorem Stats.count_counterAt_ne (hlen : t.counters.length = 20) {i : Nat} (hi : i + 1 ≠ c.number) :
    (t.count c amount).counterAt (i + 1) = t.counterAt (i + 1) := by
  obtain ⟨hpos, -⟩ := c.number_bounds
  rw [Stats.count_counterAt hlen, if_neg (by omega)]

/-- R172: a sum of 2^32 or more is a wrap. -/
theorem Stats.count_told_of_wrap (h : 2 ^ 32 ≤ (t.counter c).toNat + amount) :
    (t.count c amount).lastCounter = c.number ∧ (t.count c amount).flags = t.flags ||| BitVec.twoPow 32 28 := by
  simp only [Stats.count, if_pos h, Stats.raise, Event.bit, true_and]

/-- R172: the upper half is reached from below, without a wrap. -/
theorem Stats.count_told_of_half (hnowrap : (t.counter c).toNat + amount < 2 ^ 32)
    (hold : (t.counter c).toNat < 2 ^ 31) (hsum : 2 ^ 31 ≤ (t.counter c).toNat + amount) :
    (t.count c amount).lastCounter = c.number ∧ (t.count c amount).flags = t.flags ||| BitVec.twoPow 32 27 := by
  simp only [Stats.count, if_neg (Nat.not_le.2 hnowrap), if_pos (And.intro hold hsum),
    Stats.raise, Event.bit, true_and]

/-- R172: an increment that stays within one half tells nothing. -/
theorem Stats.count_untold (hnowrap : (t.counter c).toNat + amount < 2 ^ 32)
    (hhalf : 2 ^ 31 ≤ (t.counter c).toNat ∨ (t.counter c).toNat + amount < 2 ^ 31) :
    (t.count c amount).lastCounter = t.lastCounter ∧ (t.count c amount).flags = t.flags := by
  have hnot : ¬((t.counter c).toNat < 2 ^ 31 ∧ 2 ^ 31 ≤ (t.counter c).toNat + amount) := by omega
  simp only [Stats.count, if_neg (Nat.not_le.2 hnowrap), if_neg hnot, and_self]

end

/-! ## One grant's wait (R174) -/

theorem Stats.grantWait_cell {t : Stats} (hlen : t.histogram.length = 15) (p : Pool) (seconds i : Nat) :
    (t.grantWait p seconds).histogram.getD i 0 =
      if i = cellIndex p (waitBucket seconds) then min 65535 (t.histogram.getD i 0 + 1) else t.histogram.getD i 0 := by
  have hplace : cellIndex p (waitBucket seconds) < t.histogram.length := by
    rw [hlen]; exact cellIndex_lt p (waitBucket_lt seconds)
  rw [Stats.grantWait, getD_set_of_lt hplace]
  split
  · next h => rw [h]
  · rfl

/-- Settles O48: the counters by the one entry written, the telling by the half the sum falls in, the cells by the one
cell written. An amount of at most 1000 on a value below 2^31 cannot wrap, so COUNTER HALF is alone. -/
theorem countersWrapAndTell : Obligations.CountersWrapAndTell := by
  intro c p amount w t hcounters hcells hamount
  refine ⟨Stats.count_counter_self hcounters, fun i _ hi => Stats.count_counterAt_ne hcounters hi,
    Stats.count_told_of_wrap, fun hold hsum => ?_, Stats.count_untold, fun i _ => Stats.grantWait_cell hcells p w i⟩
  exact Stats.count_told_of_half (by omega) hold hsum

end Sys2Proof.Machine
end

section
/-! SUPPORT. Event flags and the latched alarm list (sections 10.4 and 10.5): one flag for each event, and what an
occurrence, the end of a condition and ACKNOWLEDGE leave in the list. -/

namespace Sys2Proof.Machine
open Sys2Proof

/-! ## Flags (R176) -/

/-- The flags stand in the order of the events. -/
theorem Event.bit_eq_ctorIdx (e : Event) : e.bit = e.ctorIdx := by cases e <;> rfl

/-- No two events share a flag. -/
theorem Event.bit_inj {e f : Event} : e.bit = f.bit ↔ e = f := by
  refine ⟨fun h => ?_, congrArg Event.bit⟩
  rw [Event.bit_eq_ctorIdx, Event.bit_eq_ctorIdx] at h
  rw [← Event.ofNat_ctorIdx e, h, Event.ofNat_ctorIdx]

theorem Event.bit_lt (e : Event) : e.bit < 32 := by cases e <;> decide

theorem Stats.raise_flag (t : Stats) (e f : Event) : (t.raise e).flag f = (t.flag f || e == f) := by
  have hbit : (BitVec.twoPow 32 e.bit).getLsbD f.bit = (e == f) := by
    rw [BitVec.getLsbD_twoPow, decide_eq_true e.bit_lt, Bool.true_and, Bool.beq_eq_decide_eq]
    exact decide_eq_decide.2 Event.bit_inj
  rw [Stats.flag, Stats.raise, BitVec.getLsbD_or, hbit, Stats.flag]

/-! ## Changing the entry of one kind in its place -/

/-- An entry at an occurrence of its kind (R178). -/
def AlarmEntry.occurred (e : AlarmEntry) : AlarmEntry := { e with active := true, unack := true }

/-- An entry whose condition has ended (R178). -/
def AlarmEntry.ended (e : AlarmEntry) : AlarmEntry := { e with active := false }

theorem AlarmEntry.occurred_kind (e : AlarmEntry) : e.occurred.kind = e.kind := rfl
theorem AlarmEntry.ended_kind (e : AlarmEntry) : e.ended.kind = e.kind := rfl
theorem AlarmEntry.ended_kind_unack (e : AlarmEntry) : (e.ended.kind, e.ended.unack) = (e.kind, e.unack) := rfl

/-- The change `f` made to entries of kind `k` only: an occurrence of a kind on the list and the end of a condition are
both this (`latchAlarm_of_mem`, `calmAlarm_eq_map`). -/
def AlarmEntry.onKind (k : AlarmKind) (f : AlarmEntry → AlarmEntry) (e : AlarmEntry) : AlarmEntry :=
  if e.kind == k then f e else e

section
variable {k : AlarmKind} {f : AlarmEntry → AlarmEntry}

theorem AlarmEntry.onKind_self {e : AlarmEntry} (h : e.kind = k) : e.onKind k f = f e := by
  simp [AlarmEntry.onKind, h]

theorem AlarmEntry.onKind_other {e : AlarmEntry} (h : e.kind ≠ k) : e.onKind k f = e := by
  simp [AlarmEntry.onKind, h]

/-- What the change keeps of an entry, it keeps where it is made to one kind only. -/
theorem AlarmEntry.onKind_keeps {β : Type} {g : AlarmEntry → β} (hf : ∀ e, g (f e) = g e)
    (e : AlarmEntry) : g (e.onKind k f) = g e := by
  by_cases h : e.kind = k
  · rw [AlarmEntry.onKind_self h, hf e]
  · rw [AlarmEntry.onKind_other h]

theorem map_onKind_keeps {β : Type} {g : AlarmEntry → β} (hf : ∀ e, g (f e) = g e)
    (l : List AlarmEntry) : (l.map (AlarmEntry.onKind k f)).map g = l.map g := by
  rw [List.map_map]
  exact List.map_congr_left fun e _ => AlarmEntry.onKind_keeps hf e

/-- A change that keeps the kind commutes with choosing entries by their kind. -/
theorem filter_map_onKind (hf : ∀ e, (f e).kind = e.kind) (p : AlarmKind → Bool) (l : List AlarmEntry) :
    (l.map (AlarmEntry.onKind k f)).filter (fun e => p e.kind) =
      (l.filter (fun e => p e.kind)).map (AlarmEntry.onKind k f) := by
  have hp : (fun e : AlarmEntry => p e.kind) ∘ AlarmEntry.onKind k f = fun e => p e.kind :=
    funext fun e => congrArg p (AlarmEntry.onKind_keeps hf e)
  rw [List.filter_map, hp]

theorem filter_others_map_onKind (hf : ∀ e, (f e).kind = e.kind) (l : List AlarmEntry) :
    (l.map (AlarmEntry.onKind k f)).filter (fun e => e.kind != k) = l.filter (fun e => e.kind != k) := by
  rw [filter_map_onKind hf (· != k)]
  have hsame : ∀ e ∈ l.filter (fun e => e.kind != k), e.onKind k f = e := fun e he =>
    AlarmEntry.onKind_other (by simpa using (List.mem_filter.mp he).2)
  rw [List.map_congr_left hsame, List.map_id']

end

/-! ## The entry of a kind -/

/-- R178: a list with one entry for each kind has exactly one of a kind that is on it. -/
theorem filter_kind_eq_singleton {l : List AlarmEntry} {k : AlarmKind} (hnodup : (l.map AlarmEntry.kind).Nodup)
    (hk : k ∈ l.map AlarmEntry.kind) : ∃ e, e.kind = k ∧ l.filter (fun x => x.kind == k) = [e] := by
  have hkinds : (l.filter (fun x => x.kind == k)).map AlarmEntry.kind = [k] := by
    calc (l.filter ((· == k) ∘ AlarmEntry.kind)).map AlarmEntry.kind
      _ = (l.map AlarmEntry.kind).filter (· == k) := List.filter_map.symm
      _ = List.replicate ((l.map AlarmEntry.kind).count k) k := List.filter_beq k
      _ = [k] := by rw [hnodup.count, if_pos hk, List.replicate_one]
  obtain ⟨e, he, hkind⟩ := List.map_eq_singleton_iff.mp hkinds
  exact ⟨e, hkind, he⟩

theorem any_kind_iff (l : List AlarmEntry) (k : AlarmKind) :
    l.any (fun e => e.kind == k) = true ↔ k ∈ l.map AlarmEntry.kind := by
  simp

theorem filter_kind_of_not_mem {l : List AlarmEntry} {k : AlarmKind} (hk : k ∉ l.map AlarmEntry.kind) :
    l.filter (fun x => x.kind == k) = [] := by
  simpa using hk

/-! ## An occurrence (R178) -/

section
variable {l : List AlarmEntry} {k : AlarmKind}

theorem latchAlarm_of_mem (hk : k ∈ l.map AlarmEntry.kind) :
    latchAlarm l k = l.map (AlarmEntry.onKind k AlarmEntry.occurred) :=
  if_pos ((any_kind_iff l k).2 hk)

theorem latchAlarm_of_not_mem (hk : k ∉ l.map AlarmEntry.kind) :
    latchAlarm l k = l ++ [{ kind := k, active := true, unack := true }] :=
  if_neg (mt (any_kind_iff l k).1 hk)

theorem latchAlarm_filter_kind (hnodup : (l.map AlarmEntry.kind).Nodup) :
    (latchAlarm l k).filter (fun x => x.kind == k) = [{ kind := k, active := true, unack := true }] := by
  by_cases hk : k ∈ l.map AlarmEntry.kind
  · obtain ⟨e, hkind, he⟩ := filter_kind_eq_singleton hnodup hk
    rw [latchAlarm_of_mem hk, filter_map_onKind AlarmEntry.occurred_kind (· == k), he, List.map_singleton,
      AlarmEntry.onKind_self hkind, AlarmEntry.occurred, hkind]
  · rw [latchAlarm_of_not_mem hk, List.filter_append, filter_kind_of_not_mem hk]
    simp

theorem latchAlarm_filter_others (l : List AlarmEntry) (k : AlarmKind) :
    (latchAlarm l k).filter (fun x => x.kind != k) = l.filter (fun x => x.kind != k) := by
  by_cases hk : k ∈ l.map AlarmEntry.kind
  · rw [latchAlarm_of_mem hk, filter_others_map_onKind AlarmEntry.occurred_kind]
  · rw [latchAlarm_of_not_mem hk, List.filter_append]
    simp

theorem latchAlarm_kinds (l : List AlarmEntry) (k : AlarmKind) :
    (latchAlarm l k).map AlarmEntry.kind =
      if k ∈ l.map AlarmEntry.kind then l.map AlarmEntry.kind else l.map AlarmEntry.kind ++ [k] := by
  split
  · next hk => rw [latchAlarm_of_mem hk, map_onKind_keeps AlarmEntry.occurred_kind]
  · next hk => rw [latchAlarm_of_not_mem hk, List.map_append, List.map_singleton]

end

/-! ## The end of a condition and ACKNOWLEDGE (R178, R179) -/

theorem calmAlarm_eq_map (l : List AlarmEntry) (k : AlarmKind) :
    calmAlarm l k = l.map (AlarmEntry.onKind k AlarmEntry.ended) := rfl

theorem calmAlarm_kinds_and_unacks (l : List AlarmEntry) (k : AlarmKind) :
    (calmAlarm l k).map (fun x => (x.kind, x.unack)) = l.map (fun x => (x.kind, x.unack)) := by
  rw [calmAlarm_eq_map, map_onKind_keeps AlarmEntry.ended_kind_unack]

theorem calmAlarm_filter_others (l : List AlarmEntry) (k : AlarmKind) :
    (calmAlarm l k).filter (fun x => x.kind != k) = l.filter (fun x => x.kind != k) := by
  rw [calmAlarm_eq_map, filter_others_map_onKind AlarmEntry.ended_kind]

theorem calmAlarm_inactive {l : List AlarmEntry} {k : AlarmKind} {x : AlarmEntry} (hx : x ∈ calmAlarm l k)
    (hkind : x.kind = k) : x.active = false := by
  rw [calmAlarm_eq_map] at hx
  obtain ⟨e, -, rfl⟩ := List.mem_map.mp hx
  rw [AlarmEntry.onKind_keeps AlarmEntry.ended_kind] at hkind
  rw [AlarmEntry.onKind_self hkind, AlarmEntry.ended]

theorem acknowledgeAlarms_eq (l : List AlarmEntry) :
    acknowledgeAlarms l = (l.filter (fun x => x.active)).map (fun x => { x with unack := false }) :=
  List.filter_map

/-- Settles O49: an occurrence by whether its kind is on the list, the end of a condition as a change of one kind in its
place, ACKNOWLEDGE by the active marks it keeps. -/
theorem eventsAndAlarmsLatch : Obligations.EventsAndAlarmsLatch := by
  intro e f k t l hnodup
  refine ⟨t.raise_flag e f, latchAlarm_filter_kind hnodup, latchAlarm_filter_others l k, latchAlarm_kinds l k,
    calmAlarm_kinds_and_unacks l k, calmAlarm_filter_others l k, fun _ hx hkind => calmAlarm_inactive hx hkind,
    acknowledgeAlarms_eq l⟩

end Sys2Proof.Machine
end

section
/-! SUPPORT. What an act of the claim engine, the output unit, the demand unit or the sequencer keeps: the frame of
every such act (`Framed`), and that besides it makes no engine wait outside RUN and leaves a valve's record as its
engine's state gives it (`Acted`). One lemma per operation; the invariants of every step are derived from these. -/

namespace Sys2Proof.Machine
open Sys2Proof

set_option Elab.async false

/-! ## The bounds of the feed and of the statistics -/

/-- R126, R123: owed strokes, remainder, and the two rings of twelve slots. -/
structure FeedSound (f : Feed) : Prop where
  owed : f.owed ≤ 250
  remainder : f.remainder ≤ 999
  makeupLength : f.makeupRing.length = 12
  blowdownLength : f.blowdownRing.length = 12
  makeupSlots : ∀ n ∈ f.makeupRing, n ≤ 65535
  blowdownSlots : ∀ n ∈ f.blowdownRing, n ≤ 65535

/-- R171, R174, R172, section 10.5: counters, cells, last counter field, and one alarm entry for a kind. -/
structure StatsSound (t : Stats) : Prop where
  counters : t.counters.length = 20
  cells : t.histogram.length = 15
  cellBound : ∀ n ∈ t.histogram, n ≤ 65535
  lastCounter : t.lastCounter ≤ 20
  kinds : (t.alarms.map AlarmEntry.kind).Nodup

theorem Counter.number_le (c : Counter) : c.number ≤ 20 := by
  cases c with
  | grants p | yields p | withdrawals p => cases p <;> decide
  | _ => decide

theorem le_of_mem_set {l : List Nat} {i a b : Nat} (h : ∀ n ∈ l, n ≤ b) (ha : a ≤ b) : ∀ n ∈ l.set i a, n ≤ b := by
  intro n hn
  obtain hn | rfl := List.mem_or_eq_of_mem_set hn
  · exact h n hn
  · exact ha

theorem StatsSound.raise {t : Stats} (h : StatsSound t) (e : Event) : StatsSound (t.raise e) :=
  ⟨h.counters, h.cells, h.cellBound, h.lastCounter, h.kinds⟩

theorem StatsSound.count {t : Stats} (h : StatsSound t) (c : Counter) (n : Nat) : StatsSound (t.count c n) := by
  obtain ⟨h1, h2, h3, h4, h5⟩ := h
  have hset (w : Word32) : (t.counters.set (c.number - 1) w).length = 20 := by rw [List.length_set, h1]
  unfold Stats.count
  dsimp only
  split
  · exact ⟨hset _, h2, h3, c.number_le, h5⟩
  · split
    · exact ⟨hset _, h2, h3, c.number_le, h5⟩
    · exact ⟨hset _, h2, h3, h4, h5⟩

theorem StatsSound.grantWait {t : Stats} (h : StatsSound t) (p : Pool) (n : Nat) : StatsSound (t.grantWait p n) := by
  obtain ⟨h1, h2, h3, h4, h5⟩ := h
  exact ⟨h1, by simpa [Stats.grantWait] using h2, le_of_mem_set h3 (Nat.min_le_left _ _), h4, h5⟩

theorem StatsSound.latch {t : Stats} (h : StatsSound t) (k : AlarmKind) :
    StatsSound { t with alarms := latchAlarm t.alarms k } := by
  obtain ⟨h1, h2, h3, h4, h5⟩ := h
  refine ⟨h1, h2, h3, h4, ?_⟩
  rw [latchAlarm_kinds]
  split
  · exact h5
  · next hk => simpa [List.nodup_append, h5] using hk

theorem StatsSound.calm {t : Stats} (h : StatsSound t) (k : AlarmKind) :
    StatsSound { t with alarms := calmAlarm t.alarms k } := by
  obtain ⟨h1, h2, h3, h4, h5⟩ := h
  refine ⟨h1, h2, h3, h4, ?_⟩
  have hk := congrArg (List.map Prod.fst) (calmAlarm_kinds_and_unacks t.alarms k)
  simp only [List.map_map] at hk
  exact hk ▸ h5

theorem StatsSound.acknowledge {t : Stats} (h : StatsSound t) :
    StatsSound { t with alarms := acknowledgeAlarms t.alarms } := by
  obtain ⟨h1, h2, h3, h4, h5⟩ := h
  refine ⟨h1, h2, h3, h4, ?_⟩
  rw [acknowledgeAlarms_eq, List.map_map]
  exact h5.sublist (List.filter_sublist.map _)

theorem StatsSound.nameLast {s b : State} (h : StatsSound s.stats) : StatsSound (s.nameLast b).stats := by
  obtain ⟨h1, h2, h3, h4, h5⟩ := h
  refine ⟨by simpa using h1, by simpa using h2, by simpa using h3, ?_, by simpa using h5⟩
  obtain hl | ⟨c, -, hl⟩ := State.nameLast_lastCounter s b
  · exact hl ▸ h4
  · exact hl ▸ c.number_le

/-! ## The frame -/

/-- What every act inside an event keeps, but for those of station control, the peer table and the line, the ageing step,
the recomputation of the caps, and the meters. -/
structure Framed (s t : State) : Prop where
  held : t.held = s.held
  station : t.station = s.station
  peers : t.peers = s.peers
  line : t.line = s.line
  amount : ∀ p, (t.engine p).amount = (s.engine p).amount
  effCap : ∀ p, (t.engine p).effCap = (s.engine p).effCap
  ageing : ∀ p, (t.engine p).ageing ≤ (s.engine p).ageing
  feed : FeedSound s.feed → FeedSound t.feed
  stats : StatsSound s.stats → StatsSound t.stats

section
variable {s t u : State}

theorem Framed.refl (s : State) : Framed s s :=
  ⟨rfl, rfl, rfl, rfl, fun _ => rfl, fun _ => rfl, fun _ => Nat.le_refl _, id, id⟩

theorem Framed.trans (h : Framed s t) (k : Framed t u) : Framed s u :=
  ⟨k.held.trans h.held, k.station.trans h.station, k.peers.trans h.peers, k.line.trans h.line,
    fun p => (k.amount p).trans (h.amount p), fun p => (k.effCap p).trans (h.effCap p),
    fun p => Nat.le_trans (k.ageing p) (h.ageing p), k.feed ∘ h.feed, k.stats ∘ h.stats⟩

theorem Framed.of_same (held : t.held = s.held := by rfl) (station : t.station = s.station := by rfl)
    (peers : t.peers = s.peers := by rfl) (line : t.line = s.line := by rfl) (claim : t.claim = s.claim := by rfl)
    (feed : FeedSound s.feed → FeedSound t.feed := by exact id)
    (stats : StatsSound s.stats → StatsSound t.stats := by exact id) : Framed s t := by
  have he p : t.engine p = s.engine p := by cases p <;> simp only [State.engine, claim]
  exact ⟨held, station, peers, line, fun p => by rw [he], fun p => by rw [he], fun p => Nat.le_of_eq (by rw [he]), feed, stats⟩

theorem Framed.inRun (h : Framed s t) : t.inRun = s.inRun := by simp only [State.inRun, h.station]

theorem State.raise_framed (s : State) (e : Event) : Framed s (s.raise e) := .of_same (stats := (·.raise e))
theorem State.count_framed (s : State) (c : Counter) (n : Nat) : Framed s (s.count c n) :=
  .of_same (stats := (·.count c n))
theorem State.recordWait_framed (s : State) (p : Pool) (n : Nat) : Framed s (s.recordWait p n) :=
  .of_same (stats := (·.grantWait p n))
theorem State.occur_framed (s : State) (k : AlarmKind) : Framed s (s.occur k) := .of_same (stats := (·.latch k))
theorem State.calm_framed (s : State) (k : AlarmKind) : Framed s (s.calm k) := .of_same (stats := (·.calm k))
theorem State.pump_framed (s : State) (on : Bool) : Framed s (s.pump on) := .of_same

theorem FeedSound.noFlow {f : Feed} (h : FeedSound f) (w : Option NoFlowWatch) : FeedSound { f with noFlow := w } :=
  ⟨h.owed, h.remainder, h.makeupLength, h.blowdownLength, h.makeupSlots, h.blowdownSlots⟩

theorem State.startNoFlow_framed (s : State) (v : Valve) : Framed s (s.startNoFlow v) := by
  cases v
  · exact .of_same (feed := (·.noFlow _))
  · exact .refl s
theorem State.endNoFlow_framed (s : State) (v : Valve) : Framed s (s.endNoFlow v) := by
  cases v
  · exact .of_same (feed := (·.noFlow _))
  · exact .refl s
theorem State.setValve_framed (s : State) (v : Valve) (r : ValveRec) : Framed s (s.setValve v r) := by
  cases v <;> exact .of_same

/-- A change of an engine record that keeps amount and effective cap and raises no ageing. -/
structure Engine.Keeps (e f : Engine) : Prop where
  amount : f.amount = e.amount
  effCap : f.effCap = e.effCap
  ageing : f.ageing ≤ e.ageing

theorem State.setEngine_framed {p : Pool} {e : Engine} (h : (s.engine p).Keeps e) : Framed s (s.setEngine p e) := by
  have he q : (s.engine q).Keeps ((s.setEngine p e).engine q) := by
    by_cases hq : q = p
    · subst hq
      rw [State.engine_setEngine]
      exact h
    · rw [State.engine_setEngine_ne s e hq]
      exact ⟨rfl, rfl, Nat.le_refl _⟩
  exact ⟨by simp, by simp, by simp, by simp, fun q => (he q).amount, fun q => (he q).effCap, fun q => (he q).ageing,
    by simp, by simp⟩

/-! ### The engine's own changes -/

theorem Engine.toRest_keeps (e : Engine) : e.Keeps e.toRest := ⟨rfl, rfl, Nat.zero_le _⟩
theorem Engine.toAsking_keeps (e : Engine) (now : Nat) : e.Keeps (e.toAsking now) := ⟨rfl, rfl, Nat.le_refl _⟩
theorem Engine.noAgeing_toAsking_keeps (e : Engine) (now : Nat) : e.Keeps (e.noAgeing.toAsking now) :=
  ⟨rfl, rfl, Nat.zero_le _⟩
theorem Engine.toConfirming_keeps (e : Engine) : e.Keeps e.toConfirming := ⟨rfl, rfl, Nat.le_refl _⟩
theorem Engine.withdrawn_keeps (e : Engine) : e.Keeps e.withdrawn := ⟨rfl, rfl, Nat.le_refl _⟩
theorem Engine.granted_keeps (e : Engine) (now : Nat) (b : Bool) : e.Keeps (e.granted now b) :=
  ⟨rfl, rfl, Nat.le_refl _⟩
theorem Engine.endHold_keeps (e : Engine) : e.Keeps e.endHold := ⟨rfl, rfl, Nat.le_refl _⟩
theorem Engine.toLocked_keeps (e : Engine) : e.Keeps e.toLocked := ⟨rfl, rfl, Nat.zero_le _⟩
theorem Engine.toStuck_keeps (e : Engine) : e.Keeps e.toStuck := ⟨rfl, rfl, Nat.le_refl _⟩
theorem Engine.toStuckUnbidden_keeps (e : Engine) : e.Keeps e.toStuckUnbidden := ⟨rfl, rfl, Nat.zero_le _⟩
theorem Engine.toReleasing_keeps (e : Engine) (a b c : Bool) : e.Keeps (e.toReleasing a b c) := by
  cases c
  · exact ⟨rfl, rfl, Nat.zero_le _⟩
  · exact ⟨rfl, rfl, Nat.le_refl _⟩

/-! ### The operations on engines and valves -/

theorem State.askFromRest_framed (s : State) (p : Pool) : Framed s (s.askFromRest p) := by
  simp only [State.askFromRest]
  split
  · exact State.setEngine_framed ((s.engine p).noAgeing_toAsking_keeps s.now)
  · exact .refl s

theorem State.arriveRest_framed (s : State) (p : Pool) : Framed s (s.arriveRest p) :=
  (State.setEngine_framed (s.engine p).toRest_keeps).trans (State.askFromRest_framed _ p)

theorem State.closedNotice_framed (s : State) (v : Valve) : Framed s (s.closedNotice v) := by
  simp only [State.closedNotice]
  split
  · split
    · exact State.setEngine_framed (s.engine v.pool).toLocked_keeps
    · split
      · exact State.setEngine_framed ((s.engine v.pool).toAsking_keeps s.now)
      · exact s.arriveRest_framed v.pool
  · exact (s.raise_framed _).trans (State.arriveRest_framed _ _)
  all_goals exact .refl s

theorem State.stuckAlarms_framed (s : State) (p : Pool) : Framed s (s.stuckAlarms p) := by
  have h (n : Nat) : Framed s { s with freeIx := n } := .of_same
  simp only [State.stuckAlarms]
  split
  · split
    · exact (h _).trans ((State.occur_framed _ _).trans (State.occur_framed _ _))
    · exact (h _).trans (State.occur_framed _ _)
  · exact s.occur_framed _

theorem State.enterStuck_framed {p : Pool} {e : Engine} (h : (s.engine p).Keeps e) : Framed s (s.enterStuck p e) :=
  (State.setEngine_framed h).trans ((State.raise_framed _ _).trans (State.stuckAlarms_framed _ p))

theorem State.closeFailedNotice_framed (s : State) (v : Valve) : Framed s (s.closeFailedNotice v) := by
  simp only [State.closeFailedNotice]
  split
  · exact State.enterStuck_framed (s.engine v.pool).toStuck_keeps
  · exact .refl s

theorem State.unbiddenOpenNotice_framed (s : State) (v : Valve) : Framed s (s.unbiddenOpenNotice v) := by
  simp only [State.unbiddenOpenNotice]
  cases (s.engine v.pool).state with
  | rest | asking | confirming | locked => exact State.enterStuck_framed (s.engine v.pool).toStuckUnbidden_keeps
  | holding | releasing | stuck => exact .refl s

theorem State.closeCommand_framed (s : State) (v : Valve) : Framed s (s.closeCommand v) := by
  simp only [State.closeCommand]
  split
  · exact (s.setValve_framed v _).trans (State.closedNotice_framed _ v)
  · exact s.setValve_framed v _

theorem State.openCommand_framed (s : State) (v : Valve) : Framed s (s.openCommand v) := by
  rw [State.openCommand_eq]
  exact s.setValve_framed v _

theorem State.release_framed (s : State) (v : Valve) (a b c : Bool) : Framed s (s.release v a b c) :=
  (State.setEngine_framed ((s.engine v.pool).toReleasing_keeps a b c)).trans
    ((State.endNoFlow_framed _ v).trans (State.closeCommand_framed _ v))

end

end Sys2Proof.Machine
end

section
namespace Sys2Proof.Machine
open Sys2Proof

set_option Elab.async false

/-! ## Engines and valves together -/

theorem Valve.eq_of_pool_eq {v w : Valve} (h : w.pool = v.pool) : w = v := by
  cases v <;> cases w <;> first | rfl | cases h

/-- The states of an engine whose valve is closed with nothing left to wait for. -/
def EngineState.idle : EngineState → Bool
  | .rest | .asking | .confirming | .locked => true
  | .holding | .releasing | .stuck => false

/-- The valve is commanded open only while its engine holds. -/
def openOnly (e : EngineState) (r : ValveRec) : Prop := r.commanded = .opened → e = .holding

theorem valveMatches_idle {e : EngineState} (he : e.idle = true) : valveMatches e = valveMatches .rest := by
  cases e with
  | rest | asking | confirming | locked => rfl
  | holding | releasing | stuck => cases he

theorem valveMatches_of_idle {e f : EngineState} {r : ValveRec} (he : e.idle = true) (hf : f.idle = true)
    (h : valveMatches e r) : valveMatches f r := by
  rw [valveMatches_idle hf]
  rwa [valveMatches_idle he] at h

theorem openOnly_of_idle {e f : EngineState} {r : ValveRec} (he : e.idle = true) (h : openOnly e r) : openOnly f r := by
  intro ho
  rw [h ho] at he
  cases he

/-- What an act keeps besides its frame: outside RUN no engine begins to wait or to hold, a valve is opened only for an
engine that holds, and a valve's record stays the one its engine's state gives it. -/
structure Acted (s t : State) : Prop extends Framed s t where
  passive : s.inRun = false → ∀ p, (s.engine p).state.passive = true → (t.engine p).state.passive = true
  openOnly : ∀ v : Valve, openOnly (s.engine v.pool).state (s.valve v) → openOnly (t.engine v.pool).state (t.valve v)
  matched : ∀ v : Valve,
    valveMatches (s.engine v.pool).state (s.valve v) → valveMatches (t.engine v.pool).state (t.valve v)

section
variable {s t u : State}

theorem Acted.refl (s : State) : Acted s s := ⟨.refl s, fun _ _ => id, fun _ => id, fun _ => id⟩

theorem Acted.trans (h : Acted s t) (k : Acted t u) : Acted s u :=
  ⟨h.toFramed.trans k.toFramed, fun hr p => k.passive (h.inRun.trans hr) p ∘ h.passive hr p,
    fun v => k.openOnly v ∘ h.openOnly v, fun v => k.matched v ∘ h.matched v⟩

/-- An act that leaves every engine's state and both valves. -/
theorem Framed.acted (h : Framed s t) (he : ∀ p, (t.engine p).state = (s.engine p).state)
    (hv : ∀ v, t.valve v = s.valve v) : Acted s t :=
  ⟨h, fun _ p hp => by rwa [he p], fun v hp => by rwa [he, hv v], fun v hp => by rwa [he, hv v]⟩

theorem Framed.acted_of_claim (h : Framed s t) (hc : t.claim = s.claim := by rfl)
    (hb : t.out.blowdown = s.out.blowdown := by rfl) (hm : t.out.makeup = s.out.makeup := by rfl) : Acted s t :=
  h.acted (fun p => by cases p <;> simp only [State.engine, hc]) (fun v => by cases v <;> assumption)

/-- An act on one pool and its valve. -/
theorem Framed.acted_of_pool (h : Framed s t) (p : Pool) (he : ∀ q, q ≠ p → t.engine q = s.engine q)
    (hv : ∀ v : Valve, v.pool ≠ p → t.valve v = s.valve v)
    (hp : s.inRun = false → (s.engine p).state.passive = true → (t.engine p).state.passive = true)
    (ho : ∀ v : Valve, v.pool = p → Machine.openOnly (s.engine p).state (s.valve v) → Machine.openOnly (t.engine p).state (t.valve v))
    (hm : ∀ v : Valve, v.pool = p → valveMatches (s.engine p).state (s.valve v) → valveMatches (t.engine p).state (t.valve v)) :
    Acted s t := by
  refine ⟨h, fun hr q => ?_, fun v => ?_, fun v => ?_⟩
  · by_cases hq : q = p
    · exact hq ▸ hp hr
    · rw [he q hq]; exact id
  · by_cases hq : v.pool = p
    · exact hq ▸ ho v hq
    · rw [he _ hq, hv v hq]; exact id
  · by_cases hq : v.pool = p
    · exact hq ▸ hm v hq
    · rw [he _ hq, hv v hq]; exact id

theorem State.setEngine_acted {p : Pool} {e : Engine} (h : (s.engine p).Keeps e)
    (hp : s.inRun = false → (s.engine p).state.passive = true → e.state.passive = true)
    (hv : e.state = (s.engine p).state ∨ p = .biocide ∨ ((s.engine p).state.idle = true ∧ e.state.idle = true)) :
    Acted s (s.setEngine p e) := by
  refine (State.setEngine_framed h).acted_of_pool p (fun q hq => s.engine_setEngine_ne e hq) (fun v _ => by simp)
    (by simpa using hp) (fun v hvp ho => ?_) (fun v hvp hm => ?_)
  · rw [State.engine_setEngine, State.valve_setEngine]
    obtain hv | rfl | ⟨h1, h2⟩ := hv
    · rwa [hv]
    · cases v <;> cases hvp
    · exact openOnly_of_idle h1 ho
  · rw [State.engine_setEngine, State.valve_setEngine]
    obtain hv | rfl | ⟨h1, h2⟩ := hv
    · rwa [hv]
    · cases v <;> cases hvp
    · exact valveMatches_of_idle h1 h2 hm

/-- A change of an engine record that leaves its state. -/
theorem State.setEngine_acted_same {p : Pool} {e : Engine} (hs : e.state = (s.engine p).state)
    (h : (s.engine p).Keeps e) : Acted s (s.setEngine p e) :=
  State.setEngine_acted h (fun _ hp => by rwa [hs]) (.inl hs)

theorem State.raise_acted (s : State) (e : Event) : Acted s (s.raise e) := (s.raise_framed e).acted_of_claim
theorem State.count_acted (s : State) (c : Counter) (n : Nat) : Acted s (s.count c n) :=
  (s.count_framed c n).acted_of_claim
theorem State.recordWait_acted (s : State) (p : Pool) (n : Nat) : Acted s (s.recordWait p n) :=
  (s.recordWait_framed p n).acted_of_claim
theorem State.occur_acted (s : State) (k : AlarmKind) : Acted s (s.occur k) := (s.occur_framed k).acted_of_claim
theorem State.calm_acted (s : State) (k : AlarmKind) : Acted s (s.calm k) := (s.calm_framed k).acted_of_claim
theorem State.pump_acted (s : State) (on : Bool) : Acted s (s.pump on) := (s.pump_framed on).acted_of_claim

/-- A change of demand unit, sequencer and free values. -/
theorem Acted.of_same (held : t.held = s.held := by rfl) (station : t.station = s.station := by rfl)
    (peers : t.peers = s.peers := by rfl) (line : t.line = s.line := by rfl) (claim : t.claim = s.claim := by rfl)
    (blowdown : t.out.blowdown = s.out.blowdown := by rfl) (makeup : t.out.makeup = s.out.makeup := by rfl)
    (feed : FeedSound s.feed → FeedSound t.feed := by exact id)
    (stats : StatsSound s.stats → StatsSound t.stats := by exact id) : Acted s t :=
  (Framed.of_same held station peers line claim feed stats).acted_of_claim claim blowdown makeup

/-- An act after a change of demand unit, sequencer, free values and the like. -/
theorem Acted.after (k : Acted t u) (held : t.held = s.held := by rfl) (station : t.station = s.station := by rfl)
    (peers : t.peers = s.peers := by rfl) (line : t.line = s.line := by rfl) (claim : t.claim = s.claim := by rfl)
    (blowdown : t.out.blowdown = s.out.blowdown := by rfl) (makeup : t.out.makeup = s.out.makeup := by rfl)
    (feed : FeedSound s.feed → FeedSound t.feed := by exact id)
    (stats : StatsSound s.stats → StatsSound t.stats := by exact id) : Acted s u :=
  (Acted.of_same held station peers line claim blowdown makeup feed stats).trans k

/-! ### Arrival in REST, need notices -/

theorem State.askFromRest_acted (s : State) (p : Pool) : Acted s (s.askFromRest p) := by
  simp only [State.askFromRest]
  split
  · next h =>
    simp only [Bool.and_eq_true, beq_iff_eq] at h
    obtain ⟨⟨hrest, hrun⟩, -⟩ := h
    refine State.setEngine_acted ((s.engine p).noAgeing_toAsking_keeps s.now) (fun hr => ?_) (.inr (.inr ?_))
    · rw [hrun] at hr; cases hr
    · rw [hrest]; exact ⟨rfl, rfl⟩
  · exact .refl s

/-- An arrival in REST from a state in which the valve is closed, or of the engine without a valve. -/
theorem State.arriveRest_acted {p : Pool} (h : p = .biocide ∨ (s.engine p).state.idle = true) :
    Acted s (s.arriveRest p) :=
  (State.setEngine_acted (s.engine p).toRest_keeps (fun _ _ => rfl) (.inr (h.imp_right (⟨·, rfl⟩)))).trans
    (State.askFromRest_acted _ p)

theorem State.giveUpWaiting_acted {p : Pool} (h : (s.engine p).state.idle = true) : Acted s (s.giveUpWaiting p) :=
  (State.setEngine_acted_same (p := p) (e := { s.engine p with grantWait := none }) rfl
    ⟨rfl, rfl, Nat.le_refl _⟩).trans (State.arriveRest_acted (.inr (by rw [State.engine_setEngine]; exact h)))

theorem State.withdraw_acted {p : Pool} (h : (s.engine p).state = .confirming) : Acted s (s.withdraw p) :=
  (State.setEngine_acted (s.engine p).withdrawn_keeps (fun _ hp => by rw [h] at hp; cases hp)
    (.inr (.inr ⟨by rw [h]; rfl, rfl⟩))).trans ((State.raise_acted _ _).trans (State.count_acted _ _ _))

theorem State.needRises_acted (s : State) (p : Pool) : Acted s (s.needRises p) := by
  simp only [State.needRises]
  cases h : (s.engine p).state with
  | rest => exact s.askFromRest_acted p
  | holding | releasing => exact State.setEngine_acted_same (by rw [h]) ⟨rfl, rfl, Nat.le_refl _⟩
  | asking | confirming | stuck | locked => exact .refl s

/-! ### A release and a grant -/

theorem Engine.released_congr (e : Engine) {s t : State} (hs : t.station = s.station) (hn : t.now = s.now) :
    e.released t = e.released s := by
  have hr : t.inRun = s.inRun := by simp only [State.inRun, hs]
  unfold Engine.released
  rw [hr, hn]

theorem Engine.released_idle (e : Engine) (s : State) : (e.released s).state.idle = true := by
  simp only [Engine.released]
  (repeat' split) <;> rfl

theorem Engine.released_passive (e : Engine) {s : State} (h : s.inRun = false) :
    (e.released s).state.passive = true := by
  simp only [Engine.released, h, Bool.and_false, Bool.false_and, Bool.false_eq_true, if_false]
  split <;> rfl

theorem Engine.toReleasing_state (e : Engine) (a b c : Bool) : (e.toReleasing a b c).state = .releasing := rfl

/-- A release of a valve that is seen closed is over at once (R53, R109). -/
theorem State.release_of_seenClosed {s : State} {v : Valve} (a b c : Bool) (h : (s.valve v).seenClosed = true) :
    s.release v a b c = ((s.endNoFlow v).setValve v (s.valve v).shut).setEngine v.pool
      (((s.engine v.pool).toReleasing a b c).released s) := by
  have hv : ((s.setEngine v.pool ((s.engine v.pool).toReleasing a b c)).endNoFlow v).valve v = s.valve v := by simp
  have hs : (((s.setEngine v.pool ((s.engine v.pool).toReleasing a b c)).endNoFlow v).setValve v
      (s.valve v).shut).engine v.pool = (s.engine v.pool).toReleasing a b c := by simp
  simp only [State.release]
  rw [State.closeCommand_of_seenClosed (by rwa [hv]), hv, State.closedNotice_of_releasing (by rw [hs]; rfl), hs,
    Engine.released_congr _ (s := s) (by simp) (by simp)]
  cases v <;> rfl

theorem ValveRec.shut_matches {r : ValveRec} {e : EngineState} (hr : r.seenClosed = true) (he : e.idle = true) :
    valveMatches e r.shut := by
  simp only [ValveRec.seenClosed, Bool.and_eq_true, beq_iff_eq] at hr
  refine valveMatches_of_idle (e := .rest) rfl he ⟨rfl, rfl, fun _ => hr.2⟩

theorem ValveRec.closing_matches {r : ValveRec} (hr : r.seenClosed = false) : valveMatches .releasing r.closing := by
  refine ⟨rfl, rfl, fun hf => ?_⟩
  cases hs : r.settled
  · exact hs
  · simp [ValveRec.seenClosed, show r.feedbackPresent = true from hf, hs] at hr

theorem State.release_acted (s : State) (v : Valve) (a b c : Bool) : Acted s (s.release v a b c) := by
  have hn (w : Valve) (hw : w.pool ≠ v.pool) : w ≠ v := fun e => hw (congrArg Valve.pool e)
  refine (s.release_framed v a b c).acted_of_pool v.pool (fun q hq => State.release_engine_ne s a b c hq)
    (fun w h => State.release_valve_ne s a b c (hn w h)) ?_ ?_ ?_
  all_goals cases hc : (s.valve v).seenClosed
  case _ => rw [State.release_of_not_seenClosed a b c hc]; intro _ _; simp [Engine.toReleasing_state, EngineState.passive]
  case _ =>
    rw [State.release_of_seenClosed a b c hc]
    intro hr _
    rw [State.engine_setEngine]
    exact Engine.released_passive _ hr
  case _ =>
    rw [State.release_of_not_seenClosed a b c hc]
    rintro w h -
    rw [Valve.eq_of_pool_eq h, State.valve_setValve]
    rintro ⟨⟩
  case _ =>
    rw [State.release_of_seenClosed a b c hc]
    rintro w h -
    rw [Valve.eq_of_pool_eq h, State.valve_setEngine, State.valve_setValve]
    rintro ⟨⟩
  case _ =>
    rw [State.release_of_not_seenClosed a b c hc]
    rintro w h -
    rw [Valve.eq_of_pool_eq h, State.valve_setValve]
    simpa [Engine.toReleasing_state] using ValveRec.closing_matches hc
  case _ =>
    rw [State.release_of_seenClosed a b c hc]
    rintro w h -
    rw [Valve.eq_of_pool_eq h, State.valve_setEngine, State.valve_setValve, State.engine_setEngine]
    exact ValveRec.shut_matches hc (Engine.released_idle _ s)

end

end Sys2Proof.Machine
end

section
namespace Sys2Proof.Machine
open Sys2Proof

set_option Elab.async false

section
variable {s : State}

/-! ### Demand -/

theorem State.needFalls_acted (s : State) (p : Pool) : Acted s (s.needFalls p) := by
  simp only [State.needFalls]
  cases h : (s.engine p).state with
  | asking | confirming => exact State.giveUpWaiting_acted (by rw [h]; rfl)
  | holding =>
    dsimp only
    split
    · split
      · exact s.release_acted _ _ _ _
      · exact State.setEngine_acted_same (by rw [h]) ⟨rfl, rfl, Nat.le_refl _⟩
    · exact .refl s
  | releasing => exact State.setEngine_acted_same (by rw [h]) ⟨rfl, rfl, Nat.le_refl _⟩
  | rest | stuck | locked => exact .refl s

theorem State.needNotice_acted (s : State) (p : Pool) (need : Bool) (base : Nat) :
    Acted s (s.needNotice p need base) := by
  have h : Acted s (s.setEngine p { s.engine p with need := need, base := base }) :=
    State.setEngine_acted_same rfl ⟨rfl, rfl, Nat.le_refl _⟩
  simp only [State.needNotice]
  split
  · exact h.trans (State.needRises_acted _ p)
  · split
    · exact h.trans (State.needFalls_acted _ p)
    · exact h

theorem State.recomputeDischarge_acted (s : State) : Acted s s.recomputeDischarge := by
  simp only [State.recomputeDischarge]
  split
  · exact .refl s
  · exact Acted.after (State.needNotice_acted _ _ _ _)

theorem State.recomputeSupply_acted (s : State) : Acted s s.recomputeSupply := by
  simp only [State.recomputeSupply]
  split
  · exact .refl s
  · exact Acted.after (State.needNotice_acted _ _ _ _)

theorem State.recomputeBiocide_acted (s : State) : Acted s s.recomputeBiocide :=
  Acted.after (State.needNotice_acted _ _ _ _)

theorem State.request_acted (s : State) (force suppress : Bool) : Acted s (s.request force suppress) :=
  Acted.after (State.recomputeDischarge_acted _)

theorem State.calmEnded_acted (s : State) (before : Demand) : Acted s (s.calmEnded before) := by
  simp only [State.calmEnded]
  (repeat' split)
  · exact (s.calm_acted _).trans (State.calm_acted _ _)
  · exact s.calm_acted _
  · exact s.calm_acted _
  · exact .refl s

theorem State.scanDemand_acted (s : State) : Acted s s.scanDemand := by
  have h (u : State) : Acted u (((u.calmEnded s.demand).recomputeDischarge).recomputeSupply).recomputeBiocide :=
    (u.calmEnded_acted _).trans ((State.recomputeDischarge_acted _).trans
      ((State.recomputeSupply_acted _).trans (State.recomputeBiocide_acted _)))
  simp only [State.scanDemand]
  split
  · exact Acted.after ((State.raise_acted _ _).trans (h _))
  · exact Acted.after (h _)

/-! ### The sequencer -/

theorem State.cycleNotice_acted (s : State) : Acted s s.cycleNotice :=
  Acted.after (State.needNotice_acted _ _ _ _)

theorem State.biocideToRest_acted (s : State) : Acted s s.biocideToRest :=
  (State.setEngine_acted_same (p := .biocide) (e := (s.engine .biocide).endHold) rfl
    (s.engine .biocide).endHold_keeps).trans (State.arriveRest_acted (.inl rfl))

theorem State.releaseBiocide_acted (s : State) : Acted s s.releaseBiocide := by
  simp only [State.releaseBiocide]
  split
  · exact s.biocideToRest_acted
  · exact .refl s

theorem State.abortCycle_acted (s : State) : Acted s s.abortCycle := by
  have h (u : State) (b : Sequencer) : Acted u
      (((({ u.releaseBiocide with bio := b }.raise .biocideAborted).occur .biocideAborted).cycleNotice).request
        false false) :=
    u.releaseBiocide_acted.trans (Acted.after ((State.raise_acted _ _).trans ((State.occur_acted _ _).trans
      ((State.cycleNotice_acted _).trans (State.request_acted _ _ _)))))
  simp only [State.abortCycle]
  split
  · exact (s.pump_acted _).trans (h _ _)
  · exact h s _

theorem State.abortIfRunning_acted (s : State) : Acted s s.abortIfRunning := by
  simp only [State.abortIfRunning]
  split
  · exact s.abortCycle_acted
  · exact .refl s

theorem State.forcedRelease_acted (s : State) (p : Pool) : Acted s (s.forcedRelease p) := by
  simp only [State.forcedRelease]
  cases h : (s.engine p).state with
  | holding =>
    dsimp only
    split
    · exact s.release_acted _ _ _ _
    · exact s.biocideToRest_acted.trans (State.abortIfRunning_acted _)
  | asking | confirming => exact State.giveUpWaiting_acted (by rw [h]; rfl)
  | rest | releasing | stuck | locked => exact .refl s

theorem State.releaseAll_acted (s : State) : Acted s s.releaseAll :=
  (s.forcedRelease_acted _).trans ((State.forcedRelease_acted _ _).trans (State.forcedRelease_acted _ _))

theorem State.enterDue_acted (s : State) : Acted s s.enterDue := Acted.after (State.cycleNotice_acted _)

theorem State.enterClosing_acted (s : State) : Acted s s.enterClosing := by
  have h : Acted s { s with bio := { s.bio with cycle := .closing, phase := none }, freeIx := s.freeIx + 1 }.cycleNotice :=
    Acted.after (State.cycleNotice_acted _)
  simp only [State.enterClosing]
  split
  · exact h.trans (Acted.after ((State.forcedRelease_acted _ _).trans (State.recomputeDischarge_acted _)))
  · exact h.trans (Acted.after ((State.recomputeDischarge_acted _).trans (State.forcedRelease_acted _ _)))

theorem State.startPrebleed_acted (s : State) : Acted s s.startPrebleed :=
  Acted.after ((State.cycleNotice_acted _).trans (State.request_acted _ _ _))

theorem State.enterPrebleed_acted (s : State) : Acted s s.enterPrebleed := by
  simp only [State.enterPrebleed]
  split
  · exact Acted.after (State.enterClosing_acted _)
  · exact Acted.after (State.startPrebleed_acted _)

theorem State.holdingNotice_acted (s : State) : Acted s s.holdingNotice := by
  simp only [State.holdingNotice]
  split
  · split
    · exact s.enterPrebleed_acted
    · exact Acted.after (State.enterClosing_acted _)
  · exact s.releaseBiocide_acted

theorem State.prebleedTest_acted (s : State) : Acted s s.prebleedTest := by
  simp only [State.prebleedTest]
  split
  · exact s.enterClosing_acted
  · exact .refl s

theorem State.enterDosing_acted (s : State) : Acted s s.enterDosing :=
  Acted.after ((State.cycleNotice_acted _).trans (State.pump_acted _ _))

theorem State.closingTest_acted (s : State) : Acted s s.closingTest := by
  simp only [State.closingTest]
  cases (s.engine .discharge).state with
  | rest | locked => exact s.enterDosing_acted
  | stuck => exact s.abortCycle_acted
  | asking | confirming | holding | releasing => exact .refl s

theorem State.endDose_acted (s : State) : Acted s s.endDose := by
  have h (u : State) (b : Sequencer) : Acted u { u with bio := b }.cycleNotice := .after (State.cycleNotice_acted _)
  unfold State.endDose
  exact (s.pump_acted false).trans ((State.releaseBiocide_acted _).trans
    ((State.count_acted _ .biocideDoses 1).trans (h _ _)))

theorem State.endContact_acted (s : State) : Acted s s.endContact := by
  have h : Acted s ((s.request s.demand.force false).raise .biocideComplete) :=
    (s.request_acted _ _).trans (State.raise_acted _ _)
  simp only [State.endContact]
  split
  · exact h.trans ((State.calm_acted _ _).trans (Acted.after (State.cycleNotice_acted _)))
  · exact h.trans (Acted.after (State.cycleNotice_acted _))

/-! ### The evaluation -/

theorem State.yieldPool_acted (s : State) (p : Pool) : Acted s (s.yieldPool p) := by
  simp only [State.yieldPool]
  split
  · exact (s.release_acted _ _ _ _).trans ((State.raise_acted _ _).trans (State.count_acted _ _ _))
  · exact s.biocideToRest_acted.trans ((State.raise_acted _ _).trans ((State.count_acted _ _ _).trans
      (State.abortIfRunning_acted _)))

theorem State.evaluateAsking_acted {p : Pool} (h : (s.engine p).state = .asking) : Acted s (s.evaluateAsking p) := by
  simp only [State.evaluateAsking]
  split
  · exact State.setEngine_acted (s.engine p).toConfirming_keeps (fun _ hp => by rw [h] at hp; cases hp)
      (.inr (.inr ⟨by rw [h]; rfl, rfl⟩))
  · exact .refl s

theorem State.evaluate_acted (s : State) (p : Pool) : Acted s (s.evaluate p) := by
  simp only [State.evaluate]
  cases h : (s.engine p).state with
  | asking => exact State.evaluateAsking_acted h
  | confirming =>
    dsimp only
    split
    · exact .refl s
    · exact State.withdraw_acted h
  | holding =>
    dsimp only
    split
    · exact .refl s
    · exact s.yieldPool_acted p
  | rest | releasing | stuck | locked => exact .refl s

theorem State.evaluateAll_acted (s : State) : Acted s s.evaluateAll := by
  have h (u : State) (p q r : Pool) : Acted u (((u.evaluate p).evaluate q).evaluate r) :=
    (u.evaluate_acted p).trans ((State.evaluate_acted _ q).trans (State.evaluate_acted _ r))
  simp only [State.evaluateAll]
  split
  · split <;> exact Acted.after (h _ _ _ _)
  · exact h _ _ _ _

theorem State.askExpires_acted (s : State) (p : Pool) : Acted s (s.askExpires p) :=
  (State.setEngine_acted_same (p := p) (e := { s.engine p with windowExpired := true, phase := none }) rfl
    ⟨rfl, rfl, Nat.le_refl _⟩).trans (State.evaluate_acted _ p)

theorem State.evaluateIfAsking_acted (s : State) (p : Pool) : Acted s (s.evaluateIfAsking p) := by
  simp only [State.evaluateIfAsking]
  split
  · exact s.evaluate_acted p
  · exact .refl s

theorem State.periodicNotice_acted (s : State) : Acted s s.periodicNotice :=
  (s.evaluateIfAsking_acted _).trans ((State.evaluateIfAsking_acted _ _).trans (State.evaluateIfAsking_acted _ _))

/-- The record of a valve after an open command matches an engine in HOLDING. -/
theorem State.openCommand_matches (s : State) (v : Valve) : valveMatches .holding ((s.openCommand v).valve v) := by
  rw [State.openCommand_eq, State.valve_setValve]
  cases (s.valve v).seenClosed
  all_goals exact ⟨rfl, nofun, nofun⟩

/-- R46: a grant to an engine in CONFIRMING. -/
theorem State.grant_acted {p : Pool} (h : (s.engine p).state = .confirming) : Acted s (s.grant p) := by
  have hne (hp : (s.engine p).state.passive = true) : False := by rw [h] at hp; cases hp
  have hgrant (hv : p = .biocide) : Acted s (s.setEngine p ((s.engine p).granted s.now p.valve.isSome)) :=
    State.setEngine_acted ((s.engine p).granted_keeps _ _) (fun _ hp => (hne hp).elim) (.inr (.inl hv))
  have hframe : Framed s (((s.setEngine p ((s.engine p).granted s.now p.valve.isSome)).count (.grants p) 1).recordWait p
      (s.grantWait p)) :=
    (State.setEngine_framed ((s.engine p).granted_keeps _ _)).trans
      ((State.count_framed _ _ _).trans (State.recordWait_framed _ _ _))
  simp only [State.grant]
  split
  · next v hv =>
    have hp := Pool.valve_pool hv
    subst hp
    refine (hframe.trans ((State.openCommand_framed _ v).trans (State.startNoFlow_framed _ v))).acted_of_pool v.pool
      (fun q hq => ?_) (fun w hw => ?_) (fun _ hp => (hne hp).elim) (fun w hvp _ _ => ?_) (fun w hvp _ => ?_)
    · simp [State.engine_setEngine_ne, hq]
    · simp [State.openCommand_valve_ne _ (fun e : w = v => hw (congrArg Valve.pool e))]
    · simp [Engine.granted]
    · rw [Valve.eq_of_pool_eq hvp]
      simpa [Engine.granted] using State.openCommand_matches _ v
  · next hv =>
    have hb : p = .biocide := by cases p <;> first | rfl | cases hv
    exact (hgrant hb).trans ((State.count_acted _ _ _).trans ((State.recordWait_acted _ _ _).trans
      (State.holdingNotice_acted _)))

theorem State.confirmExpires_acted {p : Pool} (h : (s.engine p).state = .confirming) :
    Acted s (s.confirmExpires p) := by
  simp only [State.confirmExpires]
  split
  · exact State.grant_acted h
  · exact State.withdraw_acted h

theorem State.calmValveFault_acted (s base : State) : Acted s (s.calmValveFault base) := by
  simp only [State.calmValveFault]
  split
  · exact s.calm_acted _
  · exact .refl s

theorem State.unlock_acted (s : State) (p : Pool) : Acted s (s.unlock p) := by
  simp only [State.unlock]
  split
  · next h => exact State.arriveRest_acted (.inr (by rw [beq_iff_eq.mp h]; rfl))
  · exact .refl s

theorem State.acknowledge_acted (s : State) : Acted s s.acknowledge :=
  (Acted.of_same (stats := StatsSound.acknowledge)).trans
    ((State.unlock_acted _ _).trans ((State.unlock_acted _ _).trans (State.unlock_acted _ _)))

end

end Sys2Proof.Machine
end

section
/-! SUPPORT. The invariants that each step keeps on its own (R61, R106 to R112, the bounds, R65, R36, R92): what they need
of an operation, the operations of the line, and the end of an event. -/

namespace Sys2Proof.Machine
open Sys2Proof

set_option Elab.async false

/-! ## The invariants of one step -/

/-- R36, R35, R162, R77 together, as the caps need one another. -/
structure CapsSound (s : State) : Prop where
  smallest : CapsSmallest s
  amounts : AmountsWithinOwn s
  unloaded : UnloadedOutsideWork s
  table : TableOnlyReporting s

/-- R65, R82, R77. -/
structure TableSound (s : State) : Prop where
  ordered : TableInOrder s
  sourced : QueueSourced s
  reporting : TableOnlyReporting s

/-- R126, R81, R84, R38, R171, R174, R123, R172, section 10.5. -/
structure BoundsSound (s : State) : Prop where
  feed : FeedSound s.feed
  stats : StatsSound s.stats
  queue : s.line.rxQueue.length ≤ 4
  chars : s.line.rxChars.length ≤ 31
  ageing : ∀ p, (s.engine p).ageing ≤ 55

/-- R106 to R112. -/
structure ValvesSound (s : State) : Prop where
  openOnly : OpenOnlyHolding s
  matched : ValvesMatch s

theorem boundsSound_iff (s : State) : BoundsSound s ↔ Bounded s ∧ OneEntryPerKind s := by
  constructor
  · rintro ⟨⟨f1, f2, f3, f4, f5, f6⟩, ⟨t1, t2, t3, t4, t5⟩, hq, hc, ha⟩
    exact ⟨⟨f1, f2, hq, hc, ha, t1, t2, f3, f4, t3, f5, f6, t4⟩, t5⟩
  · rintro ⟨⟨f1, f2, hq, hc, ha, t1, t2, f3, f4, t3, f5, f6, t4⟩, t5⟩
    exact ⟨⟨f1, f2, f3, f4, f5, f6⟩, ⟨t1, t2, t3, t4, t5⟩, hq, hc, ha⟩

/-- Each invariant but R61's passes from the first state to the second. -/
structure Sustains (s t : State) : Prop where
  valves : ValvesSound s → ValvesSound t
  bounds : BoundsSound s → BoundsSound t
  table : TableSound s → TableSound t
  caps : CapsSound s → CapsSound t
  onLine : OnLineFrameReady s → OnLineFrameReady t

/-- Each invariant passes from the first state to the second. -/
structure Keeps (s t : State) : Prop extends Sustains s t where
  passive : PassiveOutsideRun s → PassiveOutsideRun t

section
variable {s t u : State}

theorem Sustains.refl (s : State) : Sustains s s := ⟨id, id, id, id, id⟩

theorem Sustains.trans (h : Sustains s t) (k : Sustains t u) : Sustains s u :=
  ⟨k.valves ∘ h.valves, k.bounds ∘ h.bounds, k.table ∘ h.table, k.caps ∘ h.caps, k.onLine ∘ h.onLine⟩

theorem Keeps.refl (s : State) : Keeps s s := ⟨.refl s, id⟩

theorem Keeps.trans (h : Keeps s t) (k : Keeps t u) : Keeps s u :=
  ⟨h.toSustains.trans k.toSustains, k.passive ∘ h.passive⟩

/-! ## Invariants that read the same parts -/

theorem ValvesSound.of_same (h : ValvesSound s) (held : t.held = s.held) (state : t.station.state = s.station.state)
    (engine : ∀ p, (t.engine p).state = (s.engine p).state) (valve : ∀ v, t.valve v = s.valve v) : ValvesSound t := by
  obtain ⟨h1, h2⟩ := h
  refine ⟨fun v => ?_, fun hh hw v => ?_⟩
  · rw [valve, engine]; exact h1 v
  · rw [valve, engine]; exact h2 (held ▸ hh) (state ▸ hw) v

theorem PassiveOutsideRun.of_same (h : PassiveOutsideRun s) (state : t.station.state = s.station.state)
    (engine : ∀ p, (t.engine p).state = (s.engine p).state) : PassiveOutsideRun t := by
  intro hr p
  rw [engine]
  exact h (state ▸ hr) p

theorem TableInOrder.of_same (h : TableInOrder s) (number : t.station.number = s.station.number)
    (peers : t.peers = s.peers) : TableInOrder t := by
  unfold TableInOrder
  rwa [peers, number]

theorem TableOnlyReporting.of_same (h : TableOnlyReporting s) (state : t.station.state = s.station.state)
    (peers : t.peers = s.peers) : TableOnlyReporting t := by
  unfold TableOnlyReporting
  rwa [peers, state]

theorem CapsSmallest.of_same (h : CapsSmallest s) (cfg : t.station.cfg = s.station.cfg) (peers : t.peers = s.peers)
    (effCap : ∀ p, (t.engine p).effCap = (s.engine p).effCap) : CapsSmallest t := by
  intro p
  rw [effCap, cfg, peers]
  exact h p

theorem CapsSound.of_same (h : CapsSound s) (state : t.station.state = s.station.state)
    (cfg : t.station.cfg = s.station.cfg) (peers : t.peers = s.peers)
    (amount : ∀ p, (t.engine p).amount = (s.engine p).amount)
    (effCap : ∀ p, (t.engine p).effCap = (s.engine p).effCap) : CapsSound t := by
  obtain ⟨h1, h2, h3, h4⟩ := h
  refine ⟨h1.of_same cfg peers effCap, fun p => ?_, fun hw => ?_, h4.of_same state peers⟩
  · rw [amount, cfg]; exact h2 p
  · obtain ⟨hc, hp⟩ := h3 (state ▸ hw)
    exact ⟨cfg.trans hc, fun p => by rw [effCap, amount]; exact hp p⟩

/-- An act of the claim engine and its neighbours keeps every invariant. -/
theorem Acted.keeps (h : Acted s t) : Keeps s t where
  passive hs hr p :=
    h.passive (by simpa [State.inRun, h.station] using hr) p (hs (by rwa [h.station] at hr) p)
  valves := fun ⟨h1, h2⟩ =>
    ⟨fun v => h.openOnly v (h1 v), fun hh hw v => h.matched v (h2 (h.held ▸ hh) (h.station ▸ hw) v)⟩
  bounds := fun ⟨h1, h2, h3, h4, h5⟩ =>
    ⟨h.feed h1, h.stats h2, by rwa [h.line], by rwa [h.line], fun p => Nat.le_trans (h.ageing p) (h5 p)⟩
  table := fun ⟨h1, h2, h3⟩ =>
    ⟨h1.of_same (by rw [h.station]) h.peers, by unfold QueueSourced; rwa [h.line], h3.of_same (by rw [h.station]) h.peers⟩
  caps := fun hc => hc.of_same (by rw [h.station]) (by rw [h.station]) h.peers h.amount h.effCap
  onLine hl := by unfold OnLineFrameReady; rwa [h.line]

/-! ## The line -/

/-- An act of the line alone, counting: the frame being collected and the receive queue stay within their bounds, and the
on-line frame stays ready. -/
structure LineAct (s t : State) : Prop where
  held : t.held = s.held
  station : t.station = s.station
  peers : t.peers = s.peers
  claim : t.claim = s.claim
  valve : ∀ v, t.valve v = s.valve v
  feed : t.feed = s.feed
  stats : StatsSound s.stats → StatsSound t.stats
  queue : s.line.rxQueue.length ≤ 4 → t.line.rxQueue.length ≤ 4
  chars : s.line.rxChars.length ≤ 31 → t.line.rxChars.length ≤ 31
  sourced : QueueSourced s → QueueSourced t
  onLine : OnLineFrameReady s → OnLineFrameReady t

theorem LineAct.refl (s : State) : LineAct s s := ⟨rfl, rfl, rfl, rfl, fun _ => rfl, rfl, id, id, id, id, id⟩

theorem LineAct.trans (h : LineAct s t) (k : LineAct t u) : LineAct s u :=
  ⟨k.held.trans h.held, k.station.trans h.station, k.peers.trans h.peers, k.claim.trans h.claim,
    fun v => (k.valve v).trans (h.valve v), k.feed.trans h.feed, k.stats ∘ h.stats, k.queue ∘ h.queue, k.chars ∘ h.chars,
    k.sourced ∘ h.sourced, k.onLine ∘ h.onLine⟩

theorem LineAct.engine (h : LineAct s t) (p : Pool) : t.engine p = s.engine p := by
  cases p <;> simp only [State.engine, h.claim]

theorem LineAct.keeps (h : LineAct s t) : Keeps s t where
  passive hs := hs.of_same (by rw [h.station]) (fun p => by rw [h.engine])
  valves hs := hs.of_same h.held (by rw [h.station]) (fun p => by rw [h.engine]) h.valve
  bounds := fun ⟨h1, h2, h3, h4, h5⟩ =>
    ⟨h.feed ▸ h1, h.stats h2, h.queue h3, h.chars h4, fun p => by rw [h.engine]; exact h5 p⟩
  table := fun ⟨h1, h2, h3⟩ =>
    ⟨h1.of_same (by rw [h.station]) h.peers, h.sourced h2, h3.of_same (by rw [h.station]) h.peers⟩
  caps hc := hc.of_same (by rw [h.station]) (by rw [h.station]) h.peers (fun p => by rw [h.engine])
    (fun p => by rw [h.engine])
  onLine := h.onLine

/-- An act on the transmit path: the receiver stays. -/
theorem LineAct.of_slots (held : t.held = s.held := by rfl) (station : t.station = s.station := by rfl)
    (peers : t.peers = s.peers := by rfl) (claim : t.claim = s.claim := by rfl) (out : t.out = s.out := by rfl)
    (feed : t.feed = s.feed := by rfl) (stats : StatsSound s.stats → StatsSound t.stats := by exact id)
    (queue : t.line.rxQueue = s.line.rxQueue := by rfl) (chars : t.line.rxChars = s.line.rxChars := by rfl)
    (onLine : OnLineFrameReady s → OnLineFrameReady t := by exact id) : LineAct s t :=
  ⟨held, station, peers, claim, fun v => by cases v <;> simp only [State.valve, out], feed, stats, fun h => by rwa [queue],
    fun h => by rwa [chars], fun h => by unfold QueueSourced; rwa [queue], onLine⟩

theorem State.count_lineAct (s : State) (c : Counter) (n : Nat) : LineAct s (s.count c n) :=
  .of_slots (stats := (·.count c n))
theorem State.raise_lineAct (s : State) (e : Event) : LineAct s (s.raise e) := .of_slots (stats := (·.raise e))

/-- R92: a frame on line made ready. -/
theorem onLineReady_of_fresh {l : OnLine} {s : State} (h : s.line.onLine = some l)
    (hb : l.bytes = l.frame.encode s.line.seq) (hf : l.failures < 8) : OnLineFrameReady s := by
  refine ⟨fun o ho => ?_, fun ho => ?_⟩
  · cases h.symm.trans ho
    exact ⟨hb, hf⟩
  · cases h.symm.trans ho

theorem Line.moveUp_rx (l : Line) : l.moveUp.rxQueue = l.rxQueue ∧ l.moveUp.rxChars = l.rxChars := by
  unfold Line.moveUp
  split <;> exact ⟨rfl, rfl⟩

/-- R92: a move up makes the frame on line ready, whatever waited in next. -/
theorem State.moveUp_ready (s : State) (h : ∀ o, s.line.onLine = some o → o.bytes = o.frame.encode s.line.seq ∧ o.failures < 8) :
    OnLineFrameReady s.moveUp := by
  unfold State.moveUp Line.moveUp
  split
  · exact onLineReady_of_fresh rfl rfl (by decide : 0 < 8)
  · next hn =>
    refine ⟨h, fun ho => ?_⟩
    cases hx : s.line.nextSlot with
    | none => rfl
    | some f => exact (hn f ho hx).elim

theorem State.placeFrame_lineAct (s : State) (f : TxFrame) : LineAct s (s.placeFrame f) := by
  have h (u : State) : LineAct u ({ u with line := { u.line with nextSlot := some f } }.moveUp) :=
    .of_slots (queue := (Line.moveUp_rx _).1) (chars := (Line.moveUp_rx _).2)
      (onLine := fun hl => State.moveUp_ready _ hl.1)
  simp only [State.placeFrame]
  split
  · exact (s.count_lineAct _ _).trans (h _)
  · exact h s

theorem State.composeReport_lineAct (s : State) : LineAct s s.composeReport := by
  simp only [State.composeReport]
  split
  · exact s.placeFrame_lineAct _
  · exact .refl s

theorem State.composeReports_lineAct (s : State) (n : Nat) : LineAct s (s.composeReports n) := by
  induction n generalizing s with
  | zero => exact .refl s
  | succ n ih => exact s.composeReport_lineAct.trans (ih _)

theorem State.composeLeaving_lineAct (s : State) : LineAct s s.composeLeaving :=
  (s.placeFrame_lineAct _).trans .of_slots

/-! ## The end of an event -/

theorem State.nameLast_acted (s b : State) : Acted s (s.nameLast b) :=
  .of_same (by simp) (by simp) (by simp) (by simp) (by simp) (by simp) (by simp) (by simp) StatsSound.nameLast

theorem State.driveLines_acted (s : State) : Acted s s.driveLines := .of_same

theorem finish_keeps (b s : State) : Keeps s (State.finish b s) := by
  have h (u : State) : Keeps u ((((u.calmValveFault b).composeReports (reportTriggers b (u.calmValveFault b))).nameLast
      b).driveLines) :=
    (u.calmValveFault_acted b).keeps.trans ((State.composeReports_lineAct _ _).keeps.trans
      ((State.nameLast_acted _ b).keeps.trans (State.driveLines_acted _).keeps))
  unfold State.finish
  dsimp only
  split
  · exact s.closingTest_acted.keeps.trans (h _)
  · exact h s

/-- An event keeps what its body keeps where it can occur. -/
theorem event_keeps {due : Bool} {body : State → State} (h : event due body s = .next t)
    (hb : s.held = none → due = true → Keeps s (body s)) : Keeps s t := by
  obtain hn | ⟨hh, hd, hn⟩ := event_next due body s
  · cases h.symm.trans hn
    exact .refl s
  · cases h.symm.trans hn
    exact (hb hh hd).trans (finish_keeps s _)

theorem quietEvent_keeps {due : Bool} {body : State → State} (h : quietEvent due body s = .next t)
    (hb : s.held = none → due = true → Keeps s (body s)) : Keeps s t := by
  obtain hn | ⟨hh, hd, hn⟩ := quietEvent_next due body s
  · cases h.symm.trans hn
    exact .refl s
  · cases h.symm.trans hn
    exact (hb hh hd).trans ((State.nameLast_acted _ s).keeps.trans (State.driveLines_acted _).keeps)

end

end Sys2Proof.Machine
end

section
/-! SUPPORT. That each operation of the measurement unit, the meters, the outputs, the receiver and the transmitter keeps
the invariants of one step. -/

namespace Sys2Proof.Machine
open Sys2Proof

set_option Elab.async false

section
variable {s t u : State}

/-! ## Measurement -/

theorem State.probeRecovered_acted (s : State) : Acted s s.probeRecovered := by
  simp only [State.probeRecovered]
  split
  · exact s.raise_acted _
  · exact (s.raise_acted _).trans (State.calm_acted _ _)

theorem State.scanChannel_acted (s : State) (k : Codes) (c : Chan) : Acted s (s.scanChannel k c) := by
  simp only [State.scanChannel]
  split
  · exact .after (State.probeRecovered_acted _)
  · exact .of_same

theorem State.replaceDerived_acted (s : State) : Acted s s.replaceDerived := by
  simp only [State.replaceDerived]
  split
  · exact .after (State.raise_acted _ _)
  · exact .of_same

theorem State.takeScan_acted (s : State) (k : Codes) : Acted s (s.takeScan k) := by
  have h (u : State) : Acted u { u.replaceDerived with meas := { u.replaceDerived.meas with scanClock := some 0 } } :=
    u.replaceDerived_acted.trans .of_same
  unfold State.takeScan
  exact (s.scanChannel_acted k .cb).trans ((State.scanChannel_acted _ k .tb).trans ((State.scanChannel_acted _ k .cm).trans
    ((State.scanChannel_acted _ k .tm).trans ((State.scanChannel_acted _ k .lv).trans (h _)))))

theorem State.probeFails_acted (s : State) (c : Chan) : Acted s (s.probeFails c) :=
  .after ((State.raise_acted _ .probeFault).trans (State.occur_acted _ .probeFault))

/-! ## Meters and feed -/

theorem FeedSound.of_same {f g : Feed} (h : FeedSound f) (owed : g.owed ≤ f.owed := by exact Nat.le_refl _)
    (remainder : g.remainder = f.remainder := by rfl) (makeup : g.makeupRing = f.makeupRing := by rfl)
    (blowdown : g.blowdownRing = f.blowdownRing := by rfl) : FeedSound g := by
  obtain ⟨h1, h2, h3, h4, h5, h6⟩ := h
  exact ⟨Nat.le_trans owed h1, by rwa [remainder], by rwa [makeup], by rwa [blowdown], by rwa [makeup], by rwa [blowdown]⟩

theorem addToRing_length (ring : List Nat) (n : Nat) : (addToRing ring n).length = ring.length := List.length_set

theorem addToRing_le {ring : List Nat} (h : ∀ n ∈ ring, n ≤ 65535) (k : Nat) : ∀ n ∈ addToRing ring k, n ≤ 65535 :=
  le_of_mem_set h (Nat.min_le_left _ _)

theorem turnRing_length {ring : List Nat} (h : ring.length = 12) : (turnRing ring).length = 12 := by
  simp [turnRing, h]

theorem turnRing_le {ring : List Nat} (h : ∀ n ∈ ring, n ≤ 65535) : ∀ n ∈ turnRing ring, n ≤ 65535 := by
  intro n hn
  obtain hn | hn := List.mem_append.mp hn
  · exact h n (List.mem_of_mem_drop hn)
  · simp_all

theorem FeedSound.turned {f : Feed} (h : FeedSound f) : FeedSound
    { f with makeupRing := turnRing f.makeupRing, blowdownRing := turnRing f.blowdownRing, slotClock := some 0 } := by
  obtain ⟨h1, h2, h3, h4, h5, h6⟩ := h
  exact ⟨h1, h2, turnRing_length h3, turnRing_length h4, turnRing_le h5, turnRing_le h6⟩

theorem FeedSound.makeupAdded {f : Feed} (h : FeedSound f) (k : Nat) :
    FeedSound { f with makeupRing := addToRing f.makeupRing k } := by
  obtain ⟨h1, h2, h3, h4, h5, h6⟩ := h
  exact ⟨h1, h2, (addToRing_length _ _).trans h3, h4, addToRing_le h5 k, h6⟩

theorem FeedSound.blowdownAdded {f : Feed} (h : FeedSound f) (k acc : Nat) :
    FeedSound { f with blowdownRing := addToRing f.blowdownRing k, blowdownAcc := acc } := by
  obtain ⟨h1, h2, h3, h4, h5, h6⟩ := h
  exact ⟨h1, h2, h3, (addToRing_length _ _).trans h4, h5, addToRing_le h6 k⟩

/-- R126: owed strokes saturate at 250, the remainder at 999. -/
theorem FeedSound.earn {f : Feed} (h : FeedSound f) (milli : Nat) : FeedSound (f.earn milli) := by
  obtain ⟨h1, h2, h3, h4, h5, h6⟩ := h
  refine ⟨?_, ?_, h3, h4, h5, h6⟩
  · simp only [Feed.earn, Config.owedMax]
    omega
  · simp only [Feed.earn]
    split <;> omega

theorem State.stroke_acted (s : State) : Acted s s.stroke :=
  .after (State.count_acted _ .inhibitorStrokes 1) (feed := (·.of_same (Nat.sub_le _ _)))

theorem State.strokeTest_acted (s : State) : Acted s s.strokeTest := by
  simp only [State.strokeTest]
  split
  · exact s.stroke_acted
  · exact .refl s

theorem State.strokeIntervalPasses_acted (s : State) : Acted s s.strokeIntervalPasses :=
  .after (State.strokeTest_acted _) (feed := (·.of_same))

theorem State.feedResumed_acted (s : State) (before : StationState) : Acted s (s.feedResumed before) := by
  simp only [State.feedResumed]
  split
  · exact s.strokeTest_acted
  · exact .refl s

theorem State.earnStrokes_acted (s : State) (milli : Nat) : Acted s (s.earnStrokes milli) := by
  have h : Acted s { s with feed := s.feed.earn milli } := .of_same (feed := (·.earn milli))
  simp only [State.earnStrokes]
  (repeat' split)
  · exact h.trans ((State.raise_acted _ _).trans (State.strokeTest_acted _))
  · exact h.trans (State.strokeTest_acted _)
  · exact h.trans (State.raise_acted _ _)
  · exact h

theorem State.balanceOutcome_acted (s : State) (r : BalanceResult) : Acted s (s.balanceOutcome r) := by
  have h (b : Bool) : Acted s { s with feed := { s.feed with mismatch := b } } := .of_same (feed := (·.of_same))
  cases r with
  | mismatch => exact (h true).trans ((State.raise_acted _ .balanceMismatch).trans (State.occur_acted _ .balanceMismatch))
  | ok =>
    simp only [State.balanceOutcome]
    split
    · exact (h false).trans (State.calm_acted _ _)
    · exact .refl s
  | skipped => exact s.raise_acted _
  | none | uncompared => exact .refl s

theorem State.endBalance_acted (s : State) : Acted s s.endBalance :=
  .after (State.balanceOutcome_acted _ _) (feed := (·.of_same))

theorem State.accumulateMakeup_acted (s : State) (litres : Nat) : Acted s (s.accumulateMakeup litres) := by
  have h : Acted s { s with feed := { s.feed with makeupAcc := s.feed.makeupAcc + litres } } :=
    .of_same (feed := (·.of_same))
  simp only [State.accumulateMakeup]
  split
  · exact h.trans (State.endBalance_acted _)
  · exact h

theorem State.makeupPulse_acted (s : State) : Acted s s.makeupPulse := by
  have h (u : State) (k : Nat) : Acted u { u with feed := { u.feed with makeupRing := addToRing u.feed.makeupRing k } } :=
    .of_same (feed := (·.makeupAdded k))
  unfold State.makeupPulse
  exact (s.count_acted .makeupLitres _).trans ((h _ _).trans ((State.earnStrokes_acted _ _).trans
    (State.accumulateMakeup_acted _ _)))

theorem State.blowdownPulse_acted (s : State) : Acted s s.blowdownPulse :=
  (s.count_acted .blowdownLitres s.station.cfg.kB).trans (.of_same (feed := (·.blowdownAdded _ _)))

theorem State.meterSettles_acted (s : State) (m : Meter) (high : Bool) : Acted s (s.meterSettles m high) := by
  have h : Acted s { s with feed := s.feed.setLevel m high } := .of_same (feed := fun hf => by cases m <;> exact hf.of_same)
  simp only [State.meterSettles]
  split
  · cases m
    · exact h.trans (State.makeupPulse_acted _)
    · exact h.trans (State.blowdownPulse_acted _)
  · exact h

theorem State.noFlowTest_acted (s : State) : Acted s s.noFlowTest := by
  simp only [State.noFlowTest]
  split
  · split
    · exact .after (State.raise_acted _ _) (feed := (·.of_same))
    · exact .refl s
  · exact .refl s

theorem State.slotTurns_acted (s : State) : Acted s s.slotTurns := by
  have h : Acted s { s with
      feed := { s.feed with
        makeupRing := turnRing s.feed.makeupRing, blowdownRing := turnRing s.feed.blowdownRing, slotClock := some 0 } } :=
    .of_same (feed := FeedSound.turned)
  simp only [State.slotTurns]
  split
  · split
    · exact h.trans (State.noFlowTest_acted _)
    · exact h
  · exact h

theorem State.firstNoFlowTest_acted (s : State) : Acted s s.firstNoFlowTest :=
  .after (State.noFlowTest_acted _) (feed := (·.of_same))

/-! ## Outputs -/

/-- The engine of a valve and the valve's record, changed together. -/
theorem Framed.acted_of_valve (h : Framed s t) (v : Valve) (he : ∀ q, q ≠ v.pool → t.engine q = s.engine q)
    (hv : ∀ w, w ≠ v → t.valve w = s.valve w)
    (hp : s.inRun = false → (s.engine v.pool).state.passive = true → (t.engine v.pool).state.passive = true)
    (ho : openOnly (s.engine v.pool).state (s.valve v) → openOnly (t.engine v.pool).state (t.valve v))
    (hm : valveMatches (s.engine v.pool).state (s.valve v) → valveMatches (t.engine v.pool).state (t.valve v)) :
    Acted s t := by
  refine h.acted_of_pool v.pool he (fun w hne => hv w (fun e => hne (congrArg Valve.pool e))) hp ?_ ?_
  · intro w hwv
    rw [Valve.eq_of_pool_eq hwv]
    exact ho
  · intro w hwv
    rw [Valve.eq_of_pool_eq hwv]
    exact hm

/-- A change of a valve's record that the state of its engine allows. -/
theorem State.setValve_acted (s : State) (v : Valve) (r : ValveRec) (hc : r.commanded = (s.valve v).commanded)
    (hm : valveMatches (s.engine v.pool).state (s.valve v) → valveMatches (s.engine v.pool).state r) :
    Acted s (s.setValve v r) := by
  refine (s.setValve_framed v r).acted_of_valve v (fun q _ => by simp) (fun w hw => s.valve_setValve_ne r hw)
    (by simp) (fun ho => ?_) (by simpa using hm)
  rw [State.valve_setValve, State.engine_setValve, openOnly, hc]
  exact ho

theorem State.stuckAlarms_acted (s : State) (p : Pool) : Acted s (s.stuckAlarms p) :=
  (s.stuckAlarms_framed p).acted (fun q => by simp) (fun v => by simp)

/-- R57: a valve seen to open unbidden makes its engine STUCK and is watched. -/
theorem State.unbiddenOpen_acted {v : Valve} {r : ValveRec} (hcheck : (s.valve v).check = .none)
    (hr : r.check = .closeWatch ∧ r.feedbackPresent = true ∧ r.settled = .opened)
    (hc : r.commanded = (s.valve v).commanded) (hclosed : r.commanded = .closed) :
    Acted s ((s.setValve v r).unbiddenOpenNotice v) := by
  have hframe := (s.setValve_framed v r).trans (State.unbiddenOpenNotice_framed (s.setValve v r) v)
  refine hframe.acted_of_valve v (fun q hq => ?_) (fun w hw => ?_) (fun _ => ?_) (fun ho => ?_) (fun hm => ?_)
  · rw [State.unbiddenOpenNotice_engine_ne _ hq, State.engine_setValve]
  · rw [State.unbiddenOpenNotice_valve, State.valve_setValve_ne _ _ hw]
  · simp only [State.unbiddenOpenNotice, State.engine_setValve]
    cases h : (s.engine v.pool).state <;> simp [State.enterStuck, h, EngineState.passive, Engine.toStuckUnbidden, Engine.toStuck, Engine.noAgeing]
  · rw [State.unbiddenOpenNotice_valve, State.valve_setValve, openOnly, hclosed]
    rintro ⟨⟩
  · rw [State.unbiddenOpenNotice_valve, State.valve_setValve]
    simp only [State.unbiddenOpenNotice, State.engine_setValve]
    cases h : (s.engine v.pool).state <;>
      simp_all [State.enterStuck, valveMatches, Engine.toStuckUnbidden, Engine.toStuck, Engine.noAgeing]

theorem State.seenOpen_acted {v : Valve} (hf : (s.valve v).feedbackPresent = true) : Acted s (s.seenOpen v) := by
  simp only [State.seenOpen]
  cases hk : (s.valve v).check with
  | openCheck =>
    refine s.setValve_acted v _ rfl (fun hm => ?_)
    cases he : (s.engine v.pool).state <;> simp_all [valveMatches]
  | none =>
    dsimp only
    split
    · next hcl => exact State.unbiddenOpen_acted hk ⟨rfl, hf, rfl⟩ rfl (by simpa using hcl)
    · next hcl =>
      refine s.setValve_acted v _ rfl (fun hm => ?_)
      cases he : (s.engine v.pool).state <;> simp_all [valveMatches]
  | closeCheck | closeWatch =>
    refine s.setValve_acted v _ rfl (fun hm => ?_)
    cases he : (s.engine v.pool).state <;> simp_all [valveMatches]

/-- R53, R55: the closed notice of a valve that is seen closed, its check ended. -/
theorem State.closedNotice_acted {v : Valve} {r : ValveRec}
    (hcheck : (s.valve v).check = .closeCheck ∨ (s.valve v).check = .closeWatch) (hr : r.check = .none)
    (hs : r.feedbackPresent = true → r.settled = .closed) (hc : r.commanded = (s.valve v).commanded) :
    Acted s ((s.setValve v r).closedNotice v) := by
  have hframe := (s.setValve_framed v r).trans (State.closedNotice_framed (s.setValve v r) v)
  have hidle (h : ((s.engine v.pool).state = .releasing ∨ (s.engine v.pool).state = .stuck)) :
      (((s.setValve v r).closedNotice v).engine v.pool).state.idle = true ∧
      (s.inRun = false → (((s.setValve v r).closedNotice v).engine v.pool).state.passive = true) := by
    obtain h | h := h
    · rw [State.closedNotice_of_releasing (by simpa using h), State.engine_setEngine]
      exact ⟨Engine.released_idle _ _, fun hr => Engine.released_passive _ (by simpa using hr)⟩
    · rw [State.closedNotice_of_stuck (by simpa using h), State.arriveRest_eq, State.engine_setEngine]
      have hrun : ((s.setValve v r).raise .valveCleared).inRun = s.inRun := by cases v <;> rfl
      rw [hrun]
      constructor
      · split <;> rfl
      · intro hr
        rw [hr]
        rfl
  have hother (h1 : (s.engine v.pool).state ≠ .releasing) (h2 : (s.engine v.pool).state ≠ .stuck) :
      (s.setValve v r).closedNotice v = s.setValve v r :=
    State.closedNotice_of_other (by simpa using h1) (by simpa using h2)
  refine hframe.acted_of_valve v (fun q hq => ?_) (fun w hw => ?_) (fun hr hp => ?_) (fun ho => ?_) (fun hm => ?_)
  · rw [State.closedNotice_engine_ne _ hq, State.engine_setValve]
  · rw [State.closedNotice_valve, State.valve_setValve_ne _ _ hw]
  · by_cases h : (s.engine v.pool).state = .releasing ∨ (s.engine v.pool).state = .stuck
    · exact (hidle h).2 hr
    · rw [not_or] at h
      rw [hother h.1 h.2, State.engine_setValve]
      exact hp
  · rw [State.closedNotice_valve, State.valve_setValve]
    intro hopen
    have hhold := ho (hc ▸ hopen)
    rw [hother (by rw [hhold]; nofun) (by rw [hhold]; nofun), State.engine_setValve]
    exact hhold
  · rw [State.closedNotice_valve, State.valve_setValve]
    have h : (s.engine v.pool).state = .releasing ∨ (s.engine v.pool).state = .stuck := by
      cases he : (s.engine v.pool).state <;> simp_all [valveMatches]
    refine valveMatches_of_idle (e := .rest) rfl (hidle h).1 ⟨?_, hr, hs⟩
    rw [hc]
    obtain h | h := h <;> rw [h] at hm <;> exact hm.1

theorem State.seenClosed_acted (s : State) (v : Valve) : Acted s (s.seenClosed v) := by
  simp only [State.seenClosed]
  cases hk : (s.valve v).check with
  | closeCheck => exact State.closedNotice_acted (.inl hk) rfl (fun _ => rfl) rfl
  | closeWatch => exact State.closedNotice_acted (.inr hk) rfl (fun _ => rfl) rfl
  | none =>
    dsimp only
    split
    all_goals
      refine s.setValve_acted v _ rfl (fun hm => ?_)
      cases he : (s.engine v.pool).state <;> simp_all [valveMatches]
  | openCheck =>
    refine s.setValve_acted v _ rfl (fun hm => ?_)
    cases he : (s.engine v.pool).state <;> simp_all [valveMatches]

theorem State.feedbackSettles_acted {v : Valve} (hf : (s.valve v).feedbackPresent = true) (lvl : ValvePos) :
    Acted s (s.feedbackSettles v lvl) := by
  cases lvl
  · exact State.seenOpen_acted hf
  · exact s.seenClosed_acted v

theorem State.openFailedNotice_acted (s : State) (v : Valve) : Acted s (s.openFailedNotice v) := by
  simp only [State.openFailedNotice]
  split
  · exact (s.release_acted _ _ _ _).trans ((State.raise_acted _ _).trans (State.occur_acted _ _))
  · exact .refl s

theorem ValveRec.openedBy_eq (r : ValveRec) (n : Nat) :
    (r.openedBy n).commanded = r.commanded ∧ (r.openedBy n).feedbackPresent = r.feedbackPresent := by
  unfold ValveRec.openedBy
  split <;> exact ⟨rfl, rfl⟩

theorem State.openFails_acted {v : Valve} (hk : (s.valve v).check = .openCheck) (n : Nat) :
    Acted s (s.openFails v n) := by
  refine (s.setValve_acted v { (s.valve v).openedBy n with check := .none, timer := none }
    (ValveRec.openedBy_eq _ n).1 (fun hm => ?_)).trans (State.openFailedNotice_acted _ v)
  cases he : (s.engine v.pool).state <;> simp_all [valveMatches, ValveRec.openedBy_eq]

/-- R54, R110: a valve with feedback still seen open at the end of its close check. -/
theorem State.closeFails_acted {v : Valve} {r : ValveRec} (hcheck : (s.valve v).check = .closeCheck)
    (hr : r.check = .closeWatch) (hs : r.commanded = .closed → r.feedbackPresent = true ∧ r.settled = .opened)
    (hc : r.commanded = (s.valve v).commanded) : Acted s ((s.setValve v r).closeFailedNotice v) := by
  have hframe := (s.setValve_framed v r).trans (State.closeFailedNotice_framed (s.setValve v r) v)
  have hthen : (s.engine v.pool).state = .releasing →
      (((s.setValve v r).closeFailedNotice v).engine v.pool).state = .stuck := by
    intro h
    simp [State.closeFailedNotice, h, State.enterStuck, Engine.toStuck]
  have helse (h : (s.engine v.pool).state ≠ .releasing) : (s.setValve v r).closeFailedNotice v = s.setValve v r := by
    simp [State.closeFailedNotice, h]
  refine hframe.acted_of_valve v (fun q hq => ?_) (fun w hw => ?_) (fun _ hp => ?_) (fun ho => ?_) (fun hm => ?_)
  · rw [State.closeFailedNotice_engine_ne _ hq, State.engine_setValve]
  · rw [State.closeFailedNotice_valve, State.valve_setValve_ne _ _ hw]
  · by_cases h : (s.engine v.pool).state = .releasing
    · rw [hthen h]; rfl
    · rw [helse h, State.engine_setValve]; exact hp
  · rw [State.closeFailedNotice_valve, State.valve_setValve]
    intro hopen
    have hhold := ho (hc ▸ hopen)
    rw [helse (by rw [hhold]; nofun), State.engine_setValve]
    exact hhold
  · rw [State.closeFailedNotice_valve, State.valve_setValve]
    have h : (s.engine v.pool).state = .releasing := by
      cases he : (s.engine v.pool).state <;> simp_all [valveMatches]
    rw [h] at hm
    have hcl := hc.trans hm.1
    rw [hthen h]
    exact ⟨hcl, hr, hs hcl⟩

theorem State.closeCheckEnds_acted {v : Valve} (hk : (s.valve v).check = .closeCheck) : Acted s (s.closeCheckEnds v) := by
  simp only [State.closeCheckEnds]
  split
  · next ho =>
    refine State.closeFails_acted (r := { s.valve v with check := .closeWatch, timer := none }) hk rfl (fun hc => ?_) rfl
    cases hf : (s.valve v).feedbackPresent <;> simp_all [ValveRec.observed]
  · next ho =>
    refine State.closedNotice_acted (r := { s.valve v with check := .none, timer := none }) (.inl hk) rfl (fun hf => ?_) rfl
    cases hs : (s.valve v).settled <;> simp_all [ValveRec.observed]

/-! ## The ageing step (R38) -/

theorem State.aged_keeps (s : State) (p : Pool) : Keeps s (s.setEngine p (s.engine p).aged) := by
  have hstate q : ((s.setEngine p (s.engine p).aged).engine q).state = (s.engine q).state ∧
      ((s.setEngine p (s.engine p).aged).engine q).amount = (s.engine q).amount ∧
      ((s.setEngine p (s.engine p).aged).engine q).effCap = (s.engine q).effCap := by
    by_cases hq : q = p
    · rw [hq, State.engine_setEngine]
      exact ⟨rfl, rfl, rfl⟩
    · rw [State.engine_setEngine_ne _ _ hq]
      exact ⟨rfl, rfl, rfl⟩
  refine ⟨⟨fun h => h.of_same (by simp) (by simp) (fun q => (hstate q).1) (by simp), fun h => ?_, fun h => ?_, fun h => ?_,
    fun h => ?_⟩, fun h => h.of_same (by simp) (fun q => (hstate q).1)⟩
  · obtain ⟨h1, h2, h3, h4, h5⟩ := h
    refine ⟨by simpa, by simpa, by simpa, by simpa, fun q => ?_⟩
    by_cases hq : q = p
    · rw [hq, State.engine_setEngine]
      exact Nat.min_le_left _ _
    · rw [State.engine_setEngine_ne _ _ hq]
      exact h5 q
  · obtain ⟨h1, h2, h3⟩ := h
    exact ⟨h1.of_same (by simp) (by simp), by simpa [QueueSourced] using h2, h3.of_same (by simp) (by simp)⟩
  · exact h.of_same (by simp) (by simp) (by simp) (fun q => (hstate q).2.1) (fun q => (hstate q).2.2)
  · simpa [OnLineFrameReady] using h

end

end Sys2Proof.Machine
end

section
/-! SUPPORT. That each operation of the receiver, the transmitter, the peer table and station control keeps the invariants
of one step. -/

namespace Sys2Proof.Machine
open Sys2Proof

set_option Elab.async false

section
variable {s t u : State}

/-! ## Receiving -/

theorem State.hears_lineAct (s : State) (cs : List RxChar) : LineAct s (s.hears cs) := by
  simp only [State.hears]
  cases s.line.rxMode with
  | collect =>
    exact ⟨rfl, rfl, rfl, rfl, fun _ => rfl, rfl, id, id, fun _ => s.line.receive_length cs, id, id⟩
  | off | skip | ownEcho | ownDamaged => exact .refl s

theorem State.collectAnew_lineAct (s : State) : LineAct s s.collectAnew :=
  ⟨rfl, rfl, rfl, rfl, fun _ => rfl, rfl, id, id, fun _ => Nat.zero_le _, id, id⟩

/-- R82, check 7: a good frame has a source. -/
theorem frameVerdict_good_source {cs : List RxChar} (h : frameVerdict cs = .good) :
    nat1At (cs.map RxChar.byte) 2 ≠ 0 := by
  unfold frameVerdict at h
  dsimp only at h
  iterate 6
    split at h
    · cases h
  split at h
  · cases h
  · next h7 => exact fun hz => h7 (BitVec.eq_of_toNat_eq hz)

theorem State.queueFrame_lineAct {bytes : List Byte} (h : nat1At bytes 2 ≠ 0) : LineAct s (s.queueFrame bytes) := by
  simp only [State.queueFrame]
  split
  · next hlen =>
    refine LineAct.trans (t := { s with line := { s.line with rxQueue := s.line.rxQueue ++ [bytes] } })
      ⟨rfl, rfl, rfl, rfl, fun _ => rfl, rfl, id, fun _ => ?_, id, fun hq b hb => ?_, id⟩ (State.count_lineAct _ _ _)
    · rw [List.length_append]
      exact Nat.succ_le_of_lt hlen
    · obtain hb | hb := List.mem_append.mp hb
      · exact hq b hb
      · rw [List.mem_singleton.mp hb]; exact h
  · exact (s.count_lineAct _ _).trans (State.raise_lineAct _ _)

theorem State.judgeFrame_lineAct (s : State) : LineAct s s.judgeFrame := by
  simp only [State.judgeFrame]
  split
  · exact s.collectAnew_lineAct
  · split
    · exact s.collectAnew_lineAct.trans (State.count_lineAct _ _ _)
    · exact s.collectAnew_lineAct.trans (State.count_lineAct _ _ _)
    · next hv =>
      refine s.collectAnew_lineAct.trans (State.queueFrame_lineAct (frameVerdict_good_source ?_))
      simp only [Line.verdict] at hv
      split at hv
      · cases hv
      · exact hv

theorem State.frameEnds_lineAct (s : State) : LineAct s s.frameEnds := by
  simp only [State.frameEnds]
  cases s.line.rxMode with
  | off => exact .refl s
  | skip | ownEcho => exact s.collectAnew_lineAct
  | ownDamaged => exact s.collectAnew_lineAct.trans (State.count_lineAct _ _ _)
  | collect => exact s.judgeFrame_lineAct

theorem State.receivesFrom_lineAct (s : State) (r : Reception) : LineAct s (s.receivesFrom r) := by
  simp only [State.receivesFrom]
  split
  · exact (s.hears_lineAct _).trans (State.frameEnds_lineAct _)
  · exact s.hears_lineAct _

/-! ## Sending -/

theorem State.reportFires_keeps (s : State) : Keeps s s.reportFires := by
  have h : LineAct s { s with line := { s.line with reportTimer := some 0 } } := .of_slots
  exact h.keeps.trans ((State.composeReport_lineAct _).keeps.trans (State.periodicNotice_acted _).keeps)

theorem State.startAttempt_lineAct (s : State) : LineAct s s.startAttempt := by
  refine .of_slots (onLine := fun ⟨h1, h2⟩ => ⟨fun o ho => ?_, fun ho => ?_⟩)
  · obtain ⟨o', ho', rfl⟩ := Option.map_eq_some_iff.mp ho
    exact h1 o' ho'
  · exact h2 (Option.map_eq_none_iff.mp ho)

/-- R95: a retry, or the frame in next in the place of the one that failed. -/
theorem State.retry_lineAct {o : OnLine} {n : Nat} (ho : s.line.onLine = some o) (hn : n < 8) :
    LineAct s (s.retry o n) := by
  simp only [State.retry]
  split
  · exact (s.count_lineAct _ _).trans (.of_slots (onLine := fun _ => onLineReady_of_fresh rfl rfl hn))
  · exact .of_slots (onLine := fun h => onLineReady_of_fresh rfl (h.1 o ho).1 hn)

/-- The on-line frame leaves, and the frame in next moves up with the number that follows. -/
theorem State.leave_moveUp_lineAct (s : State) (d : Option Nat) :
    LineAct s ({ s with line := { s.line with onLine := none, seq := s.line.seq + 1, deliveryTimer := d } }.moveUp) :=
  .of_slots (queue := (Line.moveUp_rx _).1) (chars := (Line.moveUp_rx _).2)
    (onLine := fun _ => State.moveUp_ready _ (fun _ ho => nomatch ho))

theorem State.loseFrame_moveUp_lineAct (s : State) : LineAct s s.loseFrame.moveUp :=
  (s.count_lineAct .reportsLost 1).trans ((State.raise_lineAct _ .reportLost).trans (State.leave_moveUp_lineAct _ _))

theorem State.deliverFrame_moveUp_lineAct (s : State) : LineAct s s.deliverFrame.moveUp :=
  (s.count_lineAct .reportsDelivered 1).trans (State.leave_moveUp_lineAct _ _)

/-- R102: everything of the line but the frame on line is gone. -/
theorem State.emptied_lineAct (s : State) (d : Option OnLine) (q : Byte)
    (h : ∀ o, d = some o → s.line.onLine = some o ∧ q = s.line.seq) :
    LineAct s { s with
      line := { s.line with
        onLine := d, seq := q, nextSlot := none, rxQueue := [], rxMode := .skip, rxChars := [], rxTooLong := false } } := by
  refine ⟨rfl, rfl, rfl, rfl, fun _ => rfl, rfl, id, fun _ => Nat.zero_le _, fun _ => Nat.zero_le _,
    fun _ => List.forall_mem_nil _, fun hl => ⟨fun o ho => ?_, fun _ => rfl⟩⟩
  obtain ⟨h1, rfl⟩ := h o ho
  exact hl.1 o h1

theorem State.lineRestart_lineAct (s : State) : LineAct s s.lineRestart := by
  refine LineAct.trans ?_ (State.composeReport_lineAct _)
  simp only [State.dropOnLine]
  split
  · exact (s.count_lineAct .reportsLost 1).trans ((State.raise_lineAct _ .reportLost).trans
      (State.emptied_lineAct _ none (s.line.seq + 1) (fun _ ho => nomatch ho)))
  · exact s.emptied_lineAct s.line.onLine s.line.seq (fun o ho => ⟨ho, rfl⟩)

/-! ## The effective caps (R36) -/

theorem foldl_min_smallest {α : Type} (f : α → Nat) (l : List α) (c : Nat) :
    l.foldl (fun m e => min m (f e)) c ≤ c ∧ (∀ e ∈ l, l.foldl (fun m e => min m (f e)) c ≤ f e) ∧
      (l.foldl (fun m e => min m (f e)) c = c ∨ ∃ e ∈ l, l.foldl (fun m e => min m (f e)) c = f e) := by
  induction l generalizing c with
  | nil => exact ⟨Nat.le_refl _, nofun, .inl rfl⟩
  | cons x l ih =>
    obtain ⟨h1, h2, h3⟩ := ih (min c (f x))
    rw [List.foldl_cons]
    refine ⟨Nat.le_trans h1 (Nat.min_le_left _ _), ?_, ?_⟩
    · intro e he
      obtain rfl | he := List.mem_cons.mp he
      · exact Nat.le_trans h1 (Nat.min_le_right _ _)
      · exact h2 e he
    · obtain h3 | ⟨e, he, h3⟩ := h3
      · rw [h3]
        obtain h | h := Nat.le_total c (f x)
        · exact .inl (Nat.min_eq_left h)
        · exact .inr ⟨x, List.mem_cons_self, Nat.min_eq_right h⟩
      · exact .inr ⟨e, List.mem_cons_of_mem x he, h3⟩

theorem State.recomputeCaps_engine (s : State) (p : Pool) :
    s.recomputeCaps.engine p = { s.engine p with effCap := s.effectiveCap p } := by
  cases p <;> rfl

theorem State.recomputeCaps_smallest (s : State) : CapsSmallest s.recomputeCaps := by
  intro p
  rw [State.recomputeCaps_engine, State.recomputeCaps_station, State.recomputeCaps_peers]
  obtain ⟨h1, h2, h3⟩ := foldl_min_smallest (fun e : PeerEntry => (e.pool p).cap)
    (s.peers.filter (fun e => e.freshness == .fresh)) (s.station.cfg.cap p)
  refine ⟨h1, fun e he hf => h2 e (List.mem_filter.mpr ⟨he, beq_iff_eq.mpr hf⟩), ?_⟩
  obtain h3 | ⟨e, he, h3⟩ := h3
  · exact .inl h3
  · obtain ⟨he, hf⟩ := List.mem_filter.mp he
    exact .inr ⟨e, he, beq_iff_eq.mp hf, h3⟩

/-- A recomputation of the caps in a working state, from a table that is empty where it must be. -/
theorem State.recomputeCaps_caps (ha : AmountsWithinOwn s) (hw : s.station.state.working = true)
    (ht : TableOnlyReporting s) : CapsSound s.recomputeCaps := by
  refine ⟨s.recomputeCaps_smallest, fun p => ?_, fun h => ?_, ht⟩
  · rw [State.recomputeCaps_engine]
    exact ha p
  · cases hw.symm.trans h

theorem Keeps.recomputeCaps (hw : TableOnlyReporting s → s.station.state.working = true) : Keeps s s.recomputeCaps where
  passive h := h.of_same rfl (fun p => by rw [State.recomputeCaps_engine])
  valves h := h.of_same rfl rfl (fun p => by rw [State.recomputeCaps_engine]) (fun v => by cases v <;> rfl)
  bounds := fun ⟨h1, h2, h3, h4, h5⟩ => ⟨h1, h2, h3, h4, fun p => by rw [State.recomputeCaps_engine]; exact h5 p⟩
  table := fun ⟨h1, h2, h3⟩ => ⟨h1, h2, h3⟩
  caps h := State.recomputeCaps_caps h.amounts (hw h.table) h.table
  onLine := id

/-! ## The peer table -/

theorem mem_putPeer {x e : PeerEntry} {l : List PeerEntry} (h : x ∈ putPeer e l) : x = e ∨ x ∈ l := by
  induction l with
  | nil => exact .inl (List.mem_singleton.mp h)
  | cons y l ih =>
    simp only [putPeer] at h
    split at h
    · obtain rfl | h := List.mem_cons.mp h
      · exact .inr List.mem_cons_self
      · exact (ih h).imp_right (List.mem_cons_of_mem y)
    · split at h
      · exact (List.mem_cons.mp h).imp_right (List.mem_cons_of_mem y)
      · exact List.mem_cons.mp h

/-- R65: an entry put in its slot leaves the table in order. -/
theorem putPeer_pairwise {e : PeerEntry} {l : List PeerEntry} (h : l.Pairwise (fun a b => a.number < b.number)) :
    (putPeer e l).Pairwise (fun a b => a.number < b.number) := by
  induction l with
  | nil => exact List.pairwise_singleton _ _
  | cons y l ih =>
    obtain ⟨hy, hl⟩ := List.pairwise_cons.mp h
    simp only [putPeer]
    split
    · next hlt =>
      refine List.pairwise_cons.mpr ⟨fun x hx => ?_, ih hl⟩
      obtain rfl | hx := mem_putPeer hx
      · exact hlt
      · exact hy x hx
    · split
      · next heq => exact List.pairwise_cons.mpr ⟨fun x hx => heq ▸ hy x hx, hl⟩
      · next hlt hne =>
        refine List.pairwise_cons.mpr ⟨fun x hx => ?_, h⟩
        obtain rfl | hx := List.mem_cons.mp hx
        · omega
        · have := hy x hx
          omega

/-- The notice after a change of the table, in a state in which there is a table (R75, R36, R43). -/
theorem Keeps.tableNotice {s₀ : State} (h₀ : Keeps s₀ s) (hu : Acted { s with peers := u.peers } u)
    (ht : TableSound s₀ → TableInOrder u) (hr : TableOnlyReporting s₀ → u.station.state.reporting = true) :
    Keeps s₀ u.tableNotice := by
  have hvac (h : TableOnlyReporting s₀) : TableOnlyReporting u := fun hn => by cases (hr h).symm.trans hn
  have hwork (h : TableOnlyReporting s₀) : u.station.state.working = true := by
    have := hr h
    cases hs : u.station.state <;> simp_all [StationState.reporting, StationState.working]
  refine Keeps.trans (t := u.recomputeCaps) ⟨⟨fun h => ?_, fun h => ?_, fun h => ?_, fun h => ?_, fun h => ?_⟩, fun h => ?_⟩
    u.recomputeCaps.evaluateAll_acted.keeps
  · exact (hu.keeps.valves ((h₀.valves h).of_same rfl rfl (fun p => by cases p <;> rfl)
      (fun v => by cases v <;> rfl))).of_same rfl rfl (fun p => by rw [State.recomputeCaps_engine])
      (fun v => by cases v <;> rfl)
  · obtain ⟨h1, h2, h3, h4, h5⟩ := h₀.bounds h
    obtain ⟨k1, k2, k3, k4, k5⟩ := hu.keeps.bounds ⟨h1, h2, h3, h4, fun p => by have := h5 p; cases p <;> exact this⟩
    exact ⟨k1, k2, k3, k4, fun p => by rw [State.recomputeCaps_engine]; exact k5 p⟩
  · refine ⟨(ht h).of_same rfl rfl, ?_, (hvac h.reporting).of_same rfl rfl⟩
    have hq := (h₀.table h).sourced
    unfold QueueSourced at hq ⊢
    rw [State.recomputeCaps_line, hu.line]
    exact hq
  · refine State.recomputeCaps_caps (fun p => ?_) (hwork h.table) (hvac h.table)
    rw [hu.amount p, hu.station]
    have := (h₀.caps h).amounts p
    cases p <;> exact this
  · have hl := h₀.onLine h
    unfold OnLineFrameReady at hl ⊢
    rw [State.recomputeCaps_line, hu.line]
    exact hl
  · exact (hu.keeps.passive ((h₀.passive h).of_same rfl (fun p => by cases p <;> rfl))).of_same rfl
      (fun p => by rw [State.recomputeCaps_engine])

theorem State.mismatchNotice_acted (s : State) (b : Bool) : Acted s (s.mismatchNotice b) := by
  simp only [State.mismatchNotice]
  split
  · exact s.raise_acted _
  · exact .refl s

theorem PeerEntry.updated_number (old : Option PeerEntry) (b : List Byte) (c : EffConfig) :
    (PeerEntry.updated old b c).number = nat1At b 2 := by
  cases old <;> rfl

/-- R65: a table with an entry of another station put in its slot. -/
theorem TableInOrder.put (h : TableInOrder s) {e : PeerEntry} (h1 : 1 ≤ e.number) (h2 : e.number ≤ 31)
    (h3 : e.number ≠ s.station.number) {t : State} (hp : t.peers = putPeer e s.peers)
    (hn : t.station.number = s.station.number) : TableInOrder t := by
  obtain ⟨ho, hm⟩ := h
  refine ⟨hp ▸ putPeer_pairwise ho, fun x hx => ?_⟩
  rw [hp] at hx
  rw [hn]
  obtain rfl | hx := mem_putPeer hx
  · exact ⟨h1, h2, h3⟩
  · exact hm x hx

/-- R65: a table some of whose entries stay, each with its number. -/
theorem TableInOrder.sub (h : TableInOrder s) {t : State}
    (hp : (t.peers.map PeerEntry.number).Sublist (s.peers.map PeerEntry.number))
    (hn : t.station.number = s.station.number) : TableInOrder t := by
  obtain ⟨ho, hm⟩ := h
  constructor
  · rw [← List.pairwise_map (f := PeerEntry.number) (R := (· < ·))] at ho ⊢
    exact ho.sublist hp
  · intro x hx
    obtain ⟨y, hy, he⟩ := List.mem_map.mp (hp.subset (List.mem_map_of_mem hx))
    rw [hn, ← he]
    exact hm y hy

theorem State.takeReport_keeps {s₀ : State} (h₀ : Keeps s₀ s) {b : List Byte}
    (hb : TableSound s₀ → 1 ≤ nat1At b 2) (h31 : nat1At b 2 ≤ 31) (hne : nat1At b 2 ≠ s.station.number)
    (hr : s.station.state.reporting = true) : Keeps s₀ (s.takeReport b) := by
  have hacted (u : State) (k : Bool) (c : Bool) :
      Acted u (State.mismatchNotice (if k then u.raise .peerJoined else u) c) := by
    split
    · exact (u.raise_acted _).trans (State.mismatchNotice_acted _ _)
    · exact State.mismatchNotice_acted _ _
  have hu := hacted { s with peers := putPeer (PeerEntry.updated (s.peerAt (nat1At b 2)) b s.station.cfg) s.peers }
    (s.peerAt (nat1At b 2)).isNone s.capMismatch
  unfold State.takeReport
  refine Keeps.tableNotice h₀ (by rw [hu.peers]; exact hu) (fun h => ?_) (fun _ => ?_)
  · refine (h₀.table h).ordered.put (e := PeerEntry.updated (s.peerAt (nat1At b 2)) b s.station.cfg) ?_ ?_ ?_ hu.peers
      (by rw [hu.station])
    all_goals rw [PeerEntry.updated_number]
    · exact hb h
    · exact h31
    · exact hne
  · rw [hu.station]
    exact hr

theorem State.deletePeer_keeps (n : Nat) (hr : TableOnlyReporting s → s.station.state.reporting = true) :
    Keeps s (s.deletePeer n) :=
  Keeps.tableNotice (.refl s) (State.raise_acted { s with peers := dropPeer n s.peers } .peerDropped)
    (fun h => h.ordered.sub (List.filter_sublist.map _) rfl) hr

theorem State.makeStale_keeps (n : Nat) (hr : TableOnlyReporting s → s.station.state.reporting = true) :
    Keeps s ((s.makeStale n).raise .peerStale).tableNotice := by
  refine Keeps.tableNotice (.refl s) (State.raise_acted (s.makeStale n) .peerStale) (fun h => h.ordered.sub ?_ rfl) hr
  have : ((s.makeStale n).raise .peerStale).peers.map PeerEntry.number = s.peers.map PeerEntry.number := by
    simp only [State.raise_peers, State.makeStale, List.map_map]
    refine List.map_congr_left (fun e _ => ?_)
    simp only [Function.comp]
    split <;> rfl
  exact this ▸ List.Sublist.refl _

/-- R77: an entry stands only where there is a table. -/
theorem reporting_of_peer {n : Nat} {e : PeerEntry} (hp : s.peerAt n = some e) (h : TableOnlyReporting s) :
    s.station.state.reporting = true := by
  cases hr : s.station.state.reporting with
  | true => rfl
  | false => simp [State.peerAt, h hr] at hp

/-! ## Station control -/

/-- A change of station control that leaves its state, number and configuration. -/
theorem Keeps.of_station (held : t.held = s.held := by rfl) (state : t.station.state = s.station.state := by rfl)
    (number : t.station.number = s.station.number := by rfl) (cfg : t.station.cfg = s.station.cfg := by rfl)
    (peers : t.peers = s.peers := by rfl) (claim : t.claim = s.claim := by rfl) (out : t.out = s.out := by rfl)
    (line : t.line = s.line := by rfl) (feed : t.feed = s.feed := by rfl) (stats : t.stats = s.stats := by rfl) :
    Keeps s t := by
  have he p : t.engine p = s.engine p := by cases p <;> simp only [State.engine, claim]
  have hv v : t.valve v = s.valve v := by cases v <;> simp only [State.valve, out]
  refine ⟨⟨fun h => ?_, fun h => ?_, fun h => ?_, fun h => ?_, fun h => ?_⟩, fun h => ?_⟩
  · exact h.of_same held state (fun p => by rw [he]) hv
  · obtain ⟨h1, h2, h3, h4, h5⟩ := h
    exact ⟨feed ▸ h1, stats ▸ h2, line ▸ h3, line ▸ h4, fun p => by rw [he]; exact h5 p⟩
  · exact ⟨h.ordered.of_same number peers, by unfold QueueSourced; rw [line]; exact h.sourced,
      h.reporting.of_same state peers⟩
  · exact h.of_same state cfg peers (fun p => by rw [he]) (fun p => by rw [he])
  · unfold OnLineFrameReady
    rwa [line]
  · exact h.of_same state (fun p => by rw [he])

/-- R155: a change among the working states to one in which reports are composed. -/
theorem State.changeState_sustains (hw : s.station.state.working = true) {st : StationState} (hr : st.reporting = true)
    (l : Option Nat) : Sustains s (s.changeState st l) := by
  have hst : st.working = true := by cases st <;> first | rfl | cases hr
  refine Sustains.trans (t := { s with station := { s.station with state := st, listen := l } })
    ⟨fun h => ⟨h.openOnly, fun hh _ => h.matched hh hw⟩, fun h => ⟨h.feed, h.stats, h.queue, h.chars, h.ageing⟩,
      fun h => ⟨h.ordered, h.sourced, fun hn => by cases hr.symm.trans hn⟩,
      fun h => ⟨h.smallest, h.amounts, fun hn => (by cases hst.symm.trans hn), fun hn => (by cases hr.symm.trans hn)⟩, id⟩
    (State.composeReport_lineAct _).keeps.toSustains

theorem State.composeReport_inRun (s : State) : s.composeReport.inRun = s.inRun := by
  simp only [State.inRun, (State.composeReport_steady s).2.2.1]

theorem State.changeState_inRun (s : State) (st : StationState) (l : Option Nat) :
    (s.changeState st l).inRun = (st == .run) :=
  State.composeReport_inRun _

theorem State.calmIsolated_acted (s : State) (before : StationState) : Acted s (s.calmIsolated before) := by
  simp only [State.calmIsolated]
  split
  · exact s.calm_acted _
  · exact .refl s

theorem passiveOutsideRun_of_run (h : s.inRun = true) : PassiveOutsideRun s :=
  fun hr => absurd (beq_iff_eq.mp h) hr

theorem State.enterRun_keeps (hw : s.station.state.working = true) : Keeps s s.enterRun := by
  have h : Acted (s.changeState .run none) s.enterRun :=
    (State.askFromRest_acted _ _).trans ((State.askFromRest_acted _ _).trans (State.askFromRest_acted _ _))
  exact ⟨(State.changeState_sustains hw rfl none).trans h.keeps.toSustains,
    fun _ => passiveOutsideRun_of_run (h.inRun.trans (s.changeState_inRun _ _))⟩

/-- R61: a forced release outside RUN leaves no engine waiting or holding. -/
theorem State.forcedRelease_passive (hr : s.inRun = false) (p : Pool) :
    ((s.forcedRelease p).engine p).state.passive = true := by
  have hrest (u : State) (q : Pool) (hu : u.inRun = false) : ((u.arriveRest q).engine q).state.passive = true := by
    rw [State.arriveRest_eq, State.engine_setEngine, hu]
    rfl
  simp only [State.forcedRelease]
  cases h : (s.engine p).state with
  | holding =>
    dsimp only
    split
    · next v hv =>
      have hp := Pool.valve_pool hv
      subst hp
      cases hc : (s.valve v).seenClosed
      · rw [State.release_of_not_seenClosed _ _ _ hc, State.engine_setValve, State.engine_endNoFlow,
          State.engine_setEngine]
        rfl
      · rw [State.release_of_seenClosed _ _ _ hc, State.engine_setEngine]
        exact Engine.released_passive _ hr
    · next hv =>
      have hb : p = .biocide := by cases p <;> first | rfl | cases hv
      subst hb
      refine (State.abortIfRunning_acted _).passive ?_ .biocide (hrest _ _ (by simpa using hr))
      exact (s.biocideToRest_acted.inRun).trans hr
  | asking | confirming => exact hrest _ _ (by simpa using hr)
  | rest | releasing | stuck | locked => dsimp only; rw [h]; rfl

theorem State.releaseAll_passive (hr : s.inRun = false) (p : Pool) : (s.releaseAll.engine p).state.passive = true := by
  have h1 := s.forcedRelease_acted .discharge
  have h2 := (s.forcedRelease .discharge).forcedRelease_acted .supply
  have h3 := ((s.forcedRelease .discharge).forcedRelease .supply).forcedRelease_acted .biocide
  have r1 := h1.inRun.trans hr
  have r2 := h2.inRun.trans r1
  cases p with
  | discharge => exact h3.passive r2 _ (h2.passive r1 _ (State.forcedRelease_passive hr _))
  | supply => exact h3.passive r2 _ (State.forcedRelease_passive r1 _)
  | biocide => exact State.forcedRelease_passive r2 _

theorem State.enterHold_keeps (hw : s.station.state.working = true) : Keeps s s.enterHold := by
  have h : Acted (s.changeState .hold none) (((s.changeState .hold none).calmIsolated s.station.state).abortIfRunning) :=
    (State.calmIsolated_acted _ _).trans (State.abortIfRunning_acted _)
  refine ⟨(State.changeState_sustains hw rfl none).trans (h.trans (State.releaseAll_acted _)).keeps.toSustains,
    fun _ _ p => State.releaseAll_passive (h.inRun.trans (s.changeState_inRun _ _)) p⟩

theorem State.isolatedAlarms_acted (s : State) : Acted s s.isolatedAlarms := by
  have h : Acted s { s with freeIx := s.freeIx + 1 } := .of_same
  simp only [State.isolatedAlarms]
  (repeat' split)
  · exact h.trans ((State.abortCycle_acted _).trans ((State.raise_acted _ _).trans (State.occur_acted _ _)))
  · exact h.trans ((State.raise_acted _ _).trans ((State.occur_acted _ _).trans (State.abortCycle_acted _)))
  · exact (s.raise_acted _).trans (State.occur_acted _ _)

theorem State.enterIsolated_keeps (hw : s.station.state.working = true) : Keeps s s.enterIsolated := by
  have h := (s.changeState .isolated none).isolatedAlarms_acted
  refine ⟨(State.changeState_sustains hw rfl none).trans (h.trans (State.releaseAll_acted _)).keeps.toSustains,
    fun _ _ p => State.releaseAll_passive (h.inRun.trans (s.changeState_inRun _ _)) p⟩

theorem State.enterListen_keeps (hw : s.station.state.working = true) (hr : s.station.state ≠ .run) :
    Keeps s s.enterListen := by
  have hline : LineAct s { s with line := { s.line with deliveryTimer := some 0 } } := .of_slots
  have h : Acted ({ s with line := { s.line with deliveryTimer := some 0 } }.changeState .listen (some Config.listenPeriod))
      s.enterListen := (State.calmIsolated_acted _ _).trans (State.feedResumed_acted _ _)
  have hcompose := State.composeReport_lineAct
    { s with line := { s.line with deliveryTimer := some 0 },
             station := { s.station with state := .listen, listen := some Config.listenPeriod } }
  refine ⟨hline.keeps.toSustains.trans ((State.changeState_sustains
    (s := { s with line := { s.line with deliveryTimer := some 0 } }) hw rfl _).trans h.keeps.toSustains), fun hs => ?_⟩
  refine h.keeps.passive (hcompose.keeps.passive (fun _ p => ?_))
  have := hs hr p
  cases p <;> exact this

theorem Line.quiet_ready {l : Line} : l.quiet.onLine = none ∧ l.quiet.nextSlot = none := ⟨rfl, rfl⟩

/-- R100, R77: the silent station without peers, before its engines are released. -/
theorem State.quieted_sustains (hw : s.station.state.working = true) :
    Sustains s ({ s.changeState .quiet none with line := (s.changeState .quiet none).line.quiet }.emptyPeers) := by
  have hsame : s.changeState .quiet none = { s with station := { s.station with state := .quiet, listen := none } } := rfl
  rw [hsame]
  refine ⟨fun h => ?_, fun h => ?_, fun h => ?_, fun h => ?_, fun _ => ⟨fun _ ho => (nomatch ho), fun _ => rfl⟩⟩
  · refine ⟨fun v => ?_, fun hh _ v => ?_⟩
    · have := h.openOnly v
      cases v <;> exact this
    · have := h.matched hh hw v
      cases v <;> exact this
  · refine ⟨h.feed, h.stats, h.queue, h.chars, fun p => ?_⟩
    have := h.ageing p
    cases p <;> exact this
  · exact ⟨⟨List.Pairwise.nil, List.forall_mem_nil _⟩, h.sourced, fun _ => rfl⟩
  · refine State.recomputeCaps_caps (fun p => ?_) rfl (fun _ => rfl)
    have := h.amounts p
    cases p <;> exact this

theorem State.enterQuiet_keeps (hw : s.station.state.working = true) : Keeps s s.enterQuiet := by
  have hrun : ({ s.changeState .quiet none with line := (s.changeState .quiet none).line.quiet }.emptyPeers).inRun = false :=
    rfl
  have h (u : State) : Acted u (u.calmIsolated s.station.state).abortIfRunning :=
    (State.calmIsolated_acted _ _).trans (State.abortIfRunning_acted _)
  refine ⟨(State.quieted_sustains hw).trans ((h _).trans ((State.releaseAll_acted _).trans
    (State.feedResumed_acted _ _))).keeps.toSustains, fun _ => ?_⟩
  refine (State.feedResumed_acted _ _).keeps.passive (fun _ p => State.releaseAll_passive ((h _).inRun.trans hrun) p)

/-! ## Resets and restarts -/

/-- A part that has just been reset, in a state in which no configuration is loaded. -/
theorem Keeps.of_unloaded (state : t.station.state.working = false) (cfg : t.station.cfg = EffConfig.zero)
    (claim : t.claim = Claim.reset) (peers : t.peers = []) (blowdown : t.out.blowdown.commanded = .closed)
    (makeup : t.out.makeup.commanded = .closed) (queue : t.line.rxQueue = []) (chars : t.line.rxChars = [])
    (onLine : t.line.onLine = none) (next : t.line.nextSlot = none) (feed : FeedSound s.feed → FeedSound t.feed)
    (stats : StatsSound s.stats → StatsSound t.stats) : Keeps s t := by
  have he p : t.engine p = Engine.reset := by cases p <;> simp only [State.engine, claim] <;> rfl
  have hcap p : t.station.cfg.cap p = 0 := by rw [cfg]; cases p <;> rfl
  have htable : TableOnlyReporting t := fun _ => peers
  refine ⟨⟨fun _ => ⟨fun v hv => ?_, fun _ hw => ?_⟩, fun h => ⟨feed h.feed, stats h.stats, ?_, ?_, fun p => ?_⟩,
    fun _ => ⟨?_, ?_, htable⟩, fun _ => ⟨fun p => ?_, fun p => ?_, fun _ => ⟨cfg, fun p => ?_⟩, htable⟩,
    fun _ => ⟨fun o ho => ?_, fun _ => next⟩⟩, fun _ _ p => ?_⟩
  · cases v
    · cases blowdown.symm.trans hv
    · cases makeup.symm.trans hv
  · cases state.symm.trans hw
  · rw [queue]; exact Nat.zero_le _
  · rw [chars]; exact Nat.zero_le _
  · rw [he]; exact Nat.zero_le _
  · unfold TableInOrder
    rw [peers]
    exact ⟨.nil, List.forall_mem_nil _⟩
  · unfold QueueSourced
    rw [queue]
    exact List.forall_mem_nil _
  · rw [he, hcap, peers]
    exact ⟨Nat.le_refl _, List.forall_mem_nil _, .inl rfl⟩
  · rw [he]; exact Nat.zero_le _
  · rw [he]; exact ⟨rfl, rfl⟩
  · cases onLine.symm.trans ho
  · rw [he]; rfl

theorem FeedSound.cold : FeedSound Feed.cold :=
  ⟨by decide, by decide, by decide, by decide, by decide, by decide⟩

theorem FeedSound.restarted {f : Feed} (h : FeedSound f) : FeedSound f.restarted :=
  ⟨h.owed, h.remainder, rfl, rfl, FeedSound.cold.makeupSlots, FeedSound.cold.blowdownSlots⟩

theorem StatsSound.cold : StatsSound Stats.cold :=
  ⟨rfl, rfl, by decide, Nat.zero_le _, List.nodup_nil⟩

theorem StatsSound.restarted {t : Stats} (h : StatsSound t) : StatsSound t.restarted :=
  ⟨h.counters, h.cells, h.cellBound, h.lastCounter, List.nodup_nil⟩

theorem State.warmRestart_keeps (s : State) (straps : BitVec 5) : Keeps s (s.warmRestart straps) := by
  simp only [State.warmRestart, State.readStraps]
  split
  · exact .of_unloaded rfl rfl rfl rfl rfl rfl rfl rfl rfl rfl FeedSound.restarted (fun h => h.restarted.latch _)
  · exact .of_unloaded rfl rfl rfl rfl rfl rfl rfl rfl rfl rfl FeedSound.restarted StatsSound.restarted

theorem Output.afterCold_closed (o : Output) (c : ResetCause) :
    (o.afterCold c).blowdown.commanded = .closed ∧ (o.afterCold c).makeup.commanded = .closed := by
  cases c <;> exact ⟨rfl, rfl⟩

theorem State.coldReset_keeps (s : State) (c : ResetCause) (straps : BitVec 5) : Keeps s (s.coldReset c straps) := by
  obtain ⟨hb, hm⟩ := s.out.afterCold_closed c
  simp only [State.coldReset, State.readStraps]
  split
  · exact .of_unloaded rfl rfl rfl rfl hb hm rfl rfl rfl rfl (fun _ => .cold) (fun _ => StatsSound.cold.latch _)
  · exact .of_unloaded rfl rfl rfl rfl hb hm rfl rfl rfl rfl (fun _ => .cold) (fun _ => .cold)

theorem State.holdInReset_keeps (s : State) (c : ResetCause) : Keeps s (s.holdInReset c) where
  valves _ := ⟨fun v hv => (by cases v <;> cases hv), fun hh => nomatch hh⟩
  bounds h := ⟨h.feed, h.stats, h.queue, h.chars, h.ageing⟩
  table h := ⟨h.ordered, h.sourced, h.reporting⟩
  caps h := ⟨h.smallest, h.amounts, h.unloaded, h.table⟩
  onLine _ := ⟨fun _ ho => (nomatch ho), fun _ => rfl⟩
  passive h := h

theorem State.leavingFinished_keeps (s : State) (k : FrameKind) (straps : BitVec 5) :
    Keeps s (s.leavingFinished k straps) := by
  cases k
  · exact .refl s
  · exact s.warmRestart_keeps straps

end

end Sys2Proof.Machine
end

section
/-! SUPPORT. The entry to LISTEN from START, one millisecond, and the walk over the commands: every step keeps the
invariants (R61, R106 to R112, the bounds, R65, R36, R92). -/

namespace Sys2Proof.Machine
open Sys2Proof

set_option Elab.async false

section
variable {s t u : State}

/-! ## The end of START -/

/-- R35: an effective configuration claims no more than its caps. -/
theorem effectiveConfig_amount_le_cap (b : List Byte) (p : Pool) :
    (effectiveConfig b).amount p ≤ (effectiveConfig b).cap p := by
  cases p <;> exact Nat.min_le_right _ _

theorem State.startValve_framed (s : State) (v : Valve) : Framed s (s.startValve v) := by
  simp only [State.startValve]
  split
  · exact (State.setEngine_framed (p := v.pool) (e := { s.engine v.pool with state := .releasing })
      ⟨rfl, rfl, Nat.le_refl _⟩).trans (State.closeCommand_framed _ v)
  · exact .refl s

theorem State.startValve_engine_ne (s : State) {v : Valve} {q : Pool} (h : q ≠ v.pool) :
    (s.startValve v).engine q = s.engine q := by
  simp only [State.startValve]
  split
  · rw [State.closeCommand_engine_ne _ h, State.engine_setEngine_ne _ _ h]
  · rfl

theorem State.startValve_valve_ne (s : State) {v w : Valve} (h : w ≠ v) : (s.startValve v).valve w = s.valve w := by
  simp only [State.startValve]
  split
  · rw [State.closeCommand_valve_ne _ h, State.valve_setEngine]
  · rfl

/-- R63, R113: an engine in REST and its valve as the load leaves them: RELEASING and a close check where the valve is
seen open, as they are otherwise. -/
theorem State.startValve_eq (s : State) (v : Valve) : s.startValve v =
    if (s.valve v).feedbackPresent = true ∧ (s.valve v).settled = .opened then
      (s.setEngine v.pool { s.engine v.pool with state := .releasing }).setValve v (s.valve v).closing
    else s := by
  simp only [State.startValve, Bool.and_eq_true, beq_iff_eq]
  split
  · next h =>
    have hs : (s.valve v).seenClosed = false := by simp [ValveRec.seenClosed, h.2]
    rw [State.closeCommand_of_not_seenClosed (by rwa [State.valve_setEngine]), State.valve_setEngine]
  · rfl

theorem State.startValve_matches {v : Valve} (he : (s.engine v.pool).state = .rest)
    (hc : (s.valve v).commanded = .closed) (hk : (s.valve v).check = .none) :
    valveMatches ((s.startValve v).engine v.pool).state ((s.startValve v).valve v) ∧
      ((s.startValve v).valve v).commanded = .closed ∧ ((s.startValve v).engine v.pool).state.passive = true := by
  rw [State.startValve_eq]
  split
  · next h =>
    rw [State.valve_setValve, State.engine_setValve, State.engine_setEngine]
    exact ⟨⟨rfl, rfl, fun _ => h.2⟩, rfl, rfl⟩
  · next h =>
    rw [he]
    refine ⟨⟨hc, hk, fun hf => ?_⟩, hc, rfl⟩
    cases hs : (s.valve v).settled
    · exact absurd ⟨hf, hs⟩ h
    · rfl

/-- The three engines and the valves once START has ended: passive engines, each valve's record as its engine has it. -/
theorem State.started_valves {c : EffConfig} (hclaim : s.claim = Claim.loaded c)
    (hb : s.out.blowdown.commanded = .closed ∧ s.out.blowdown.check = .none)
    (hm : s.out.makeup.commanded = .closed ∧ s.out.makeup.check = .none) :
    (∀ v : Valve, valveMatches ((((s.startValve .blowdown).startValve .makeup).engine v.pool)).state
        (((s.startValve .blowdown).startValve .makeup).valve v) ∧
      (((s.startValve .blowdown).startValve .makeup).valve v).commanded = .closed) ∧
    ∀ p, (((s.startValve .blowdown).startValve .makeup).engine p).state.passive = true := by
  have he p : (s.engine p).state = .rest := by cases p <;> simp only [State.engine, hclaim] <;> rfl
  obtain ⟨b1, b2, b3⟩ := State.startValve_matches (v := .blowdown) (he _) hb.1 hb.2
  have hs : (s.startValve .blowdown).engine Valve.makeup.pool = s.engine .supply :=
    s.startValve_engine_ne (v := .blowdown) (by decide)
  have hv : (s.startValve .blowdown).valve .makeup = s.out.makeup := s.startValve_valve_ne (by decide)
  obtain ⟨m1, m2, m3⟩ := State.startValve_matches (s := s.startValve .blowdown) (v := .makeup) (by rw [hs, he])
    (by rw [hv]; exact hm.1) (by rw [hv]; exact hm.2)
  constructor
  · intro v
    cases v
    · rw [State.startValve_valve_ne _ (by decide), State.startValve_engine_ne _ (by decide)]
      exact ⟨b1, b2⟩
    · exact ⟨m1, m2⟩
  · intro p
    cases p
    · rw [State.startValve_engine_ne _ (by decide)]
      exact b3
    · exact m3
    · rw [State.startValve_engine_ne _ (by decide), State.startValve_engine_ne _ (by decide), he]
      rfl

theorem State.load_keeps (hs : s.station.state = .start) (b : List Byte) (i : StartInputs) :
    Keeps s (((s.load (effectiveConfig b) i).startValve .blowdown).startValve .makeup) := by
  obtain ⟨hvalve, hpassive⟩ := (s.load (effectiveConfig b) i).started_valves rfl ⟨rfl, rfl⟩ ⟨rfl, rfl⟩
  have hf := ((s.load (effectiveConfig b) i).startValve_framed .blowdown).trans (State.startValve_framed _ .makeup)
  have hpeers (h : TableOnlyReporting s) : s.peers = [] := h (by rw [hs]; rfl)
  have hcap p : ((s.load (effectiveConfig b) i).engine p).effCap = (effectiveConfig b).cap p := by cases p <;> rfl
  have hamount p : ((s.load (effectiveConfig b) i).engine p).amount = (effectiveConfig b).amount p := by cases p <;> rfl
  refine ⟨⟨fun _ => ⟨fun v ho => ?_, fun _ _ v => (hvalve v).1⟩, fun h => ?_, fun h => ?_, fun h => ?_, fun h => ?_⟩,
    fun _ _ p => hpassive p⟩
  · cases (hvalve v).2.symm.trans ho
  · refine ⟨hf.feed h.feed.of_same, hf.stats h.stats, ?_, ?_, fun p => Nat.le_trans (hf.ageing p) ?_⟩
    · rw [hf.line]; exact h.queue
    · rw [hf.line]; exact h.chars
    · cases p <;> exact Nat.zero_le _
  · refine ⟨h.ordered.of_same (by rw [hf.station]; rfl) hf.peers, ?_, fun hn => ?_⟩
    · unfold QueueSourced
      rw [hf.line]
      exact h.sourced
    · rw [hf.station] at hn
      cases hn
  · refine ⟨fun p => ?_, fun p => ?_, fun hn => ?_, fun hn => ?_⟩
    · rw [hf.effCap, hf.station, hf.peers, hcap]
      refine ⟨Nat.le_refl _, ?_, .inl rfl⟩
      rw [show (s.load (effectiveConfig b) i).peers = [] from hpeers h.table]
      exact List.forall_mem_nil _
    · rw [hf.amount, hf.station, hamount]
      exact effectiveConfig_amount_le_cap b p
    all_goals
      rw [hf.station] at hn
      cases hn
  · unfold OnLineFrameReady
    rw [hf.line]
    exact h

theorem State.balanceAlarm_acted (s : State) : Acted s s.balanceAlarm := by
  simp only [State.balanceAlarm]
  split
  · exact s.occur_acted _
  · exact .refl s

theorem State.abortAlarm_acted (s : State) : Acted s s.abortAlarm := by
  simp only [State.abortAlarm]
  split
  · exact s.occur_acted _
  · exact .refl s

theorem State.keptAlarms_acted (s : State) : Acted s s.keptAlarms := by
  have h : Acted s { s with freeIx := s.freeIx + 1 } := .of_same
  simp only [State.keptAlarms]
  (repeat' split)
  · exact h.trans ((State.abortAlarm_acted _).trans (State.balanceAlarm_acted _))
  · exact h.trans ((State.balanceAlarm_acted _).trans (State.abortAlarm_acted _))
  · exact s.balanceAlarm_acted.trans (State.abortAlarm_acted _)

theorem State.renewSuppression_acted (s : State) : Acted s s.renewSuppression := by
  simp only [State.renewSuppression]
  split
  · exact s.request_acted _ _
  · exact .refl s

theorem State.enterListenFromStart_keeps (hs : s.station.state = .start) (b : List Byte) (i : StartInputs) :
    Keeps s (s.enterListenFromStart b i) := by
  have hrest (u : State) (n : Nat) : Keeps u
      (((((u.cycleNotice).renewSuppression).keptAlarms.feedResumed .start).takeScan i.codes).scanDemand.composeReport.composeReports
        n) :=
    ((u.cycleNotice_acted.trans ((State.renewSuppression_acted _).trans ((State.keptAlarms_acted _).trans
      ((State.feedResumed_acted _ _).trans ((State.takeScan_acted _ _).trans (State.scanDemand_acted _)))))).keeps).trans
      ((State.composeReport_lineAct _).trans (State.composeReports_lineAct _ _)).keeps
  unfold State.enterListenFromStart
  dsimp only
  split
  · exact (s.raise_acted .configClamped).keeps.trans
      ((State.load_keeps (s := s.raise .configClamped) hs b i).trans (hrest _ _))
  · exact (State.load_keeps hs b i).trans (hrest _ _)

/-! ## Attempts -/

theorem start_of_attempt (h : s.attempt.isSome = true) : s.station.state = .start := by
  unfold State.attempt at h
  split at h
  · assumption
  · cases h

/-- R164: CONFIG FAULT, from START. -/
theorem State.enterConfigFault_keeps (hs : s.station.state = .start) (r : FaultReason) :
    Keeps s (s.enterConfigFault r) := by
  have hw : s.station.state.working = false := by rw [hs]; rfl
  have hr : s.station.state.reporting = false := by rw [hs]; rfl
  refine ⟨⟨fun h => ⟨h.openOnly, fun _ hw => nomatch hw⟩, fun h => ⟨h.feed, h.stats.latch _, h.queue, h.chars, h.ageing⟩,
    fun h => ⟨h.ordered, h.sourced, fun _ => h.reporting hr⟩, fun h => ?_, id⟩, fun h _ p => ?_⟩
  · obtain ⟨hc, hp⟩ := h.unloaded hw
    refine ⟨h.smallest.of_same hc.symm rfl (fun _ => rfl), fun p => ?_, fun _ => ⟨rfl, hp⟩, fun _ => h.table hr⟩
    have ha := h.amounts p
    rw [hc] at ha
    exact ha
  · exact h (by rw [hs]; decide) p

theorem State.attemptEnds_keeps (h : s.attempt.isSome = true) (n : Nat) (m : MemoryAnswer) (i : StartInputs) :
    Keeps s (s.attemptEnds n m i) := by
  have hs := start_of_attempt h
  have hbus : Keeps s { s with station := { s.station with bus := imageTransaction m } } := .of_station
  have hs' : ({ s with station := { s.station with bus := imageTransaction m } } : State).station.state = .start := hs
  unfold State.attemptEnds
  generalize ({ s with station := { s.station with bus := imageTransaction m } } : State) = u at hbus hs'
  dsimp only
  split
  · simp only [State.attemptFails]
    split
    · exact hbus.trans .of_station
    · exact hbus.trans (State.enterConfigFault_keeps hs' _)
  · exact hbus.trans (State.enterListenFromStart_keeps hs' _ i)

theorem State.nextAttempt_keeps (s : State) : Keeps s s.nextAttempt := by
  simp only [State.nextAttempt]
  split
  · exact .of_station
  · exact .refl s
  · exact .refl s

/-! ## One millisecond -/

theorem State.tick_of_free (h : s.held = none) : s.tick =
    { s.tickWorking with
      now := s.now + 1, claim := s.claim.tick s.station.cfg, peers := s.peers.map PeerEntry.tick, line := s.line.tick,
      out := s.out.tick s.station.cfg, feed := s.feed.tick s.station.cfg, station := s.station.tick } := by
  simp [State.tick, h]

theorem State.tick_of_held (h : s.held ≠ none) : s.tick = { s with now := s.now + 1 } := by
  simp [State.tick, Option.isSome_iff_ne_none, h]

theorem State.tick_engine (h : s.held = none) (p : Pool) :
    s.tick.engine p = (s.engine p).tick (s.station.cfg.maxRun p) := by
  rw [State.tick_of_free h]
  cases p <;> rfl

theorem State.tick_valve (h : s.held = none) (v : Valve) :
    s.tick.valve v = (s.valve v).tick (s.station.cfg.confirmTime * 1000) := by
  rw [State.tick_of_free h]
  cases v <;> rfl

theorem valveMatches_tick {e : EngineState} {r : ValveRec} (n : Nat) : valveMatches e (r.tick n) ↔ valveMatches e r := by
  cases e <;> exact Iff.rfl

theorem State.tick_keeps_of_free (h : s.held = none) : Keeps s s.tick := by
  have hstate p : (s.tick.engine p).state = (s.engine p).state := by rw [State.tick_engine h]; rfl
  have hpeers : s.tick.peers = s.peers.map PeerEntry.tick := by rw [State.tick_of_free h]
  have hstation : s.tick.station = s.station.tick := by rw [State.tick_of_free h]
  have hline : s.tick.line = s.line.tick := by rw [State.tick_of_free h]
  have htable (ht : TableOnlyReporting s) : TableOnlyReporting s.tick := by
    intro hr
    rw [hstation] at hr
    rw [hpeers, ht hr]
    rfl
  refine ⟨⟨fun hv => ⟨fun v => ?_, fun hh hw v => ?_⟩, fun hb => ⟨?_, ?_, ?_, ?_, fun p => ?_⟩,
    fun ht => ⟨ht.ordered.sub ?_ ?_, ?_, htable ht.reporting⟩,
    fun hc => ⟨fun p => ?_, fun p => ?_, fun hw => ?_, htable hc.table⟩, fun hl => ?_⟩,
    fun hp => hp.of_same s.tick_station_state hstate⟩
  · rw [State.tick_valve h, hstate]
    exact hv.openOnly v
  · rw [State.tick_valve h, hstate, valveMatches_tick]
    rw [s.tick_station_state] at hw
    exact hv.matched h hw v
  · rw [State.tick_of_free h]
    exact hb.feed.of_same
  · rw [s.tick_stats]; exact hb.stats
  · rw [hline]; exact hb.queue
  · rw [hline]; exact hb.chars
  · rw [State.tick_engine h]; exact hb.ageing p
  · rw [hpeers, List.map_map]
    exact List.Sublist.refl _
  · rw [hstation]; rfl
  · unfold QueueSourced
    rw [hline]
    exact ht.sourced
  · obtain ⟨h1, h2, h3⟩ := hc.smallest p
    rw [State.tick_engine h, hstation, hpeers]
    refine ⟨h1, fun e he hf => ?_, h3.imp_right ?_⟩
    · obtain ⟨x, hx, rfl⟩ := List.mem_map.mp he
      have := h2 x hx hf
      cases p <;> exact this
    · rintro ⟨e, he, hf, heq⟩
      refine ⟨e.tick, List.mem_map_of_mem he, hf, ?_⟩
      cases p <;> exact heq
  · rw [State.tick_engine h, hstation]
    exact hc.amounts p
  · rw [hstation] at hw ⊢
    obtain ⟨hcfg, hz⟩ := hc.unloaded hw
    exact ⟨hcfg, fun p => by rw [State.tick_engine h]; exact hz p⟩
  · unfold OnLineFrameReady
    rw [hline]
    exact hl

theorem State.tick_keeps (s : State) : Keeps s s.tick := by
  by_cases h : s.held = none
  · exact State.tick_keeps_of_free h
  · rw [State.tick_of_held h]
    exact (Acted.of_same (s := s) (t := { s with now := s.now + 1 })).keeps

/-! ## The panel port -/

theorem State.respond_acted (s : State) (b : List Byte) : Acted s (s.respond b) := .of_same

theorem State.conclude_acted (s : State) (r : MailResult) : Acted s (s.conclude r) :=
  .after (State.raise_acted _ .commandDone)

theorem State.readRecord_keeps (s : State) (rec idx : Nat) : Keeps s (s.readRecord rec idx) := by
  have h (u : State) : Keeps u (u.clearOnRead rec idx) := by
    simp only [State.clearOnRead]
    (repeat' split)
    · exact Acted.keeps (.of_same (stats := fun h => ⟨h.counters, h.cells, h.cellBound, h.lastCounter, h.kinds⟩))
    · exact .of_station
    · exact .refl u
  simp only [State.readRecord]
  split
  · exact (s.respond_acted _).keeps
  · exact (s.respond_acted _).keeps.trans ((h _).trans (State.driveLines_acted _).keeps)

theorem State.takeCommand_keeps {refused : Bool} {body : State → State} (h : refused = false → Keeps s (body s)) :
    Keeps s (s.takeCommand refused body) := by
  simp only [State.takeCommand]
  split
  · exact (s.conclude_acted _).keeps
  · split
    · exact (s.conclude_acted _).keeps
    · next hr => exact (h (by simpa using hr)).trans (State.conclude_acted _ _).keeps

theorem State.arrive_acted (s : State) (code : Byte) (argument : Word32) : Acted s (s.arrive code argument) := by
  simp only [State.arrive]
  (repeat' split)
  · exact s.raise_acted _
  · exact .after (State.conclude_acted _ _)
  · exact .after (State.conclude_acted _ _)
  · exact .of_same

theorem State.clearPart_acted (s : State) (o : ClearOwner) : Acted s (s.clearPart o) := by
  cases o with
  | statistics =>
    exact .of_same (stats := fun h => ⟨rfl, rfl, StatsSound.cold.cellBound, Nat.zero_le _, h.kinds⟩)
  | feed => exact .of_same (feed := (·.of_same))

theorem State.takeClear_keeps (s : State) : Keeps s s.takeClear := by
  simp only [State.takeClear]
  split
  · exact State.takeCommand_keeps (fun _ => ((s.clearPart_acted _).trans .of_same).keeps)
  · exact ((s.clearPart_acted _).trans .of_same).keeps

/-! ## The commands -/

theorem working_of_reporting {st : StationState} (h : st.reporting = true) : st.working = true := by
  cases st <;> first | rfl | cases h

theorem State.takeHold_keeps (h : s.holdRefused = false) : Keeps s s.takeHold := by
  simp only [State.takeHold]
  split
  · exact .refl s
  · exact State.enterHold_keeps (working_of_reporting (by simpa [State.holdRefused] using h))

theorem State.restartCommand_keeps (s : State) (straps : BitVec 5) : Keeps s (s.restartCommand straps) := by
  have h : Keeps s { s with station := { s.station with restartPending := true } } := .of_station
  simp only [State.restartCommand, State.takeRestart]
  (repeat' split)
  · exact (s.conclude_acted _).keeps
  · exact (s.conclude_acted _).keeps
  · exact s.warmRestart_keeps straps
  · exact h.trans (State.composeLeaving_lineAct _).keeps

theorem State.attemptMisses_keeps {o : OnLine} (ho : s.line.onLine = some o) (straps : BitVec 5) :
    Keeps s (s.attemptMisses o straps) := by
  have h : LineAct s { s with line := { s.line with rxMode := .ownDamaged } } := .of_slots
  simp only [State.attemptMisses]
  split
  · next hn => exact (h.trans (State.retry_lineAct ho hn)).keeps
  · exact (h.trans (State.loseFrame_moveUp_lineAct _)).keeps.trans (State.leavingFinished_keeps _ _ straps)

theorem State.deliveryNotice_keeps (s : State) : Keeps s s.deliveryNotice := by
  simp only [State.deliveryNotice]
  split
  · next h =>
    rw [beq_iff_eq] at h
    exact State.enterListen_keeps (by rw [h]; rfl) (by rw [h]; decide)
  · exact .refl s

theorem State.attemptDelivers_keeps (s : State) (o : OnLine) (straps : BitVec 5) :
    Keeps s (s.attemptDelivers o straps) := by
  have h : LineAct s { s with line := { s.line with rxMode := .ownEcho } } := .of_slots
  exact (h.trans (State.deliverFrame_moveUp_lineAct _)).keeps.trans
    ((State.deliveryNotice_keeps _).trans (State.leavingFinished_keeps _ _ straps))

theorem State.duplicate_keeps (hw : s.station.state.working = true) (straps : BitVec 5) : Keeps s (s.duplicate straps) := by
  have h : Keeps s ((s.raise .duplicateStation).occur .duplicateStation).enterQuiet :=
    ((s.raise_acted _).trans (State.occur_acted _ _)).keeps.trans (State.enterQuiet_keeps hw)
  simp only [State.duplicate]
  split
  · exact h.trans (State.warmRestart_keeps _ straps)
  · exact h

theorem State.dequeue_lineAct (s : State) : LineAct s s.dequeue :=
  ⟨rfl, rfl, rfl, rfl, fun v => by simp, rfl, id, fun h => (by rw [List.length_tail]; omega : s.line.rxQueue.tail.length ≤ 4), id,
    fun h b hb => h b (List.mem_of_mem_tail hb), id⟩

/-- R82: the frame at the head of the queue has a source. -/
theorem State.head_source {b : List Byte} {rest : List (List Byte)} (hq : s.line.rxQueue = b :: rest)
    (h : QueueSourced s) : 1 ≤ nat1At (s.line.rxQueue.headD []) 2 := by
  have := h b (by rw [hq]; exact List.mem_cons_self)
  rw [hq]
  exact Nat.one_le_iff_ne_zero.mpr this

theorem State.takeFrame_keeps {process : State → List Byte → State} (straps : BitVec 5)
    (hp : s.station.state.reporting = true → ¬ 32 ≤ nat1At (s.line.rxQueue.headD []) 2 →
      nat1At (s.line.rxQueue.headD []) 2 ≠ s.station.number → Keeps s (process s.dequeue (s.line.rxQueue.headD []))) :
    Keeps s (s.takeFrame straps process) := by
  simp only [State.takeFrame]
  split
  · exact (s.dequeue_lineAct.trans (State.count_lineAct _ _ _)).keeps
  · next h32 =>
    split
    · exact s.dequeue_lineAct.keeps
    · next hr =>
      have hr : s.station.state.reporting = true := by simpa using hr
      split
      · exact s.dequeue_lineAct.keeps.trans (State.duplicate_keeps (s := s.dequeue) (working_of_reporting hr) straps)
      · next hne => exact hp hr h32 hne

theorem queue_of_headIs {k : FrameKind} (h : s.headIs k = true) : ∃ b rest, s.line.rxQueue = b :: rest := by
  unfold State.headIs at h
  split at h
  · next b rest hq => exact ⟨b, rest, hq⟩
  · cases h

theorem State.reportFrame_keeps (h : s.headIs .report = true) (straps : BitVec 5) :
    Keeps s (s.takeFrame straps State.takeReport) := by
  obtain ⟨b, rest, hq⟩ := queue_of_headIs h
  refine State.takeFrame_keeps straps (fun hr h32 hne => ?_)
  exact State.takeReport_keeps s.dequeue_lineAct.keeps (fun ht => State.head_source hq ht.sourced) (by omega) hne hr

theorem State.leavingFrame_keeps (s : State) (straps : BitVec 5) : Keeps s (s.takeFrame straps State.takeLeaving) := by
  refine State.takeFrame_keeps straps (fun hr _ _ => s.dequeue_lineAct.keeps.trans ?_)
  simp only [State.takeLeaving]
  split
  · exact State.deletePeer_keeps _ (fun _ => hr)
  · exact .refl _

theorem peer_of_staleDue {n : Nat} (h : s.staleDue n = true) : ∃ e, s.peerAt n = some e := by
  unfold State.staleDue at h
  split at h
  · next e he => exact ⟨e, he⟩
  · cases h

theorem peer_of_dropDue {n : Nat} (h : s.dropDue n = true) : ∃ e, s.peerAt n = some e := by
  unfold State.dropDue at h
  split at h
  · next e he => exact ⟨e, he⟩
  · cases h

theorem working_of_isolable {st : StationState} (h : st.isolable = true) : st.working = true := by
  cases st <;> first | rfl | cases h

theorem confirming_of_over {e : Engine} (h : e.confirmOver = true) : e.state = .confirming := by
  simp only [Engine.confirmOver, Bool.and_eq_true, beq_iff_eq] at h
  exact h.1

theorem check_of_over {v : Valve} {k : Check} (h : s.checkOver v k = true) : (s.valve v).check = k := by
  simp only [State.checkOver, Bool.and_eq_true, beq_iff_eq] at h
  exact h.1.2

theorem feedback_of_changes {v : Valve} {i : Held ValvePos} (h : s.feedbackChanges v i = true) :
    (s.valve v).feedbackPresent = true := by
  simp only [State.feedbackChanges, Bool.and_eq_true] at h
  exact h.1.1.2

theorem State.deferredRelease_acted (s : State) (p : Pool) : Acted s (s.deferredRelease p) := by
  simp only [State.deferredRelease]
  split
  · exact s.release_acted _ _ _ _
  · exact .refl s

theorem State.maxRunRelease_acted (s : State) (p : Pool) : Acted s (s.maxRunRelease p) := by
  simp only [State.maxRunRelease]
  split
  · exact (s.release_acted _ _ _ _).trans (State.raise_acted _ _)
  · exact .refl s

/-- Every command keeps every invariant. -/
theorem exec_keeps {c : Instr} (h : exec c s = .next t) : Keeps s t := by
  cases c with
  | coldReset cause straps =>
    cases h
    exact (s.coldReset_keeps cause straps).trans (State.driveLines_acted _).keeps
  | heldInReset cause =>
    cases h
    exact (s.holdInReset_keeps cause).trans (State.driveLines_acted _).keeps
  | configAttempt =>
    rw [exec_configAttempt] at h
    exact quietEvent_keeps h (fun _ hd => State.attemptEnds_keeps hd _ _ _)
  | configRetryDelay =>
    rw [exec_configRetryDelay] at h
    exact event_keeps h (fun _ _ => s.nextAttempt_keeps)
  | scan k =>
    rw [exec_scan] at h
    exact event_keeps h (fun _ _ => ((s.takeScan_acted k).trans ((State.scanDemand_acted _).trans
      (State.prebleedTest_acted _))).keeps)
  | holdTimerExpiry c =>
    rw [exec_holdTimerExpiry] at h
    exact event_keeps h (fun _ _ => (s.probeFails_acted c).keeps)
  | hhTimerExpiry =>
    rw [exec_hhTimerExpiry] at h
    exact event_keeps h (fun _ _ => (Acted.after (t := { s with demand := { s.demand with hhCondition := true } })
      ((State.raise_acted _ .highConductivity).trans (State.occur_acted _ .highConductivity))).keeps)
  | llTimerExpiry =>
    rw [exec_llTimerExpiry] at h
    exact event_keeps h (fun _ _ => (Acted.after (t := { s with demand := { s.demand with llCondition := true } })
      ((State.raise_acted _ .lowLevel).trans (State.occur_acted _ .lowLevel))).keeps)
  | askWindowExpiry p =>
    rw [exec_askWindowExpiry] at h
    exact event_keeps h (fun _ _ => (s.askExpires_acted p).keeps)
  | confirmPeriodExpiry p =>
    rw [exec_confirmPeriodExpiry] at h
    exact event_keeps h (fun _ hd => (State.confirmExpires_acted (confirming_of_over hd)).keeps)
  | ageingStep p =>
    rw [exec_ageingStep] at h
    exact event_keeps h (fun _ _ => s.aged_keeps p)
  | minimumRunEnd p =>
    rw [exec_minimumRunEnd] at h
    exact event_keeps h (fun _ _ => (s.deferredRelease_acted p).keeps)
  | maxRunExpiry p =>
    rw [exec_maxRunExpiry] at h
    exact event_keeps h (fun _ _ => (s.maxRunRelease_acted p).keeps)
  | reportProcessed straps =>
    rw [exec_reportProcessed] at h
    exact event_keeps h (fun _ hd => State.reportFrame_keeps hd straps)
  | leavingProcessed straps =>
    rw [exec_leavingProcessed] at h
    exact event_keeps h (fun _ _ => s.leavingFrame_keeps straps)
  | peerStale n =>
    rw [exec_peerStale] at h
    refine event_keeps h (fun _ hd => ?_)
    obtain ⟨e, he⟩ := peer_of_staleDue hd
    exact State.makeStale_keeps n (reporting_of_peer he)
  | peerDropped n =>
    rw [exec_peerDropped] at h
    refine event_keeps h (fun _ hd => ?_)
    obtain ⟨e, he⟩ := peer_of_dropDue hd
    exact State.deletePeer_keeps n (reporting_of_peer he)
  | frameEnd r =>
    rw [exec_frameEnd] at h
    exact event_keeps h (fun _ _ => (s.receivesFrom_lineAct r).keeps)
  | reportTimer =>
    rw [exec_reportTimer] at h
    exact event_keeps h (fun _ _ => s.reportFires_keeps)
  | attemptStart q =>
    rw [exec_attemptStart] at h
    exact event_keeps h (fun _ _ => s.startAttempt_lineAct.keeps)
  | echoMismatch a =>
    rw [exec_echoMismatch] at h
    refine event_keeps h (fun _ _ => ?_)
    split
    · next o ho => exact State.attemptMisses_keeps ho a.straps
    · exact .refl s
  | delivery a =>
    rw [exec_delivery] at h
    refine event_keeps h (fun _ _ => ?_)
    split
    · next o _ => exact s.attemptDelivers_keeps o a.straps
    · exact .refl s
  | deliveryTimerExpiry =>
    rw [exec_deliveryTimerExpiry] at h
    refine event_keeps h (fun _ hd => ?_)
    rw [Bool.and_eq_true] at hd
    exact State.enterIsolated_keeps (working_of_isolable hd.1)
  | listenTimerExpiry =>
    rw [exec_listenTimerExpiry] at h
    refine event_keeps h (fun _ hd => ?_)
    rw [Bool.and_eq_true, beq_iff_eq] at hd
    exact State.enterRun_keeps (by rw [hd.1]; rfl)
  | feedbackSettled v i =>
    rw [exec_feedbackSettled] at h
    exact event_keeps h (fun _ hd => (State.feedbackSettles_acted (feedback_of_changes hd) i.level).keeps)
  | openCheckExpiry k =>
    rw [exec_openCheckExpiry] at h
    exact event_keeps h (fun _ hd => (State.openFails_acted (check_of_over hd) k.openHeldFor).keeps)
  | closeCheckExpiry v =>
    rw [exec_closeCheckExpiry] at h
    exact event_keeps h (fun _ hd => (State.closeCheckEnds_acted (check_of_over hd)).keeps)
  | strokePulseEnd =>
    rw [exec_strokePulseEnd] at h
    exact event_keeps h (fun _ _ => (Acted.of_same (s := s) (t := s.endPulse)).keeps)
  | meterSettled m i =>
    rw [exec_meterSettled] at h
    exact event_keeps h (fun _ _ => (s.meterSettles_acted m i.level).keeps)
  | slotBoundary =>
    rw [exec_slotBoundary] at h
    exact event_keeps h (fun _ _ => s.slotTurns_acted.keeps)
  | noFlowHoldTime =>
    rw [exec_noFlowHoldTime] at h
    exact event_keeps h (fun _ _ => s.firstNoFlowTest_acted.keeps)
  | strokeClockExpiry =>
    rw [exec_strokeClockExpiry] at h
    exact event_keeps h (fun _ _ => s.strokeIntervalPasses_acted.keeps)
  | intervalTimerExpiry =>
    rw [exec_intervalTimerExpiry] at h
    exact event_keeps h (fun _ _ => s.enterDue_acted.keeps)
  | prebleedShort =>
    rw [exec_prebleedShort] at h
    exact event_keeps h (fun _ _ => ((s.raise_acted .prebleedShort).trans (State.enterClosing_acted _)).keeps)
  | doseTimeExpiry =>
    rw [exec_doseTimeExpiry] at h
    exact event_keeps h (fun _ _ => s.endDose_acted.keeps)
  | contactTimeExpiry =>
    rw [exec_contactTimeExpiry] at h
    exact event_keeps h (fun _ _ => s.endContact_acted.keeps)
  | readStation | readMeasure | readPool | readPeer | readCounter | readHistogram | readEvents | readBalance
  | readBiocide | readConfig | readResetCause | outOfRange =>
    cases h
    exact s.readRecord_keeps _ _
  | unknownTransaction | readMailbox =>
    cases h
    exact (s.respond_acted _).keeps
  | postCommand code argument =>
    rw [exec_postCommand] at h
    exact event_keeps h (fun _ _ => ((s.respond_acted []).trans (State.arrive_acted _ code argument)).keeps)
  | acknowledge =>
    rw [exec_acknowledge] at h
    exact event_keeps h (fun _ _ => State.takeCommand_keeps (fun _ => s.acknowledge_acted.keeps))
  | biocideNow =>
    rw [exec_biocideNow] at h
    exact event_keeps h (fun _ _ => State.takeCommand_keeps (fun _ => s.enterDue_acted.keeps))
  | hold =>
    rw [exec_hold] at h
    exact event_keeps h (fun _ _ => State.takeCommand_keeps State.takeHold_keeps)
  | resume =>
    rw [exec_resume] at h
    refine event_keeps h (fun _ _ => State.takeCommand_keeps (fun hr => ?_))
    have hs : s.station.state = .hold := by simpa using hr
    exact State.enterListen_keeps (by rw [hs]; rfl) (by rw [hs]; decide)
  | clearCounters =>
    rw [exec_clearCounters] at h
    exact event_keeps h (fun _ _ => s.takeClear_keeps)
  | setMask =>
    rw [exec_setMask] at h
    refine event_keeps h (fun _ _ => State.takeCommand_keeps (fun _ => ?_))
    exact (Acted.of_same (s := s) (t := s.setMask)
      (stats := fun h => ⟨h.counters, h.cells, h.cellBound, h.lastCounter, h.kinds⟩)).keeps
  | lineRestart =>
    rw [exec_lineRestart] at h
    exact event_keeps h (fun _ _ => State.takeCommand_keeps (fun _ => s.lineRestart_lineAct.keeps))
  | restart straps =>
    rw [exec_restart] at h
    exact event_keeps h (fun _ _ => s.restartCommand_keeps straps)

/-- Every step keeps every invariant. -/
theorem step_keeps (h : step s = .next t) : Keeps s t := by
  obtain ⟨c, rest, -, hexec⟩ | ⟨-, rfl⟩ := step_cases h
  · exact (Acted.of_same (s := s) (t := { s with pending := rest })).keeps.trans (exec_keeps hexec)
  · exact s.tick_keeps

end

/-! ## The statements -/

/-- Settles O53, by the walk over the commands. -/
theorem passiveOutsideRunAlways : Obligations.PassiveOutsideRunAlways :=
  fun _ _ h hstep => (step_keeps hstep).passive h

/-- Settles O54, by the walk over the commands. -/
theorem valvesFollowEnginesAlways : Obligations.ValvesFollowEnginesAlways := by
  rintro s t ⟨h1, h2⟩ hstep
  obtain ⟨k1, k2⟩ := (step_keeps hstep).valves ⟨h1, h2⟩
  exact ⟨k1, k2⟩

/-- Settles O56, by the walk over the commands. -/
theorem boundsHoldAlways : Obligations.BoundsHoldAlways :=
  fun s t h hstep => (boundsSound_iff t).mp ((step_keeps hstep).bounds ((boundsSound_iff s).mpr h))

/-- Settles O57, by the walk over the commands. -/
theorem peerTableStaysInOrder : Obligations.PeerTableStaysInOrder := by
  rintro s t ⟨h1, h2, h3⟩ hstep
  obtain ⟨k1, k2, k3⟩ := (step_keeps hstep).table ⟨h1, h2, h3⟩
  exact ⟨k1, k2, k3⟩

/-- Settles O58, by the walk over the commands. -/
theorem capsAreSmallestAlways : Obligations.CapsAreSmallestAlways := by
  rintro s t ⟨h1, h2, h3, h4⟩ hstep
  obtain ⟨k1, k2, k3, k4⟩ := (step_keeps hstep).caps ⟨h1, h2, h3, h4⟩
  exact ⟨k1, k2, k3, k4⟩

/-- Settles O59, by the walk over the commands. -/
theorem onLineFrameIsReadyAlways : Obligations.OnLineFrameIsReadyAlways :=
  fun _ _ h hstep => (step_keeps hstep).onLine h

end Sys2Proof.Machine
end

section
/-! SUPPORT. The biocide cycle and DISCHARGE along a run (R115, R146, R27, R144 to R147): what an operation that is none of
the sequencer's keeps of them, and what the sequencer's own transitions make of them. -/

namespace Sys2Proof.Machine
open Sys2Proof

set_option Elab.async false

/-! ## What is kept apart from the sequencer's transitions -/

/-- What an operation keeps that is no transition of the sequencer and no recomputation of DISCHARGE: the cycle, the pump,
the requests and the demand; a hold of BIOCIDE; and a DISCHARGE engine without need stays passive. -/
structure Aside (s t : State) : Prop where
  cycle : t.bio.cycle = s.bio.cycle
  pump : t.out.biocidePump = s.out.biocidePump
  suppress : t.demand.suppress = s.demand.suppress
  dDemand : t.demand.dDemand = s.demand.dDemand
  need : (t.engine .discharge).need = (s.engine .discharge).need
  biocide : (s.engine .biocide).state = .holding → (t.engine .biocide).state = .holding
  passive : (s.engine .discharge).need = false → (s.engine .discharge).state.passive = true →
    (t.engine .discharge).state.passive = true

section
variable {s t u : State}

theorem Aside.refl (s : State) : Aside s s := ⟨rfl, rfl, rfl, rfl, rfl, id, fun _ => id⟩

theorem Aside.trans (h : Aside s t) (k : Aside t u) : Aside s u :=
  ⟨k.cycle.trans h.cycle, k.pump.trans h.pump, k.suppress.trans h.suppress, k.dDemand.trans h.dDemand,
    k.need.trans h.need, k.biocide ∘ h.biocide, fun hn hp => k.passive (h.need.trans hn) (h.passive hn hp)⟩

/-- Demand's three fields, the cycle, the pump and the engines as they were. -/
theorem Aside.of_same (cycle : t.bio.cycle = s.bio.cycle := by rfl)
    (pump : t.out.biocidePump = s.out.biocidePump := by rfl) (suppress : t.demand.suppress = s.demand.suppress := by rfl)
    (dDemand : t.demand.dDemand = s.demand.dDemand := by rfl) (claim : t.claim = s.claim := by rfl) : Aside s t := by
  have he p : t.engine p = s.engine p := by cases p <;> simp only [State.engine, claim]
  exact ⟨cycle, pump, suppress, dDemand, by rw [he], by rw [he]; exact id, by rw [he]; exact fun _ => id⟩

theorem Aside.after (k : Aside t u) (cycle : t.bio.cycle = s.bio.cycle := by rfl)
    (pump : t.out.biocidePump = s.out.biocidePump := by rfl) (suppress : t.demand.suppress = s.demand.suppress := by rfl)
    (dDemand : t.demand.dDemand = s.demand.dDemand := by rfl) (claim : t.claim = s.claim := by rfl) : Aside s u :=
  (Aside.of_same cycle pump suppress dDemand claim).trans k

/-- An operation on one engine, or one valve and its engine. -/
theorem Aside.of_pool (p : Pool) (h : ClaimOnly s t) (he : ∀ q, q ≠ p → t.engine q = s.engine q)
    (need : p = .discharge → (t.engine p).need = (s.engine p).need)
    (biocide : p = .biocide → (s.engine p).state = .holding → (t.engine p).state = .holding)
    (passive : p = .discharge → (s.engine p).need = false → (s.engine p).state.passive = true →
      (t.engine p).state.passive = true) : Aside s t := by
  obtain ⟨hdemand, -, hbio, -, -, hpump, -, -⟩ := h
  have hd : p = .discharge ∨ t.engine .discharge = s.engine .discharge := by
    by_cases hp : p = .discharge
    · exact .inl hp
    · exact .inr (he _ (Ne.symm hp))
  refine ⟨by rw [hbio], hpump, by rw [hdemand], by rw [hdemand], ?_, fun hb => ?_, fun hn hp => ?_⟩
  · obtain rfl | hd := hd
    · exact need rfl
    · rw [hd]
  · by_cases hp : p = .biocide
    · subst hp; exact biocide rfl hb
    · rw [he _ (Ne.symm hp)]; exact hb
  · obtain rfl | hd := hd
    · exact passive rfl hn hp
    · rw [hd]; exact hp

theorem State.setEngine_claimOnly (s : State) (p : Pool) (e : Engine) : ClaimOnly s (s.setEngine p e) := by
  simp [ClaimOnly]

/-- A change of an engine record that leaves its state, and the need of DISCHARGE. -/
theorem State.setEngine_aside {p : Pool} {e : Engine} (hs : e.state = (s.engine p).state)
    (hn : p = .discharge → e.need = (s.engine p).need) : Aside s (s.setEngine p e) := by
  refine .of_pool p (s.setEngine_claimOnly p e) (fun q hq => s.engine_setEngine_ne e hq) ?_ ?_ ?_
  all_goals rw [State.engine_setEngine]
  · exact hn
  · rw [hs]; exact fun _ => id
  · rw [hs]; exact fun _ _ => id

theorem State.raise_aside (s : State) (e : Event) : Aside s (s.raise e) := .of_same
theorem State.count_aside (s : State) (c : Counter) (n : Nat) : Aside s (s.count c n) := .of_same
theorem State.recordWait_aside (s : State) (p : Pool) (n : Nat) : Aside s (s.recordWait p n) := .of_same
theorem State.occur_aside (s : State) (k : AlarmKind) : Aside s (s.occur k) := .of_same
theorem State.calm_aside (s : State) (k : AlarmKind) : Aside s (s.calm k) := .of_same
theorem State.respond_aside (s : State) (b : List Byte) : Aside s (s.respond b) := .of_same
theorem State.driveLines_aside (s : State) : Aside s s.driveLines := .of_same
theorem State.setValve_aside (s : State) (v : Valve) (r : ValveRec) : Aside s (s.setValve v r) := by
  cases v <;> exact .of_same
theorem State.startNoFlow_aside (s : State) (v : Valve) : Aside s (s.startNoFlow v) := by cases v <;> exact .of_same
theorem State.nameLast_aside (s b : State) : Aside s (s.nameLast b) :=
  .of_same (by simp) (by simp) (by simp) (by simp) (by simp)

/-! ### The claim engine -/

theorem State.arriveRest_engine (s : State) (p : Pool) : (s.arriveRest p).engine p =
    if s.inRun && (s.engine p).need then (s.engine p).atRest.justAsking s.now else (s.engine p).atRest := by
  rw [State.arriveRest_eq, State.engine_setEngine]

theorem State.arriveRest_need (s : State) (p : Pool) : ((s.arriveRest p).engine p).need = (s.engine p).need := by
  rw [State.arriveRest_engine]
  split <;> rfl

theorem State.arriveRest_passive {p : Pool} (h : (s.engine p).need = false) :
    ((s.arriveRest p).engine p).state.passive = true := by
  rw [State.arriveRest_engine, h, Bool.and_false]
  rfl

theorem State.askFromRest_aside (s : State) (p : Pool) : Aside s (s.askFromRest p) := by
  simp only [State.askFromRest]
  split
  · next h =>
    simp only [Bool.and_eq_true, beq_iff_eq] at h
    obtain ⟨⟨hrest, -⟩, hneed⟩ := h
    refine .of_pool p (s.setEngine_claimOnly p _) (fun q hq => s.engine_setEngine_ne _ hq) ?_ ?_ ?_
    all_goals rw [State.engine_setEngine]
    · exact fun _ => rfl
    · rw [hrest]; nofun
    · rw [hneed]; nofun
  · exact .refl s

/-- An arrival in REST, but for a BIOCIDE engine that holds. -/
theorem State.arriveRest_aside {p : Pool} (h : p = .biocide → (s.engine p).state ≠ .holding) :
    Aside s (s.arriveRest p) :=
  .of_pool p (s.arriveRest_claimOnly p) (fun _ hq => s.arriveRest_engine_ne hq) (fun _ => s.arriveRest_need p)
    (fun hp hh => absurd hh (h hp)) (fun _ hn _ => State.arriveRest_passive hn)

theorem Valve.pool_ne_biocide (v : Valve) : v.pool ≠ .biocide := by cases v <;> decide

theorem Engine.released_need (e : Engine) (s : State) : (e.released s).need = e.need := by
  simp only [Engine.released]
  (repeat' split) <;> rfl

theorem Engine.released_passive_of_need {e : Engine} (h : e.need = false) (s : State) :
    (e.released s).state.passive = true := by
  simp only [Engine.released, h, Bool.and_false, Bool.false_and, Bool.false_eq_true, if_false]
  split <;> rfl

/-- The engine of a valve after the closed notice: without a need it asks for nothing. -/
theorem State.closedNotice_engine (s : State) (v : Valve) :
    ((s.closedNotice v).engine v.pool).need = (s.engine v.pool).need ∧
      ((s.engine v.pool).need = false → (s.engine v.pool).state.passive = true →
        ((s.closedNotice v).engine v.pool).state.passive = true) := by
  by_cases h1 : (s.engine v.pool).state = .releasing
  · rw [State.closedNotice_of_releasing h1, State.engine_setEngine]
    exact ⟨Engine.released_need _ _, fun hn _ => Engine.released_passive_of_need hn s⟩
  · by_cases h2 : (s.engine v.pool).state = .stuck
    · rw [State.closedNotice_of_stuck h2, State.arriveRest_need, State.engine_raise]
      exact ⟨rfl, fun hn _ => State.arriveRest_passive (by rwa [State.engine_raise])⟩
    · rw [State.closedNotice_of_other h1 h2]
      exact ⟨rfl, fun _ => id⟩

theorem State.closedNotice_aside (s : State) (v : Valve) : Aside s (s.closedNotice v) :=
  .of_pool v.pool (s.closedNotice_claimOnly v) (fun _ hq => s.closedNotice_engine_ne hq)
    (fun _ => (s.closedNotice_engine v).1) (fun hb => absurd hb (Valve.pool_ne_biocide v))
    (fun _ => (s.closedNotice_engine v).2)

/-- The engine of a valve after a release: RELEASING or what ends it, never waiting without a need. -/
theorem State.release_engine (s : State) (v : Valve) (a b c : Bool) :
    ((s.release v a b c).engine v.pool).need = (s.engine v.pool).need ∧
      ((s.engine v.pool).need = false → ((s.release v a b c).engine v.pool).state.passive = true) := by
  have hneed : ((s.engine v.pool).toReleasing a b c).need = (s.engine v.pool).need := by cases c <;> rfl
  cases hc : (s.valve v).seenClosed
  · rw [State.release_of_not_seenClosed _ _ _ hc, State.engine_setValve, State.engine_endNoFlow, State.engine_setEngine]
    exact ⟨hneed, fun _ => rfl⟩
  · rw [State.release_of_seenClosed _ _ _ hc, State.engine_setEngine, Engine.released_need]
    exact ⟨hneed, fun hn => Engine.released_passive_of_need (hneed.trans hn) s⟩

theorem State.release_aside (s : State) (v : Valve) (a b c : Bool) : Aside s (s.release v a b c) :=
  .of_pool v.pool (s.release_claimOnly v a b c) (fun _ hq => s.release_engine_ne a b c hq)
    (fun _ => (s.release_engine v a b c).1) (fun hb => absurd hb (Valve.pool_ne_biocide v))
    (fun _ hn _ => (s.release_engine v a b c).2 hn)

theorem State.giveUpWaiting_aside {p : Pool} (h : (s.engine p).state ≠ .holding) : Aside s (s.giveUpWaiting p) :=
  (State.setEngine_aside (p := p) (e := { s.engine p with grantWait := none }) rfl (fun _ => rfl)).trans
    (State.arriveRest_aside (fun _ => by rw [State.engine_setEngine]; exact h))

theorem State.withdraw_aside {p : Pool} (h : (s.engine p).state = .confirming) : Aside s (s.withdraw p) :=
  .of_pool p (s.withdraw_claimOnly p) (fun _ hq => s.withdraw_engine_ne hq)
    (fun _ => by simp [State.withdraw, Engine.withdrawn]) (fun _ hh => by rw [h] at hh; cases hh)
    (fun _ _ hp => by rw [h] at hp; cases hp)

theorem State.stuckAlarms_aside (s : State) (p : Pool) : Aside s (s.stuckAlarms p) := by
  obtain ⟨hdemand, -, hbio, -, hout, -⟩ := s.stuckAlarms_stuckOnly p
  exact .of_same (by rw [hbio]) (by rw [hout]) (by rw [hdemand]) (by rw [hdemand]) (by simp)

theorem State.enterStuck_aside {v : Valve} {e : Engine} (hs : e.state = .stuck) (hn : e.need = (s.engine v.pool).need) :
    Aside s (s.enterStuck v.pool e) := by
  refine Aside.trans (.of_pool v.pool (s.setEngine_claimOnly _ e) (fun q hq => s.engine_setEngine_ne e hq) ?_
    (fun hb => absurd hb (Valve.pool_ne_biocide v)) ?_) ((State.raise_aside _ _).trans (State.stuckAlarms_aside _ _))
  all_goals rw [State.engine_setEngine]
  · exact fun _ => hn
  · rw [hs]; exact fun _ _ _ => rfl

theorem State.closeFailedNotice_aside (s : State) (v : Valve) : Aside s (s.closeFailedNotice v) := by
  simp only [State.closeFailedNotice]
  split
  · exact State.enterStuck_aside rfl rfl
  · exact .refl s

theorem State.unbiddenOpenNotice_aside (s : State) (v : Valve) : Aside s (s.unbiddenOpenNotice v) := by
  simp only [State.unbiddenOpenNotice]
  cases (s.engine v.pool).state with
  | rest | asking | confirming | locked => exact State.enterStuck_aside rfl rfl
  | holding | releasing | stuck => exact .refl s

theorem State.openFailedNotice_aside (s : State) (v : Valve) : Aside s (s.openFailedNotice v) := by
  simp only [State.openFailedNotice]
  split
  · exact (s.release_aside _ _ _ _).trans ((State.raise_aside _ _).trans (State.occur_aside _ _))
  · exact .refl s

theorem State.openCommand_aside (s : State) (v : Valve) : Aside s (s.openCommand v) := by
  rw [State.openCommand_eq]
  exact s.setValve_aside v _

/-! ### Demand of SUPPLY and BIOCIDE -/

theorem State.needRises_aside (s : State) (p : Pool) : Aside s (s.needRises p) := by
  simp only [State.needRises]
  cases h : (s.engine p).state with
  | rest => exact s.askFromRest_aside p
  | holding | releasing => exact State.setEngine_aside (by rw [h]) (fun _ => rfl)
  | asking | confirming | stuck | locked => exact .refl s

theorem State.needFalls_aside (s : State) (p : Pool) : Aside s (s.needFalls p) := by
  simp only [State.needFalls]
  cases h : (s.engine p).state with
  | asking | confirming => exact State.giveUpWaiting_aside (by rw [h]; nofun)
  | holding =>
    dsimp only
    split
    · split
      · exact s.release_aside _ _ _ _
      · exact State.setEngine_aside (by rw [h]) (fun _ => rfl)
    · exact .refl s
  | releasing => exact State.setEngine_aside (by rw [h]) (fun _ => rfl)
  | rest | stuck | locked => exact .refl s

/-- A need notice to an engine other than DISCHARGE, or one that leaves the need. -/
theorem State.needNotice_aside {p : Pool} {need : Bool} (h : p = .discharge → need = (s.engine p).need) (base : Nat) :
    Aside s (s.needNotice p need base) := by
  have hset : Aside s (s.setEngine p { s.engine p with need := need, base := base }) := State.setEngine_aside rfl h
  simp only [State.needNotice]
  split
  · exact hset.trans (State.needRises_aside _ p)
  · split
    · exact hset.trans (State.needFalls_aside _ p)
    · exact hset

theorem State.recomputeSupply_aside (s : State) : Aside s s.recomputeSupply := by
  simp only [State.recomputeSupply]
  split
  · exact .refl s
  · exact .after (State.needNotice_aside (p := .supply) (fun h => nomatch h) _)

theorem State.recomputeBiocide_aside (s : State) : Aside s s.recomputeBiocide :=
  .after (State.needNotice_aside (p := .biocide) (fun h => nomatch h) _)

theorem State.cycleNotice_aside (s : State) : Aside s s.cycleNotice :=
  .after (State.needNotice_aside (p := .biocide) (fun h => nomatch h) _)

theorem State.calmEnded_aside (s : State) (before : Demand) : Aside s (s.calmEnded before) := by
  simp only [State.calmEnded]
  (repeat' split)
  · exact (s.calm_aside _).trans (State.calm_aside _ _)
  · exact s.calm_aside _
  · exact s.calm_aside _
  · exact .refl s

/-! ### Evaluations and grants of the valve pools -/

theorem State.evaluateAsking_aside {p : Pool} (h : (s.engine p).state = .asking) : Aside s (s.evaluateAsking p) := by
  simp only [State.evaluateAsking]
  split
  · refine .of_pool p (s.setEngine_claimOnly p _) (fun q hq => s.engine_setEngine_ne _ hq) ?_ ?_ ?_
    all_goals rw [State.engine_setEngine]
    · exact fun _ => rfl
    · rw [h]; nofun
    · rw [h]; nofun
  · exact .refl s

/-- An evaluation but for a yield of BIOCIDE. -/
theorem State.evaluate_aside {p : Pool} (hy : (s.engine p).state = .holding → p = .biocide → s.fits p = true) :
    Aside s (s.evaluate p) := by
  simp only [State.evaluate]
  cases h : (s.engine p).state with
  | asking => exact State.evaluateAsking_aside h
  | confirming =>
    dsimp only
    split
    · exact .refl s
    · exact State.withdraw_aside h
  | holding =>
    dsimp only
    split
    · exact .refl s
    · next hf =>
      simp only [State.yieldPool]
      split
      · exact (s.release_aside _ _ _ _).trans ((State.raise_aside _ _).trans (State.count_aside _ _ _))
      · next hv =>
        have hb : p = .biocide := by cases p <;> first | rfl | cases hv
        exact absurd (hy h hb) hf
  | rest | releasing | stuck | locked => exact .refl s

theorem State.grantValve_aside {p : Pool} (h : (s.engine p).state = .confirming) (hp : p ≠ .biocide) :
    Aside s (s.grant p) := by
  have hg : Aside s (((s.setEngine p ((s.engine p).granted s.now p.valve.isSome)).count (.grants p) 1).recordWait p
      (s.grantWait p)) := by
    refine Aside.trans (.of_pool p (s.setEngine_claimOnly p _) (fun q hq => s.engine_setEngine_ne _ hq) ?_
      (fun hb => absurd hb hp) ?_) ((State.count_aside _ _ _).trans (State.recordWait_aside _ _ _))
    all_goals rw [State.engine_setEngine]
    · exact fun _ => rfl
    · rw [h]; nofun
  simp only [State.grant]
  split
  · exact hg.trans ((State.openCommand_aside _ _).trans (State.startNoFlow_aside _ _))
  · next hv => exact absurd (by cases p <;> first | rfl | cases hv) hp

theorem State.unlock_aside (s : State) (p : Pool) : Aside s (s.unlock p) := by
  simp only [State.unlock]
  split
  · next h => exact State.arriveRest_aside (fun _ => by rw [beq_iff_eq.mp h]; nofun)
  · exact .refl s

theorem State.acknowledge_aside (s : State) : Aside s s.acknowledge :=
  .after ((State.unlock_aside _ _).trans ((State.unlock_aside _ _).trans (State.unlock_aside _ _)))

/-! ### Measurement, meters, line -/

theorem State.scanChannel_aside (s : State) (k : Codes) (c : Chan) : Aside s (s.scanChannel k c) := by
  simp only [State.scanChannel, State.probeRecovered]
  (repeat' split) <;> exact .of_same

theorem State.takeScan_aside (s : State) (k : Codes) : Aside s (s.takeScan k) := by
  have h (u : State) : Aside u { u.replaceDerived with meas := { u.replaceDerived.meas with scanClock := some 0 } } := by
    simp only [State.replaceDerived]
    split <;> exact .of_same
  unfold State.takeScan
  exact (s.scanChannel_aside k .cb).trans ((State.scanChannel_aside _ k .tb).trans ((State.scanChannel_aside _ k .cm).trans
    ((State.scanChannel_aside _ k .tm).trans ((State.scanChannel_aside _ k .lv).trans (h _)))))

theorem State.strokeTest_aside (s : State) : Aside s s.strokeTest := by
  simp only [State.strokeTest]
  split
  · exact .of_same
  · exact .refl s

theorem State.feedResumed_aside (s : State) (before : StationState) : Aside s (s.feedResumed before) := by
  simp only [State.feedResumed]
  split
  · exact s.strokeTest_aside
  · exact .refl s

theorem State.endBalance_aside (s : State) : Aside s s.endBalance := by
  have h (u : State) (r : BalanceResult) : Aside u (u.balanceOutcome r) := by
    cases r with
    | ok => simp only [State.balanceOutcome]; split <;> exact .of_same
    | mismatch | skipped => exact .of_same
    | none | uncompared => exact .refl u
  exact .after (h _ _)

theorem State.makeupPulse_aside (s : State) : Aside s s.makeupPulse := by
  have hadd (u : State) (n : Nat) : Aside u (u.accumulateMakeup n) := by
    simp only [State.accumulateMakeup]
    split
    · exact .after (State.endBalance_aside _)
    · exact .of_same
  have hearn (u : State) (n : Nat) : Aside u (u.earnStrokes n) := by
    simp only [State.earnStrokes]
    (repeat' split)
    · exact .after (State.strokeTest_aside _)
    · exact .after (State.strokeTest_aside _)
    · exact .of_same
    · exact .of_same
  unfold State.makeupPulse
  exact Aside.after (t := { s.count .makeupLitres s.station.cfg.kM with feed :=
    { s.feed with makeupRing := addToRing s.feed.makeupRing s.station.cfg.kM } }) ((hearn _ _).trans (hadd _ _))

theorem State.meterSettles_aside (s : State) (m : Meter) (high : Bool) : Aside s (s.meterSettles m high) := by
  simp only [State.meterSettles]
  split
  · cases m
    · exact .after (State.makeupPulse_aside _)
    · exact .of_same
  · exact .of_same

theorem State.noFlowTest_aside (s : State) : Aside s s.noFlowTest := by
  simp only [State.noFlowTest]
  (repeat' split)
  · exact .of_same
  · exact .refl s
  · exact .refl s

theorem State.slotTurns_aside (s : State) : Aside s s.slotTurns := by
  simp only [State.slotTurns]
  (repeat' split)
  · exact .after (State.noFlowTest_aside _)
  · exact .of_same
  · exact .of_same

theorem SlotsOnly.aside (h : SlotsOnly s t) : Aside s t := by
  rw [h]
  exact .of_same

theorem State.receivesFrom_aside (s : State) (r : Reception) : Aside s (s.receivesFrom r) := by
  have hhear (u : State) (cs : List RxChar) : Aside u (u.hears cs) := by
    simp only [State.hears]
    split
    · exact .of_same
    all_goals exact .refl u
  have hqueue (u : State) (b : List Byte) : Aside u (u.collectAnew.queueFrame b) := by
    simp only [State.queueFrame]
    split <;> exact .of_same
  have hend (u : State) : Aside u u.frameEnds := by
    simp only [State.frameEnds, State.judgeFrame]
    cases u.line.rxMode with
    | off => exact .refl u
    | skip | ownEcho | ownDamaged => exact .of_same
    | collect =>
      dsimp only
      split
      · exact .of_same
      · cases u.line.verdict with
        | damaged | foreign => exact .of_same
        | good => exact hqueue u _
  simp only [State.receivesFrom]
  split
  · exact (hhear _ _).trans (hend _)
  · exact hhear _ _

theorem State.feedbackSettles_aside (s : State) (v : Valve) (lvl : ValvePos) : Aside s (s.feedbackSettles v lvl) := by
  cases lvl with
  | opened =>
    simp only [State.feedbackSettles, State.seenOpen]
    cases (s.valve v).check with
    | none =>
      dsimp only
      split
      · exact (s.setValve_aside v _).trans (State.unbiddenOpenNotice_aside _ v)
      · exact s.setValve_aside v _
    | openCheck | closeCheck | closeWatch => exact s.setValve_aside v _
  | closed =>
    simp only [State.feedbackSettles, State.seenClosed]
    cases (s.valve v).check with
    | closeCheck | closeWatch => exact (s.setValve_aside v _).trans (State.closedNotice_aside _ v)
    | none => dsimp only; split <;> exact s.setValve_aside v _
    | openCheck => exact s.setValve_aside v _

theorem State.openFails_aside (s : State) (v : Valve) (n : Nat) : Aside s (s.openFails v n) :=
  (s.setValve_aside v _).trans (State.openFailedNotice_aside _ v)

theorem State.closeCheckEnds_aside (s : State) (v : Valve) : Aside s (s.closeCheckEnds v) := by
  simp only [State.closeCheckEnds]
  split
  · exact (s.setValve_aside v _).trans (State.closeFailedNotice_aside _ v)
  · exact (s.setValve_aside v _).trans (State.closedNotice_aside _ v)

end

end Sys2Proof.Machine
end

section
/-! SUPPORT. The sequencer's transitions under R115, R146, R27 and R144 to R147. -/

namespace Sys2Proof.Machine
open Sys2Proof

set_option Elab.async false

/-! ## The sequencer's transitions -/

/-- R146, R115. -/
structure DoseHeld (s : State) : Prop where
  phases : PhasesHeld s
  pump : PumpOnlyDosing s

/-- R32: the DISCHARGE engine's need is the demand handed on. -/
def NeedShown (s : State) : Prop := (s.engine .discharge).need = s.demand.dDemand

/-- R27, R144 to R147 in a working state: what `DoseSealed` says there. -/
structure Sealed (s : State) : Prop where
  suppress : s.demand.suppress = s.bio.cycle.sealed
  quiet : s.demand.suppress = true → s.demand.dDemand = false ∧ (s.engine .discharge).state.passive = true
  need : NeedShown s

theorem doseSealed_iff (s : State) : DoseSealed s ↔ (s.station.state.working = true → Sealed s) :=
  ⟨fun h hw => ⟨(h hw).1, (h hw).2.1, (h hw).2.2⟩, fun h hw => ⟨(h hw).suppress, (h hw).quiet, (h hw).need⟩⟩

/-- What an operation passes on of the cycle and of DISCHARGE. -/
structure Steers (s t : State) : Prop where
  dose : DoseHeld s → DoseHeld t
  sealed : Sealed s → Sealed t

section
variable {s t u : State}

theorem Steers.refl (s : State) : Steers s s := ⟨id, id⟩

theorem Steers.trans (h : Steers s t) (k : Steers t u) : Steers s u := ⟨k.dose ∘ h.dose, k.sealed ∘ h.sealed⟩

theorem DoseHeld.aside (hs : DoseHeld s) (h : Aside s t) : DoseHeld t := by
  obtain ⟨hp, hu⟩ := hs
  refine ⟨fun ha => ?_, fun ho => ?_⟩
  · rw [h.cycle] at ha
    exact h.biocide (hp ha)
  · rw [h.pump] at ho
    exact h.cycle.trans (hu ho)

theorem NeedShown.aside (hs : NeedShown s) (h : Aside s t) : NeedShown t := h.need.trans (hs.trans h.dDemand.symm)

theorem Sealed.aside (hs : Sealed s) (h : Aside s t) : Sealed t := by
  obtain ⟨h1, h2, h3⟩ := hs
  refine ⟨by rw [h.suppress, h.cycle]; exact h1, fun hq => ?_, h3.aside h⟩
  obtain ⟨hd, hp⟩ := h2 (h.suppress ▸ hq)
  exact ⟨h.dDemand.trans hd, h.passive (h3.trans hd) hp⟩

theorem Aside.steers (h : Aside s t) : Steers s t := ⟨(·.aside h), (·.aside h)⟩

/-- The seal with another cycle state of the same kind, demand and the DISCHARGE engine as they were. -/
theorem Sealed.of_same (hs : Sealed s) (cycle : t.bio.cycle.sealed = s.bio.cycle.sealed)
    (suppress : t.demand.suppress = s.demand.suppress := by rfl)
    (dDemand : t.demand.dDemand = s.demand.dDemand := by rfl)
    (engine : t.engine .discharge = s.engine .discharge := by rfl) : Sealed t := by
  obtain ⟨h1, h2, h3⟩ := hs
  refine ⟨by rw [suppress, cycle]; exact h1, ?_, ?_⟩
  · rw [suppress, dDemand, engine]; exact h2
  · rw [NeedShown, dDemand, engine]; exact h3

/-- Without suppression, from the cycle states that have none, the shown need is all there is to say. -/
theorem NeedShown.sealed (hn : NeedShown s) (hs : s.demand.suppress = false) (hc : s.bio.cycle.sealed = false) :
    Sealed s :=
  ⟨hs.trans hc.symm, fun h => (by cases hs.symm.trans h), hn⟩

/-! ### DISCHARGE recomputed (R26, R27, R32) -/

theorem State.needRises_need (s : State) (p : Pool) : ((s.needRises p).engine p).need = (s.engine p).need := by
  simp only [State.needRises, State.askFromRest]
  (repeat' split) <;> simp [Engine.toAsking, Engine.noAgeing]

theorem State.giveUpWaiting_need (s : State) (p : Pool) : ((s.giveUpWaiting p).engine p).need = (s.engine p).need := by
  rw [State.giveUpWaiting, State.arriveRest_need, State.engine_setEngine]

theorem State.needFalls_need (s : State) (p : Pool) : ((s.needFalls p).engine p).need = (s.engine p).need := by
  simp only [State.needFalls]
  cases (s.engine p).state with
  | asking | confirming => exact s.giveUpWaiting_need p
  | holding =>
    dsimp only
    split
    · next v hv =>
      split
      · have hp := Pool.valve_pool hv
        subst hp
        exact (s.release_engine v _ _ _).1
      · rw [State.engine_setEngine]
    · rfl
  | releasing => dsimp only; rw [State.engine_setEngine]
  | rest | stuck | locked => rfl

/-- R32: a notice sets the need. -/
theorem State.needNotice_need (s : State) (p : Pool) (need : Bool) (base : Nat) :
    ((s.needNotice p need base).engine p).need = need := by
  simp only [State.needNotice]
  (repeat' split)
  · rw [State.needRises_need, State.engine_setEngine]
  · rw [State.needFalls_need, State.engine_setEngine]
  · rw [State.engine_setEngine]

/-- An engine that asks for nothing, or that waits because it has a need. -/
def Engine.waitsByNeed (e : Engine) : Prop := e.state.passive = true ∨ (e.state = .asking ∧ e.need = true)

theorem Engine.waitsByNeed.passive {e : Engine} (h : e.waitsByNeed) (hn : e.need = false) : e.state.passive = true := by
  obtain h | ⟨-, h⟩ := h
  · exact h
  · cases hn.symm.trans h

/-- R48: a notice that the need has ended leaves such an engine passive. -/
theorem State.needNotice_passive {p : Pool} (h : (s.engine p).waitsByNeed) (base : Nat) :
    ((s.needNotice p false base).engine p).state.passive = true := by
  have hfalls (u : State) (hu : (u.engine p).need = false)
      (hw : (u.engine p).state.passive = true ∨ (u.engine p).state = .asking) :
      ((u.needFalls p).engine p).state.passive = true := by
    simp only [State.needFalls]
    cases he : (u.engine p).state with
    | asking => exact State.arriveRest_passive (by rw [State.engine_setEngine]; exact hu)
    | confirming | holding => rw [he] at hw; rcases hw with hw | hw <;> cases hw
    | releasing =>
      dsimp only
      rw [State.engine_setEngine]
      rfl
    | rest | stuck | locked => dsimp only; rw [he]; rfl
  simp only [State.needNotice, Bool.false_and, Bool.not_false, Bool.true_and, Bool.false_eq_true, if_false]
  split
  · refine hfalls _ (by rw [State.engine_setEngine]) ?_
    rw [State.engine_setEngine]
    exact h.imp_right (·.1)
  · next hn =>
    rw [State.engine_setEngine]
    exact h.passive (by simpa using hn)

/-- What a recomputation of DISCHARGE leaves: the cycle, the pump, BIOCIDE's engine and the requests. -/
theorem State.recomputeDischarge_frame (s : State) :
    s.recomputeDischarge.bio = s.bio ∧ s.recomputeDischarge.out.biocidePump = s.out.biocidePump ∧
      s.recomputeDischarge.engine .biocide = s.engine .biocide ∧
      s.recomputeDischarge.demand.suppress = s.demand.suppress := by
  simp only [State.recomputeDischarge]
  split
  · exact ⟨rfl, rfl, rfl, rfl⟩
  · obtain ⟨hdemand, -, hbio, -, -, hpump, -, -⟩ := State.needNotice_claimOnly
      { s with demand := { s.demand with
        dDemand := (dischargeDemand s.station.cfg s.meas.derived s.demand).1,
        dBase := (dischargeDemand s.station.cfg s.meas.derived s.demand).2 } } .discharge
      (dischargeDemand s.station.cfg s.meas.derived s.demand).1 (dischargeDemand s.station.cfg s.meas.derived s.demand).2
    exact ⟨hbio, hpump, State.needNotice_engine_ne _ _ _ (by decide), by rw [hdemand]⟩

theorem State.recomputeDischarge_dDemand (s : State) :
    s.recomputeDischarge.demand.dDemand = (dischargeDemand s.station.cfg s.meas.derived s.demand).1 := by
  simp only [State.recomputeDischarge]
  split
  · next h =>
    rw [Bool.and_eq_true, beq_iff_eq] at h
    exact h.1.symm
  · rw [(State.needNotice_claimOnly _ _ _ _).1]

theorem State.recomputeDischarge_needShown (hn : NeedShown s) : NeedShown s.recomputeDischarge := by
  rw [NeedShown, State.recomputeDischarge_dDemand]
  simp only [State.recomputeDischarge]
  split
  · next h =>
    rw [Bool.and_eq_true, beq_iff_eq] at h
    exact hn.trans h.1.symm
  · exact State.needNotice_need _ _ _ _

/-- R27: suppression makes DISCHARGE demand false and an engine that waits by its need passive. -/
theorem State.recomputeDischarge_suppressed (hs : s.demand.suppress = true) (hn : NeedShown s)
    (hw : (s.engine .discharge).waitsByNeed) :
    s.recomputeDischarge.demand.dDemand = false ∧
      (s.recomputeDischarge.engine .discharge).state.passive = true := by
  have hd : dischargeDemand s.station.cfg s.meas.derived s.demand = (false, 0) := dischargeDemand_suppressed hs
  refine ⟨by rw [State.recomputeDischarge_dDemand, hd], ?_⟩
  simp only [State.recomputeDischarge, hd]
  split
  · next h =>
    rw [Bool.and_eq_true, beq_iff_eq] at h
    exact hw.passive (hn.trans h.1.symm)
  · exact State.needNotice_passive (p := .discharge)
      (s := { s with demand := { s.demand with dDemand := false, dBase := 0 } }) hw _

/-- A recomputation where the suppression request is the cycle's. -/
theorem State.recomputeDischarge_sealed (hn : NeedShown s) (hc : s.demand.suppress = s.bio.cycle.sealed)
    (hw : s.demand.suppress = true → (s.engine .discharge).waitsByNeed) : Sealed s.recomputeDischarge := by
  obtain ⟨hbio, -, -, hs⟩ := s.recomputeDischarge_frame
  refine ⟨by rw [hs, hbio]; exact hc, fun hq => ?_, State.recomputeDischarge_needShown hn⟩
  rw [hs] at hq
  exact State.recomputeDischarge_suppressed hq hn (hw hq)

theorem DoseHeld.recomputeDischarge (h : DoseHeld s) : DoseHeld s.recomputeDischarge := by
  obtain ⟨hbio, hpump, heng, -⟩ := s.recomputeDischarge_frame
  obtain ⟨h1, h2⟩ := h
  exact ⟨by rw [PhasesHeld, hbio, heng]; exact h1, by rw [PumpOnlyDosing, hbio, hpump]; exact h2⟩

theorem State.recomputeDischarge_steers (s : State) : Steers s s.recomputeDischarge :=
  ⟨(·.recomputeDischarge), fun h => State.recomputeDischarge_sealed h.need h.suppress (fun hs => .inl (h.quiet hs).2)⟩

/-- The cycle, demand and engines with the two dose invariants, whatever else changes. -/
theorem DoseHeld.of_same (h : DoseHeld s) (bio : t.bio = s.bio := by rfl)
    (pump : t.out.biocidePump = s.out.biocidePump := by rfl)
    (engine : t.engine .biocide = s.engine .biocide := by rfl) : DoseHeld t := by
  obtain ⟨h1, h2⟩ := h
  exact ⟨by rw [PhasesHeld, bio, engine]; exact h1, by rw [PumpOnlyDosing, bio, pump]; exact h2⟩

/-! ### Releases -/

theorem State.arriveRest_waitsByNeed (s : State) (p : Pool) : ((s.arriveRest p).engine p).waitsByNeed := by
  rw [State.arriveRest_engine]
  split
  · next h =>
    rw [Bool.and_eq_true] at h
    exact .inr ⟨rfl, h.2⟩
  · exact .inl rfl

theorem Engine.released_waitsByNeed (e : Engine) (s : State) : (e.released s).waitsByNeed := by
  unfold Engine.released
  split
  · exact .inl rfl
  · split
    · next h =>
      simp only [Bool.and_eq_true] at h
      exact .inr ⟨rfl, h.1.2⟩
    · split
      · next h =>
        rw [Bool.and_eq_true] at h
        exact .inr ⟨rfl, h.2⟩
      · exact .inl rfl

/-- R61: after a forced release an engine of a valve waits only by its need. -/
theorem State.forcedRelease_waitsByNeed {p : Pool} (hp : p ≠ .biocide) :
    ((s.forcedRelease p).engine p).waitsByNeed := by
  simp only [State.forcedRelease]
  cases h : (s.engine p).state with
  | holding =>
    dsimp only
    split
    · next v hv =>
      have hpv := Pool.valve_pool hv
      subst hpv
      cases hc : (s.valve v).seenClosed
      · rw [State.release_of_not_seenClosed _ _ _ hc, State.engine_setValve, State.engine_endNoFlow,
          State.engine_setEngine]
        exact .inl rfl
      · rw [State.release_of_seenClosed _ _ _ hc, State.engine_setEngine]
        exact Engine.released_waitsByNeed _ s
    · next hv => exact absurd (by cases p <;> first | rfl | cases hv) hp
  | asking | confirming => exact State.arriveRest_waitsByNeed _ p
  | rest | releasing | stuck | locked => dsimp only; exact .inl (by rw [h]; rfl)

theorem State.forcedRelease_aside {p : Pool} (hp : p ≠ .biocide) : Aside s (s.forcedRelease p) := by
  simp only [State.forcedRelease]
  cases h : (s.engine p).state with
  | holding =>
    dsimp only
    split
    · exact s.release_aside _ _ _ _
    · next hv => exact absurd (by cases p <;> first | rfl | cases hv) hp
  | asking | confirming => exact State.giveUpWaiting_aside (by rw [h]; nofun)
  | rest | releasing | stuck | locked => exact .refl s

theorem State.biocideToRest_discharge (s : State) : s.biocideToRest.engine .discharge = s.engine .discharge := by
  rw [State.biocideToRest, State.arriveRest_engine_ne _ (by decide), State.engine_setEngine_ne _ _ (by decide)]

theorem State.releaseBiocide_discharge (s : State) : s.releaseBiocide.engine .discharge = s.engine .discharge := by
  simp only [State.releaseBiocide]
  split
  · exact s.biocideToRest_discharge
  · rfl

/-! ### The requests and an abort (R149) -/

theorem DoseHeld.request (h : DoseHeld s) (force suppress : Bool) : DoseHeld (s.request force suppress) :=
  DoseHeld.recomputeDischarge h.of_same

theorem State.request_sealed {suppress : Bool} (force : Bool) (hn : NeedShown s) (hc : suppress = s.bio.cycle.sealed)
    (hw : suppress = true → (s.engine .discharge).waitsByNeed) : Sealed (s.request force suppress) :=
  State.recomputeDischarge_sealed hn hc hw

/-- With the pump off, a cycle in none of the three phases needs no hold. -/
theorem DoseHeld.of_off (hc : s.bio.cycle.abortable = false) (hp : s.out.biocidePump = false) : DoseHeld s :=
  ⟨fun h => (by cases hc.symm.trans h), fun h => (by cases hp.symm.trans h)⟩

/-- The pump is off in every cycle state but DOSING. -/
theorem PumpOnlyDosing.off (h : PumpOnlyDosing s) (hc : s.bio.cycle ≠ .dosing) : s.out.biocidePump = false := by
  cases hp : s.out.biocidePump
  · rfl
  · exact absurd (h hp) hc

theorem State.releaseBiocide_needShown (hn : NeedShown s) : NeedShown s.releaseBiocide := by
  rw [NeedShown, State.releaseBiocide_discharge, s.releaseBiocide_claimOnly.1]
  exact hn

theorem State.abortCycle_dose (h : PumpOnlyDosing s) : DoseHeld s.abortCycle := by
  have hafter (u : State) (hc : u.bio.cycle = .idle) (hu : u.out.biocidePump = false) :
      DoseHeld (((u.raise .biocideAborted).occur .biocideAborted).cycleNotice.request false false) :=
    ((DoseHeld.of_off (s := (u.raise .biocideAborted).occur .biocideAborted) (congrArg Cycle.abortable hc) hu).aside
      (State.cycleNotice_aside _)).request false false
  simp only [State.abortCycle]
  split
  · exact hafter _ rfl (State.releaseBiocide_claimOnly (s.pump false)).2.2.2.2.2.1
  · next hc =>
    exact hafter _ rfl (s.releaseBiocide_claimOnly.2.2.2.2.2.1.trans (h.off (fun hd => hc (beq_iff_eq.mpr hd))))

theorem State.abortCycle_sealed (h : NeedShown s) : Sealed s.abortCycle := by
  have hafter (u : State) (hc : u.bio.cycle = .idle) (hn : NeedShown u) :
      Sealed (((u.raise .biocideAborted).occur .biocideAborted).cycleNotice.request false false) := by
    have ha := State.cycleNotice_aside ((u.raise .biocideAborted).occur .biocideAborted)
    refine State.request_sealed false (NeedShown.aside (s := (u.raise .biocideAborted).occur .biocideAborted) hn ha) ?_ nofun
    rw [ha.cycle]
    exact (congrArg Cycle.sealed hc).symm
  have hbio (u : State) (b : Sequencer) (hn : NeedShown u) : NeedShown { u with bio := b } := hn
  simp only [State.abortCycle]
  split
  · exact hafter _ rfl (hbio _ _ (State.releaseBiocide_needShown (s := s.pump false) h))
  · exact hafter _ rfl (hbio _ _ (State.releaseBiocide_needShown h))

/-- The BIOCIDE engine has left its hold: a cycle in one of the three phases is aborted, and none other held it. -/
theorem State.abortIfRunning_steers (bio : u.bio = s.bio) (pump : u.out.biocidePump = s.out.biocidePump)
    (demand : u.demand = s.demand) (engine : u.engine .discharge = s.engine .discharge) :
    Steers s u.abortIfRunning := by
  have hpump (h : DoseHeld s) : PumpOnlyDosing u := by rw [PumpOnlyDosing, bio, pump]; exact h.pump
  have hseal (h : Sealed s) : Sealed u := h.of_same (by rw [bio]) (by rw [demand]) (by rw [demand]) engine
  simp only [State.abortIfRunning]
  split
  · exact ⟨fun h => State.abortCycle_dose (hpump h), fun h => State.abortCycle_sealed (hseal h).need⟩
  · next hc => exact ⟨fun h => ⟨fun ha => absurd ha hc, hpump h⟩, hseal⟩

theorem State.abortIfRunning_steers_self (s : State) : Steers s s.abortIfRunning :=
  State.abortIfRunning_steers rfl rfl rfl rfl

theorem State.biocideToRest_abort_steers (s : State) : Steers s s.biocideToRest.abortIfRunning := by
  obtain ⟨hd, -, hb, -, -, hp, -, -⟩ := s.biocideToRest_claimOnly
  exact State.abortIfRunning_steers hb hp hd s.biocideToRest_discharge

theorem State.forcedRelease_steers (s : State) (p : Pool) : Steers s (s.forcedRelease p) := by
  by_cases hp : p = .biocide
  · subst hp
    simp only [State.forcedRelease]
    cases h : (s.engine .biocide).state with
    | holding => exact s.biocideToRest_abort_steers
    | asking | confirming => exact (State.giveUpWaiting_aside (by rw [h]; nofun)).steers
    | rest | releasing | stuck | locked => exact .refl s
  · exact (State.forcedRelease_aside hp).steers

theorem State.releaseAll_steers (s : State) : Steers s s.releaseAll :=
  (s.forcedRelease_steers _).trans ((State.forcedRelease_steers _ _).trans (State.forcedRelease_steers _ _))

/-! ### The phases -/

/-- A change of cycle state with the notice of it: between states of one kind, outside the three phases or under a hold. -/
theorem Steers.cycleNotice {b : Sequencer} (h : DoseHeld s → DoseHeld { s with bio := b })
    (hc : b.cycle.sealed = s.bio.cycle.sealed) : Steers s { s with bio := b }.cycleNotice :=
  ⟨fun hs => (h hs).aside (State.cycleNotice_aside _),
    fun hs => (hs.of_same (t := { s with bio := b }) hc).aside (State.cycleNotice_aside _)⟩

theorem State.enterDue_steers (h : s.bio.cycle = .idle) : Steers s s.enterDue :=
  .cycleNotice (fun hs => .of_off rfl (hs.pump.off (by rw [h]; nofun))) (by rw [h]; rfl)

/-- R144: on entry to CLOSING demand is suppressed and DISCHARGE released, in either order. -/
theorem State.enterClosing_sealed (hn : NeedShown s) : Sealed s.enterClosing := by
  have hmid (u : State) (hc : u.bio.cycle = .closing) (hu : NeedShown u) : ∀ q : Demand, q.suppress = true →
      q.dDemand = u.demand.dDemand →
      Sealed (({ u with demand := q }.forcedRelease .discharge).recomputeDischarge) ∧
        Sealed ({ u with demand := q }.recomputeDischarge.forcedRelease .discharge) := by
    intro q hq hd
    generalize hv : ({ u with demand := q } : State) = v
    have hvs : v.demand.suppress = true := by rw [← hv]; exact hq
    have hvc : v.bio.cycle = .closing := by rw [← hv]; exact hc
    have hvn : NeedShown v := by rw [← hv]; exact hu.trans hd.symm
    have ha : Aside v (v.forcedRelease .discharge) := State.forcedRelease_aside (by decide)
    have hb : Aside v.recomputeDischarge (v.recomputeDischarge.forcedRelease .discharge) :=
      State.forcedRelease_aside (by decide)
    constructor
    · refine State.recomputeDischarge_sealed (hvn.aside ha) (by rw [ha.suppress, ha.cycle, hvs, hvc]; rfl)
        (fun _ => State.forcedRelease_waitsByNeed (by decide))
    · obtain ⟨hbio, -, -, hs⟩ := v.recomputeDischarge_frame
      have hdem : v.recomputeDischarge.demand.dDemand = false := by
        rw [State.recomputeDischarge_dDemand, dischargeDemand_suppressed hvs]
      have hneed := (State.recomputeDischarge_needShown hvn).aside hb
      have hfalse := hb.dDemand.trans hdem
      exact ⟨by rw [hb.suppress, hb.cycle, hs, hbio, hvs, hvc]; rfl,
        fun _ => ⟨hfalse, (State.forcedRelease_waitsByNeed (by decide)).passive (hneed.trans hfalse)⟩, hneed⟩
  have hnotice := State.cycleNotice_aside
    { s with bio := { s.bio with cycle := .closing, phase := none }, freeIx := s.freeIx + 1 }
  obtain ⟨h1, h2⟩ := hmid _ hnotice.cycle (NeedShown.aside (s := { s with
    bio := { s.bio with cycle := .closing, phase := none }, freeIx := s.freeIx + 1 }) hn hnotice)
    { ({ s with bio := { s.bio with cycle := .closing, phase := none }, freeIx := s.freeIx + 1 } : State).cycleNotice.demand with
      force := false, suppress := true } rfl rfl
  simp only [State.enterClosing]
  split
  · exact h1
  · exact h2

theorem State.enterClosing_dose (hh : (s.engine .biocide).state = .holding) (hp : s.out.biocidePump = false) :
    DoseHeld s.enterClosing := by
  have h : DoseHeld { s with bio := { s.bio with cycle := .closing, phase := none }, freeIx := s.freeIx + 1 }.cycleNotice :=
    (DoseHeld.mk (s := { s with bio := { s.bio with cycle := .closing, phase := none }, freeIx := s.freeIx + 1 })
      (fun _ => hh) (fun ho => (by cases hp.symm.trans ho))).aside (State.cycleNotice_aside _)
  have hdemand (u : State) (q : Demand) (hu : DoseHeld u) : DoseHeld { u with demand := q } := hu.of_same
  simp only [State.enterClosing]
  split
  · exact ((hdemand _ _ h).aside (State.forcedRelease_aside (by decide))).recomputeDischarge
  · exact (hdemand _ _ h).recomputeDischarge.aside (State.forcedRelease_aside (by decide))

theorem State.enterClosing_steers (hh : (s.engine .biocide).state = .holding) (hc : s.bio.cycle ≠ .dosing) :
    Steers s s.enterClosing :=
  ⟨fun h => State.enterClosing_dose hh (h.pump.off hc), fun h => State.enterClosing_sealed h.need⟩

theorem State.prebleedTest_steers (s : State) : Steers s s.prebleedTest := by
  simp only [State.prebleedTest]
  split
  · next h =>
    rw [Bool.and_eq_true, beq_iff_eq] at h
    refine ⟨fun hd => ?_, fun hs => State.enterClosing_sealed hs.need⟩
    exact State.enterClosing_dose (hd.phases (by rw [h.1]; rfl)) (hd.pump.off (by rw [h.1]; nofun))
  · exact .refl s

/-- R141: PREBLEED under a hold. -/
theorem State.startPrebleed_dose (hh : (s.engine .biocide).state = .holding) (hp : s.out.biocidePump = false) :
    DoseHeld s.startPrebleed :=
  ((DoseHeld.mk (s := { s with bio := { s.bio with cycle := .prebleed, phase := some (s.station.cfg.prebleedLimit * 1000) } })
    (fun _ => hh) (fun ho => (by cases hp.symm.trans ho))).aside (State.cycleNotice_aside _)).request _ _

/-- R141: PREBLEED entered where nothing is suppressed. -/
theorem State.startPrebleed_sealed (hn : NeedShown s) (hs : s.demand.suppress = false) : Sealed s.startPrebleed := by
  have ha := State.cycleNotice_aside
    { s with bio := { s.bio with cycle := .prebleed, phase := some (s.station.cfg.prebleedLimit * 1000) } }
  refine State.request_sealed true (NeedShown.aside (s := { s with
    bio := { s.bio with cycle := .prebleed, phase := some (s.station.cfg.prebleedLimit * 1000) } }) hn ha)
    (by rw [ha.cycle, hs]; rfl) (fun h' => ?_)
  cases hs.symm.trans h'

/-- R140: the holding notice, from a cycle in none of the three phases. -/
theorem State.holdingNotice_dose (hh : (s.engine .biocide).state = .holding) (hc : s.bio.cycle.abortable = false)
    (h : DoseHeld s) : DoseHeld s.holdingNotice := by
  have hp : s.out.biocidePump = false := h.pump.off (fun hd => (by rw [hd] at hc; cases hc))
  have hclose (n : Nat) : DoseHeld { s with bio := { s.bio with target := n } }.enterClosing :=
    State.enterClosing_dose (s := { s with bio := { s.bio with target := n } }) hh hp
  have hpre (n : Nat) : DoseHeld { s with bio := { s.bio with target := n } }.startPrebleed :=
    State.startPrebleed_dose (s := { s with bio := { s.bio with target := n } }) hh hp
  simp only [State.holdingNotice]
  split
  · split
    · simp only [State.enterPrebleed]
      split
      · exact hclose _
      · exact hpre _
    · exact hclose _
  · obtain ⟨-, -, hb, -, -, hpump, -, -⟩ := s.releaseBiocide_claimOnly
    exact .of_off (by rw [hb]; exact hc) (hpump.trans hp)

theorem State.holdingNotice_sealed (h : Sealed s) : Sealed s.holdingNotice := by
  have hclose (n : Nat) : Sealed { s with bio := { s.bio with target := n } }.enterClosing :=
    State.enterClosing_sealed (s := { s with bio := { s.bio with target := n } }) h.need
  simp only [State.holdingNotice]
  split
  · next hdue =>
    rw [beq_iff_eq] at hdue
    have hs : s.demand.suppress = false := by rw [h.suppress, hdue]; rfl
    have hpre (n : Nat) : Sealed { s with bio := { s.bio with target := n } }.startPrebleed :=
      State.startPrebleed_sealed (s := { s with bio := { s.bio with target := n } }) h.need hs
    split
    · simp only [State.enterPrebleed]
      split
      · exact hclose _
      · exact hpre _
    · exact hclose _
  · obtain ⟨hd, -, hb, -, -, -, -, -⟩ := s.releaseBiocide_claimOnly
    exact h.of_same (by rw [hb]) (by rw [hd]) (by rw [hd]) s.releaseBiocide_discharge

/-- R46: the grant of BIOCIDE, which no cycle in one of the three phases waits for. -/
theorem State.grantBiocide_steers (h : (s.engine .biocide).state = .confirming) : Steers s (s.grant .biocide) := by
  have hsealed (u : State) (hu : u.bio = s.bio) (hd : u.demand = s.demand)
      (he : u.engine .discharge = s.engine .discharge) (hs : Sealed s) : Sealed u.holdingNotice :=
    State.holdingNotice_sealed (hs.of_same (by rw [hu]) (by rw [hd]) (by rw [hd]) he)
  refine ⟨fun hd => ?_, hsealed _ rfl rfl rfl⟩
  have hc : s.bio.cycle.abortable = false := by
    cases ha : s.bio.cycle.abortable
    · rfl
    · cases h.symm.trans (hd.phases ha)
  have hdose (u : State) (hu : u.bio = s.bio) (hp : u.out = s.out) (he : (u.engine .biocide).state = .holding) :
      DoseHeld u.holdingNotice :=
    State.holdingNotice_dose he (by rw [hu]; exact hc)
      ⟨fun _ => he, by rw [PumpOnlyDosing, hu, hp]; exact hd.pump⟩
  exact hdose _ rfl rfl rfl

theorem State.enterDosing_steers (hc : s.bio.cycle = .closing) : Steers s s.enterDosing := by
  have ha := State.cycleNotice_aside
    { s with bio := { s.bio with cycle := .dosing, phase := some (s.station.cfg.doseTime * 1000) } }
  refine ⟨fun h => ⟨fun _ => ?_, fun _ => ha.cycle⟩, fun h => Sealed.of_same (s := { s with
    bio := { s.bio with cycle := .dosing, phase := some (s.station.cfg.doseTime * 1000) } }.cycleNotice)
    ((h.of_same (t := { s with bio := { s.bio with cycle := .dosing, phase := some (s.station.cfg.doseTime * 1000) } })
      (by rw [hc]; rfl)).aside ha) rfl⟩
  exact ha.biocide (h.phases (by rw [hc]; rfl))

theorem State.closingTest_steers (hc : s.bio.cycle = .closing) : Steers s s.closingTest := by
  simp only [State.closingTest]
  cases (s.engine .discharge).state with
  | rest | locked => exact State.enterDosing_steers hc
  | stuck => exact ⟨fun h => State.abortCycle_dose h.pump, fun h => State.abortCycle_sealed h.need⟩
  | asking | confirming | holding | releasing => exact .refl s

theorem State.endDose_steers (hc : s.bio.cycle = .dosing) : Steers s s.endDose := by
  obtain ⟨hd, -, hb, -, -, hp, -, -⟩ := (s.pump false).releaseBiocide_claimOnly
  have he := (s.pump false).releaseBiocide_discharge
  have hafter (u : State) (b : Sequencer) (hb : b.cycle = .contact) (hu : u.out.biocidePump = false)
      (hseal : Sealed s → Sealed { u with bio := b }) : Steers s { u with bio := b }.cycleNotice :=
    ⟨fun _ => (DoseHeld.of_off (s := { u with bio := b }) (congrArg Cycle.abortable hb) hu).aside
      (State.cycleNotice_aside _), fun h => (hseal h).aside (State.cycleNotice_aside _)⟩
  unfold State.endDose
  refine hafter _ _ rfl hp (fun h => h.of_same ?_ (congrArg Demand.suppress hd) (congrArg Demand.dDemand hd) he)
  rw [hc]
  rfl

theorem State.endContact_steers (hc : s.bio.cycle = .contact) : Steers s s.endContact := by
  obtain ⟨hbio, hpump, -, hsup⟩ := State.recomputeDischarge_frame
    { s with demand := { s.demand with force := s.demand.force, suppress := false } }
  have hneed (h : NeedShown s) : NeedShown (s.request s.demand.force false) :=
    State.recomputeDischarge_needShown (s := { s with demand := { s.demand with suppress := false } }) h
  have hafter (u : State) (b : Sequencer) (hb : b.cycle = .idle)
      (hp : u.out.biocidePump = (s.request s.demand.force false).out.biocidePump)
      (hd : u.demand = (s.request s.demand.force false).demand)
      (he : u.engine .discharge = (s.request s.demand.force false).engine .discharge) :
      Steers s { u with bio := b }.cycleNotice := by
    constructor
    · intro h
      refine (DoseHeld.of_off (s := { u with bio := b }) (congrArg Cycle.abortable hb) ?_).aside (State.cycleNotice_aside _)
      exact hp.trans (hpump.trans (h.pump.off (by rw [hc]; nofun)))
    · intro h
      have hn : NeedShown { u with bio := b } := by
        have := hneed h.need
        rw [NeedShown, ← he, ← hd] at this
        exact this
      refine (hn.sealed ?_ (congrArg Cycle.sealed hb)).aside (State.cycleNotice_aside _)
      exact (congrArg Demand.suppress hd).trans hsup
  simp only [State.endContact]
  split
  · exact hafter _ _ rfl rfl rfl rfl
  · exact hafter _ _ rfl rfl rfl rfl

/-! ### Evaluations, grants, the scan -/

theorem State.evaluate_steers (s : State) (p : Pool) : Steers s (s.evaluate p) := by
  by_cases hy : (s.engine p).state = .holding ∧ p = .biocide ∧ s.fits p = false
  · obtain ⟨hh, rfl, hf⟩ := hy
    obtain ⟨hd, -, hb, -, -, hp, -, -⟩ := s.biocideToRest_claimOnly
    simp only [State.evaluate, hh, hf, Bool.false_eq_true, if_false, State.yieldPool]
    exact State.abortIfRunning_steers hb hp hd s.biocideToRest_discharge
  · refine (State.evaluate_aside (fun hh hp => ?_)).steers
    cases hf : s.fits p
    · exact absurd ⟨hh, hp, hf⟩ hy
    · rfl

theorem State.evaluateAll_steers (s : State) : Steers s s.evaluateAll := by
  have h (u : State) (p q r : Pool) : Steers u (((u.evaluate p).evaluate q).evaluate r) :=
    (u.evaluate_steers p).trans ((State.evaluate_steers _ q).trans (State.evaluate_steers _ r))
  have hix (n : Nat) : Steers s { s with freeIx := n } := Aside.steers .of_same
  simp only [State.evaluateAll]
  split
  · split <;> exact (hix _).trans (h _ _ _ _)
  · exact h _ _ _ _

theorem State.periodicNotice_steers (s : State) : Steers s s.periodicNotice := by
  have h (u : State) (p : Pool) : Steers u (u.evaluateIfAsking p) := by
    simp only [State.evaluateIfAsking]
    split
    · exact u.evaluate_steers p
    · exact .refl u
  exact (h _ _).trans ((h _ _).trans (h _ _))

theorem State.confirmExpires_steers {p : Pool} (h : (s.engine p).state = .confirming) :
    Steers s (s.confirmExpires p) := by
  simp only [State.confirmExpires]
  split
  · by_cases hp : p = .biocide
    · subst hp
      exact State.grantBiocide_steers h
    · exact (State.grantValve_aside h hp).steers
  · exact (State.withdraw_aside h).steers

theorem State.calmValveFault_aside (s base : State) : Aside s (s.calmValveFault base) := by
  simp only [State.calmValveFault]
  split
  · exact s.calm_aside _
  · exact .refl s

theorem finish_steers (b s : State) : Steers s (State.finish b s) := by
  have h (u : State) : Steers u ((((u.calmValveFault b).composeReports (reportTriggers b (u.calmValveFault b))).nameLast
      b).driveLines) :=
    ((u.calmValveFault_aside b).trans ((State.composeReports_slotsOnly _ _).aside.trans
      ((State.nameLast_aside _ b).trans (State.driveLines_aside _)))).steers
  unfold State.finish
  dsimp only
  split
  · next hc =>
    simp only [closingTestDue, Bool.and_eq_true, beq_iff_eq] at hc
    exact (State.closingTest_steers hc.1).trans (h _)
  · exact h s

theorem State.scanDemand_steers (s : State) : Steers s s.scanDemand := by
  have h (u : State) : Steers u (((u.calmEnded s.demand).recomputeDischarge).recomputeSupply).recomputeBiocide :=
    (u.calmEnded_aside _).steers.trans ((State.recomputeDischarge_steers _).trans
      ((State.recomputeSupply_aside _).trans (State.recomputeBiocide_aside _)).steers)
  have hq : Steers s { s with demand := s.demand.scanned s.station.cfg s.meas.derived } := Aside.steers .of_same
  simp only [State.scanDemand]
  split
  · exact hq.trans ((State.raise_aside _ _).steers.trans (h _))
  · exact hq.trans (h _)

end

end Sys2Proof.Machine
end

section
/-! SUPPORT. The dose and DISCHARGE over a whole command: station control, START, the line, the peer table and the panel
port, then the walk over the commands (R115, R146, R27, R144 to R147). -/

namespace Sys2Proof.Machine
open Sys2Proof

set_option Elab.async false

/-- What a command keeps of the dose and of DISCHARGE. -/
structure Turns (s t : State) : Prop where
  dose : PassiveOutsideRun s → DoseHeld s → DoseHeld t
  sealed : PassiveOutsideRun s → PhasesHeld s → DoseSealed s → DoseSealed t

section
variable {s t u : State}

theorem Turns.refl (s : State) : Turns s s := ⟨fun _ => id, fun _ _ => id⟩

/-- No operation of the sequencer leads from a state without the seal into a working one. -/
theorem Steers.turns (h : Steers s t) (hw : t.station.state.working = true → s.station.state.working = true) :
    Turns s t := by
  refine ⟨fun _ => h.dose, fun _ _ hs => ?_⟩
  rw [doseSealed_iff] at hs ⊢
  exact fun ht => h.sealed (hs (hw ht))

theorem Steers.turns_of_acted (h : Steers s t) (ha : Acted s t) : Turns s t :=
  h.turns (fun ht => (by rwa [ha.station] at ht))

theorem Aside.turns_of_acted (h : Aside s t) (ha : Acted s t) : Turns s t := h.steers.turns_of_acted ha

theorem Aside.turns_of_lineAct (h : Aside s t) (hl : LineAct s t) : Turns s t :=
  h.steers.turns (fun ht => (by rwa [hl.station] at ht))

theorem Turns.then_steers (h : Turns s t) (k : Steers t u) (hw : u.station = t.station) : Turns s u :=
  have hk : Turns t u := k.turns (fun hu => by rwa [hw] at hu)
  ⟨fun hp hd => k.dose (h.dose hp hd), fun hp hph hs => by
    have ht := h.sealed hp hph hs
    rw [doseSealed_iff] at ht ⊢
    rw [hw]
    exact fun hu => k.sealed (ht hu)⟩

/-- A part that does not work, its pump off and its cycle in none of the three phases. -/
theorem Turns.of_off (hc : t.bio.cycle.abortable = false) (hp : t.out.biocidePump = false)
    (hw : t.station.state.working = false) : Turns s t :=
  ⟨fun _ _ => .of_off hc hp, fun _ _ _ ht => by cases hw.symm.trans ht⟩

/-! ## Station control -/

theorem State.changeState_aside (s : State) (st : StationState) (l : Option Nat) : Aside s (s.changeState st l) :=
  .after (State.composeReport_slotsOnly _).aside

theorem State.calmIsolated_aside (s : State) (before : StationState) : Aside s (s.calmIsolated before) := by
  simp only [State.calmIsolated]
  split
  · exact s.calm_aside _
  · exact .refl s

theorem State.enterRun_aside (s : State) : Aside s s.enterRun :=
  (s.changeState_aside _ _).trans ((State.askFromRest_aside _ _).trans ((State.askFromRest_aside _ _).trans
    (State.askFromRest_aside _ _)))

theorem State.enterHold_steers (s : State) : Steers s s.enterHold :=
  ((s.changeState_aside _ _).trans (State.calmIsolated_aside _ _)).steers.trans
    ((State.abortIfRunning_steers_self _).trans (State.releaseAll_steers _))

theorem State.enterListen_aside (s : State) : Aside s s.enterListen :=
  .after (t := { s with line := { s.line with deliveryTimer := some 0 } })
    ((State.changeState_aside _ _ _).trans ((State.calmIsolated_aside _ _).trans (State.feedResumed_aside _ _)))

theorem State.abortCycle_steers (s : State) : Steers s s.abortCycle :=
  ⟨fun h => State.abortCycle_dose h.pump, fun h => State.abortCycle_sealed h.need⟩

theorem State.isolatedAlarms_steers (s : State) : Steers s s.isolatedAlarms := by
  have h : Steers s { s with freeIx := s.freeIx + 1 } := Aside.steers .of_same
  have halarm (u : State) : Steers u ((u.raise .isolated).occur .isolated) :=
    ((u.raise_aside _).trans (State.occur_aside _ _)).steers
  simp only [State.isolatedAlarms]
  (repeat' split)
  · exact h.trans ((State.abortCycle_steers _).trans (halarm _))
  · exact h.trans ((halarm _).trans (State.abortCycle_steers _))
  · exact halarm s

theorem State.enterIsolated_steers (s : State) : Steers s s.enterIsolated :=
  (s.changeState_aside _ _).steers.trans ((State.isolatedAlarms_steers _).trans (State.releaseAll_steers _))

/-- R36: the caps alone. -/
theorem State.recomputeCaps_aside (s : State) : Aside s s.recomputeCaps := ⟨rfl, rfl, rfl, rfl, rfl, id, fun _ => id⟩

theorem State.emptyPeers_aside (s : State) : Aside s s.emptyPeers := .after (State.recomputeCaps_aside _)

theorem State.enterQuiet_steers (s : State) : Steers s s.enterQuiet := by
  have hquiet (u : State) : Aside u { u with line := u.line.quiet }.emptyPeers := .after (State.emptyPeers_aside _)
  exact ((s.changeState_aside _ _).trans ((hquiet _).trans (State.calmIsolated_aside _ _))).steers.trans
    ((State.abortIfRunning_steers_self _).trans ((State.releaseAll_steers _).trans
      (State.feedResumed_aside _ _).steers))

/-! ## Resets and restarts -/

theorem Sequencer.restarted_abortable (b : Sequencer) : b.restarted.cycle.abortable = false := by
  unfold Sequencer.restarted
  cases b.cycle <;> simp [Cycle.abortable, *]

theorem Output.afterCold_pump (o : Output) (c : ResetCause) : (o.afterCold c).biocidePump = false := by
  cases c <;> rfl

theorem State.warmRestart_turns (s u : State) (straps : BitVec 5) : Turns s (u.warmRestart straps) := by
  simp only [State.warmRestart, State.readStraps]
  split <;> exact .of_off (Sequencer.restarted_abortable _) rfl rfl

theorem State.coldReset_turns (s : State) (c : ResetCause) (straps : BitVec 5) : Turns s (s.coldReset c straps) := by
  simp only [State.coldReset, State.readStraps]
  split <;> exact .of_off rfl (Output.afterCold_pump _ c) rfl

theorem State.holdInReset_turns (s : State) (c : ResetCause) : Turns s (s.holdInReset c) :=
  ⟨fun _ h => ⟨h.phases, fun ho => nomatch ho⟩, fun _ _ h => h⟩

theorem State.leavingFinished_turns (h : Turns s u) (k : FrameKind) (straps : BitVec 5) :
    Turns s (u.leavingFinished k straps) := by
  cases k
  · exact h
  · exact State.warmRestart_turns s u straps

/-! ## The end of START (R163) -/

theorem Sequencer.atListen_cycle (b : Sequencer) (c : EffConfig) : (b.atListen c).cycle = b.cycle := by
  unfold Sequencer.atListen
  cases h : b.cycle <;> simp [h]

theorem State.startValve_need (s : State) (v : Valve) : ((s.startValve v).engine v.pool).need = (s.engine v.pool).need := by
  rw [State.startValve_eq]
  split
  · rw [State.engine_setValve, State.engine_setEngine]
  · rfl

theorem State.startValve_same (s : State) (v : Valve) : (s.startValve v).bio = s.bio ∧
    (s.startValve v).out.biocidePump = s.out.biocidePump ∧ (s.startValve v).demand = s.demand := by
  rw [State.startValve_eq]
  split
  · cases v <;> exact ⟨rfl, rfl, rfl⟩
  · exact ⟨rfl, rfl, rfl⟩

/-- The cycle, the pump, demand and DISCHARGE as the load of START leaves them. -/
theorem State.started_discharge (s : State) (c : EffConfig) (i : StartInputs) :
    let t := ((s.load c i).startValve .blowdown).startValve .makeup
    t.bio.cycle = s.bio.cycle ∧ t.out.biocidePump = s.out.biocidePump ∧ t.demand.suppress = false ∧
      t.demand.dDemand = false ∧ (t.engine .discharge).need = false ∧
      (t.engine .discharge).state.passive = true := by
  obtain ⟨b1, p1, d1⟩ := (s.load c i).startValve_same .blowdown
  obtain ⟨b2, p2, d2⟩ := ((s.load c i).startValve .blowdown).startValve_same .makeup
  obtain ⟨-, hpassive⟩ := (s.load c i).started_valves rfl ⟨rfl, rfl⟩ ⟨rfl, rfl⟩
  refine ⟨?_, p2.trans p1, ?_, ?_, ?_, hpassive _⟩
  · rw [b2, b1]; exact Sequencer.atListen_cycle _ _
  · rw [d2, d1]; rfl
  · rw [d2, d1]; rfl
  · rw [State.startValve_engine_ne _ (by decide)]
    exact (s.load c i).startValve_need .blowdown

theorem State.keptAlarms_aside (s : State) : Aside s s.keptAlarms := by
  have hb (u : State) : Aside u u.balanceAlarm := by
    simp only [State.balanceAlarm]
    split
    · exact u.occur_aside _
    · exact .refl u
  have ha (u : State) : Aside u u.abortAlarm := by
    simp only [State.abortAlarm]
    split
    · exact u.occur_aside _
    · exact .refl u
  have hix : Aside s { s with freeIx := s.freeIx + 1 } := .of_same
  simp only [State.keptAlarms]
  (repeat' split)
  · exact hix.trans ((ha _).trans (hb _))
  · exact hix.trans ((hb _).trans (ha _))
  · exact (hb s).trans (ha _)

/-- R152: a kept CONTACT seals DISCHARGE again, which asks for nothing. -/
theorem State.renewSuppression_sealed (hc : s.bio.cycle.abortable = false) (hs : s.demand.suppress = false)
    (hn : NeedShown s) (hp : (s.engine .discharge).state.passive = true) : Sealed s.renewSuppression := by
  simp only [State.renewSuppression]
  split
  · next h =>
    rw [beq_iff_eq] at h
    exact State.request_sealed false hn (by rw [h]; rfl) (fun _ => .inl hp)
  · next h =>
    refine hn.sealed hs ?_
    cases hb : s.bio.cycle with
    | idle | due | prebleed => rfl
    | closing | dosing => rw [hb] at hc; cases hc
    | contact => rw [hb] at h; cases h rfl

theorem DoseHeld.renewSuppression (h : DoseHeld s) : DoseHeld s.renewSuppression := by
  simp only [State.renewSuppression]
  split
  · exact h.request _ _
  · exact h

/-- R61, R148: outside RUN no cycle is in one of the three phases. -/
theorem abortable_of_passive (hp : PassiveOutsideRun s) (hr : s.station.state ≠ .run) (h : PhasesHeld s) :
    s.bio.cycle.abortable = false := by
  cases ha : s.bio.cycle.abortable
  · rfl
  · have := hp hr .biocide
    rw [h ha] at this
    cases this

theorem State.enterListenFromStart_turns (hs : s.station.state = .start) (b : List Byte) (i : StartInputs) :
    Turns s (s.enterListenFromStart b i) := by
  have hrun : s.station.state ≠ .run := by rw [hs]; decide
  have hrest (u : State) (n : Nat) : Steers u ((((u.keptAlarms.feedResumed .start).takeScan
      i.codes).scanDemand.composeReport).composeReports n) :=
    (u.keptAlarms_aside.trans ((State.feedResumed_aside _ _).trans (State.takeScan_aside _ _))).steers.trans
      ((State.scanDemand_steers _).trans ((State.composeReport_slotsOnly _).aside.trans
        (State.composeReports_slotsOnly _ _).aside).steers)
  have hmain (v : State) (hv : v.bio = s.bio) (ho : v.out = s.out) (n : Nat)
      (hc : s.bio.cycle.abortable = false) :
      let t := ((((((((v.load (effectiveConfig b) i).startValve .blowdown).startValve
        .makeup).cycleNotice).renewSuppression.keptAlarms).feedResumed .start).takeScan
          i.codes).scanDemand.composeReport).composeReports n
      Sealed t ∧ (s.out.biocidePump = false → DoseHeld t) := by
    obtain ⟨h1, h2, h3, h4, h5, h6⟩ := v.started_discharge (effectiveConfig b) i
    have ha := State.cycleNotice_aside (((v.load (effectiveConfig b) i).startValve .blowdown).startValve .makeup)
    have hcycle : (((v.load (effectiveConfig b) i).startValve .blowdown).startValve .makeup).bio.cycle.abortable = false := by
      rw [h1, hv]; exact hc
    refine ⟨(hrest _ n).sealed (State.renewSuppression_sealed (by rw [ha.cycle]; exact hcycle) (ha.suppress.trans h3)
      (NeedShown.aside (h5.trans h4.symm) ha) (ha.passive h5 h6)), fun hp => (hrest _ n).dose ?_⟩
    exact ((DoseHeld.of_off hcycle (h2.trans (by rw [ho]; exact hp))).aside ha).renewSuppression
  unfold State.enterListenFromStart
  dsimp only
  have hturns {t : State} (h : s.bio.cycle.abortable = false → Sealed t ∧ (s.out.biocidePump = false → DoseHeld t)) :
      Turns s t := by
    refine ⟨fun hp hd => ?_, fun hp hph _ => ?_⟩
    · have hc := abortable_of_passive hp hrun hd.phases
      exact (h hc).2 (hd.pump.off (fun hd => (by rw [hd] at hc; cases hc)))
    · rw [doseSealed_iff]
      exact fun _ => (h (abortable_of_passive hp hrun hph)).1
  apply hturns
  split
  · exact hmain (s.raise .configClamped) rfl rfl _
  · exact hmain s rfl rfl _

theorem State.attemptEnds_turns (h : s.attempt.isSome = true) (n : Nat) (m : MemoryAnswer) (i : StartInputs) :
    Turns s (s.attemptEnds n m i) := by
  have hs := start_of_attempt h
  have hfault (u : State) (r : FaultReason) : Aside u (u.enterConfigFault r) := .after (State.occur_aside _ _)
  have hfails (u : State) (r : FaultReason) : Aside u (u.attemptFails n r) := by
    simp only [State.attemptFails]
    split
    · exact .of_same
    · exact hfault u r
  unfold State.attemptEnds
  dsimp only
  split
  · refine (Aside.after (s := s) (hfails _ _)).steers.turns (fun ht => ?_)
    simp only [State.attemptFails] at ht
    split at ht
    · exact ht
    · cases ht
  · obtain ⟨hdose, hsealed⟩ := State.enterListenFromStart_turns
      (s := { s with station := { s.station with bus := imageTransaction m } }) hs m.bytes i
    exact ⟨fun hp hd => hdose hp ⟨hd.phases, hd.pump⟩, hsealed⟩

/-! ## One millisecond -/

theorem State.tick_aside (s : State) : Aside s s.tick := by
  by_cases h : s.held = none
  · have hd : s.tick.engine .discharge = (s.engine .discharge).tick (s.station.cfg.maxRun .discharge) :=
      State.tick_engine h _
    have hb : s.tick.engine .biocide = (s.engine .biocide).tick (s.station.cfg.maxRun .biocide) := State.tick_engine h _
    have hw : s.tickWorking.bio.cycle = s.bio.cycle ∧ s.tickWorking.demand.suppress = s.demand.suppress ∧
        s.tickWorking.demand.dDemand = s.demand.dDemand := by
      simp only [State.tickWorking]
      split <;> exact ⟨rfl, rfl, rfl⟩
    obtain ⟨w1, w2, w3⟩ := hw
    refine ⟨?_, ?_, ?_, ?_, by rw [hd]; rfl, by rw [hb]; exact id, by rw [hd]; exact fun _ => id⟩
    all_goals rw [State.tick_of_free h]
    · exact w1
    · rfl
    · exact w2
    · exact w3
  · rw [State.tick_of_held h]
    exact .of_same

/-! ## The peer table -/

theorem State.tableNotice_steers (s : State) : Steers s s.tableNotice :=
  s.recomputeCaps_aside.steers.trans (State.evaluateAll_steers _)

theorem State.mismatchNotice_aside (s : State) (b : Bool) : Aside s (s.mismatchNotice b) := by
  simp only [State.mismatchNotice]
  split
  · exact s.raise_aside _
  · exact .refl s

theorem State.takeReport_steers (s : State) (b : List Byte) : Steers s (s.takeReport b) := by
  have h (u : State) (k c : Bool) : Aside u (State.mismatchNotice (if k then u.raise .peerJoined else u) c) := by
    cases k
    · exact State.mismatchNotice_aside _ _
    · exact (u.raise_aside _).trans (State.mismatchNotice_aside _ _)
  exact (Aside.after (t := { s with peers := putPeer (PeerEntry.updated (s.peerAt (nat1At b 2)) b s.station.cfg) s.peers })
    (h _ _ _)).steers.trans (State.tableNotice_steers _)

theorem State.deletePeer_steers (s : State) (n : Nat) : Steers s (s.deletePeer n) :=
  (Aside.after (t := { s with peers := dropPeer n s.peers }) (State.raise_aside _ _)).steers.trans
    (State.tableNotice_steers _)

theorem State.makeStale_steers (s : State) (n : Nat) : Steers s ((s.makeStale n).raise .peerStale).tableNotice :=
  (Aside.after (t := s.makeStale n) (State.raise_aside _ _)).steers.trans (State.tableNotice_steers _)

theorem State.takeLeaving_steers (s : State) (b : List Byte) : Steers s (s.takeLeaving b) := by
  simp only [State.takeLeaving]
  split
  · exact s.deletePeer_steers _
  · exact .refl s

theorem State.duplicate_turns (hs : Aside s u) (hr : s.station.state.reporting = true) (straps : BitVec 5) : Turns s (u.duplicate straps) := by
  have h : Steers u ((u.raise .duplicateStation).occur .duplicateStation).enterQuiet :=
    ((u.raise_aside _).trans (State.occur_aside _ _)).steers.trans (State.enterQuiet_steers _)
  simp only [State.duplicate]
  split
  · exact State.warmRestart_turns s _ straps
  · exact (hs.steers.trans h).turns (fun _ => working_of_reporting hr)

theorem State.takeFrame_turns {process : State → List Byte → State} (straps : BitVec 5)
    (hp : ∀ (u : State) b, Steers u (process u b)) : Turns s (s.takeFrame straps process) := by
  have hq : Aside s s.dequeue := .of_same
  simp only [State.takeFrame]
  split
  · exact (hq.trans (State.count_aside _ _ _)).steers.turns id
  · split
    · exact hq.steers.turns id
    · next hr =>
      have hr : s.station.state.reporting = true := by simpa using hr
      split
      · exact State.duplicate_turns hq hr straps
      · exact (hq.steers.trans (hp _ _)).turns (fun _ => working_of_reporting hr)

/-! ## The line and the panel port -/

theorem State.startAttempt_aside (s : State) : Aside s s.startAttempt := .of_same

theorem State.loseFrame_moveUp_aside (s : State) : Aside s s.loseFrame.moveUp := .of_same

theorem State.deliverFrame_moveUp_aside (s : State) : Aside s s.deliverFrame.moveUp := .of_same

theorem State.retry_aside (s : State) (o : OnLine) (n : Nat) : Aside s (s.retry o n) := by
  simp only [State.retry]
  split <;> exact .of_same

theorem State.attemptMisses_turns {o : OnLine} (ho : s.line.onLine = some o) (straps : BitVec 5) :
    Turns s (s.attemptMisses o straps) := by
  have h : Aside s { s with line := { s.line with rxMode := .ownDamaged } } := .of_same
  simp only [State.attemptMisses]
  split
  · next hn =>
    refine (h.trans (State.retry_aside _ _ _)).turns_of_lineAct ?_
    exact LineAct.trans (.of_slots (t := { s with line := { s.line with rxMode := .ownDamaged } }))
      (State.retry_lineAct ho hn)
  · exact State.leavingFinished_turns ((h.trans (State.loseFrame_moveUp_aside _)).steers.turns id) _ straps

theorem State.deliveryNotice_aside (s : State) : Aside s s.deliveryNotice ∧
    (s.deliveryNotice.station.state.working = true → s.station.state.working = true) := by
  simp only [State.deliveryNotice]
  split
  · next h => exact ⟨s.enterListen_aside, fun _ => by rw [beq_iff_eq.mp h]; rfl⟩
  · exact ⟨.refl s, id⟩

theorem State.attemptDelivers_turns (s : State) (o : OnLine) (straps : BitVec 5) :
    Turns s (s.attemptDelivers o straps) := by
  have h : Aside s { s with line := { s.line with rxMode := .ownEcho } } := .of_same
  obtain ⟨hd, hw⟩ := ({ s with line := { s.line with rxMode := .ownEcho } } : State).deliverFrame.moveUp.deliveryNotice_aside
  exact State.leavingFinished_turns ((h.trans ((State.deliverFrame_moveUp_aside _).trans hd)).steers.turns hw) _ straps

theorem State.lineRestart_aside (s : State) : Aside s s.lineRestart := by
  have hdrop : Aside s s.dropOnLine := by
    simp only [State.dropOnLine]
    split
    · exact .of_same
    · exact .refl s
  exact hdrop.trans (Aside.after (t := { s.dropOnLine with
    line := { s.dropOnLine.line with nextSlot := none, rxQueue := [], rxMode := .skip, rxChars := [], rxTooLong := false } })
    (State.composeReport_slotsOnly _).aside)

theorem State.conclude_aside (s : State) (r : MailResult) : Aside s (s.conclude r) := .of_same

theorem State.readRecord_turns (s : State) (rec idx : Nat) : Turns s (s.readRecord rec idx) := by
  have h (u : State) : Aside u (u.clearOnRead rec idx) ∧ (u.clearOnRead rec idx).station.state = u.station.state := by
    simp only [State.clearOnRead]
    (repeat' split)
    · exact ⟨.of_same, rfl⟩
    · exact ⟨.of_same, rfl⟩
    · exact ⟨.refl u, rfl⟩
  simp only [State.readRecord]
  split
  · exact (s.respond_aside _).steers.turns id
  · obtain ⟨ha, hw⟩ := h (s.respond (s.snapshot rec idx).response)
    exact ((s.respond_aside _).trans (ha.trans (State.driveLines_aside _))).steers.turns
      (fun ht => (congrArg StationState.working hw).symm.trans ht)

theorem State.takeCommand_turns {refused : Bool} {body : State → State} (h : refused = false → Turns s (body s)) :
    Turns s (s.takeCommand refused body) := by
  simp only [State.takeCommand]
  split
  · exact (s.conclude_aside _).steers.turns id
  · split
    · exact (s.conclude_aside _).steers.turns id
    · next hr => exact (h (by simpa using hr)).then_steers (State.conclude_aside _ _).steers rfl

theorem State.arrive_aside (s : State) (code : Byte) (argument : Word32) : Aside s (s.arrive code argument) := by
  simp only [State.arrive]
  (repeat' split) <;> exact .of_same

theorem State.takeClear_turns (s : State) : Turns s s.takeClear := by
  have hpart (u : State) (o : ClearOwner) : Aside u (u.clearPart o) := by cases o <;> exact .of_same
  have hstation (u : State) (o : ClearOwner) : (u.clearPart o).station = u.station := by cases o <;> rfl
  have hset (u v : State) (h : Aside u v) (p : Port) (n : Nat) : Aside u { v with port := p, freeIx := n } :=
    h.trans .of_same
  simp only [State.takeClear]
  split
  · exact State.takeCommand_turns (fun _ => (hset s _ (hpart s _) _ _).steers.turns (fun ht =>
      (congrArg (fun t : Station => t.state.working) (hstation s s.nextClearer)).symm.trans ht))
  · exact (hset s _ (hpart s _) _ _).steers.turns (fun ht =>
      (congrArg (fun t : Station => t.state.working) (hstation s s.nextClearer)).symm.trans ht)

theorem State.takeHold_turns (h : s.holdRefused = false) : Turns s s.takeHold := by
  simp only [State.takeHold]
  split
  · exact .refl s
  · exact s.enterHold_steers.turns (fun _ => working_of_reporting (by simpa [State.holdRefused] using h))

theorem State.restartCommand_turns (s : State) (straps : BitVec 5) : Turns s (s.restartCommand straps) := by
  have h : Aside s { s with station := { s.station with restartPending := true } } := .of_same
  have hl (u : State) : Aside u u.composeLeaving :=
    (u.placeFrame_slotsOnly u.leavingFrame).aside.trans .of_same
  simp only [State.restartCommand, State.takeRestart]
  (repeat' split)
  · exact (s.conclude_aside _).steers.turns id
  · exact (s.conclude_aside _).steers.turns id
  · exact State.warmRestart_turns s s straps
  · refine (h.trans (hl _)).steers.turns (fun ht => ?_)
    rw [(State.composeLeaving_lineAct _).station] at ht
    exact ht

/-! ## The commands -/

theorem event_turns {due : Bool} {body : State → State} (h : event due body s = .next t)
    (hb : s.held = none → due = true → Turns s (body s)) : Turns s t := by
  obtain hn | ⟨hh, hd, hn⟩ := event_next due body s
  · cases h.symm.trans hn
    exact .refl s
  · cases h.symm.trans hn
    exact (hb hh hd).then_steers (finish_steers s _) (by simp)

end

end Sys2Proof.Machine
end

section
/-! SUPPORT. The walk over the commands for the dose and DISCHARGE, and the two statements (R115, R146, R27, R144 to R147). -/

namespace Sys2Proof.Machine
open Sys2Proof

set_option Elab.async false

section
variable {s t : State}

theorem State.deferredRelease_aside (s : State) (p : Pool) : Aside s (s.deferredRelease p) := by
  simp only [State.deferredRelease]
  split
  · exact s.release_aside _ _ _ _
  · exact .refl s

theorem State.maxRunRelease_aside (s : State) (p : Pool) : Aside s (s.maxRunRelease p) := by
  simp only [State.maxRunRelease]
  split
  · exact (s.release_aside _ _ _ _).trans (State.raise_aside _ _)
  · exact .refl s

theorem State.askExpires_steers (s : State) (p : Pool) : Steers s (s.askExpires p) :=
  (State.setEngine_aside (p := p) (e := { s.engine p with windowExpired := true, phase := none }) rfl
    (fun _ => rfl)).steers.trans (State.evaluate_steers _ p)

theorem State.aged_aside (s : State) (p : Pool) : Aside s (s.setEngine p (s.engine p).aged) :=
  State.setEngine_aside rfl (fun _ => rfl)

theorem State.reportFires_turns (s : State) : Turns s s.reportFires := by
  have hc : Aside s ({ s with line := { s.line with reportTimer := some 0 } }.composeReport) :=
    Aside.after (t := { s with line := { s.line with reportTimer := some 0 } }) (State.composeReport_slotsOnly _).aside
  have hl := State.composeReport_lineAct { s with line := { s.line with reportTimer := some 0 } }
  refine (hc.steers.turns (fun ht => ?_)).then_steers (State.periodicNotice_steers _) (State.periodicNotice_acted _).station
  rw [hl.station] at ht
  exact ht

theorem State.probeFails_aside (s : State) (c : Chan) : Aside s (s.probeFails c) :=
  .after ((State.raise_aside _ .probeFault).trans (State.occur_aside _ .probeFault))

theorem State.strokeIntervalPasses_aside (s : State) : Aside s s.strokeIntervalPasses := .after (State.strokeTest_aside _)

theorem State.firstNoFlowTest_aside (s : State) : Aside s s.firstNoFlowTest := .after (State.noFlowTest_aside _)

theorem State.nextAttempt_turns (s : State) : Turns s s.nextAttempt := by
  have h (w : StartWork) : Aside s { s with station := { s.station with work := w } } := .of_same
  simp only [State.nextAttempt]
  split
  · exact (h _).steers.turns id
  · exact .refl s
  · exact .refl s

theorem cycle_of_phaseOver {c : Cycle} (h : s.phaseOver c = true) : s.bio.cycle = c := by
  simp only [State.phaseOver, Bool.and_eq_true, beq_iff_eq] at h
  exact h.1.2

theorem State.prebleedShort_steers (h : s.bio.cycle = .prebleed) : Steers s (s.raise .prebleedShort).enterClosing := by
  have hr := (s.raise_aside .prebleedShort).steers
  refine ⟨fun hd => ?_, fun hs => State.enterClosing_sealed (hr.sealed hs).need⟩
  exact State.enterClosing_dose (s := s.raise .prebleedShort) (hd.phases (by rw [h]; rfl))
    (hd.pump.off (by rw [h]; nofun))

/-- Every command keeps the dose and DISCHARGE as they have to be. -/
theorem exec_turns {c : Instr} (h : exec c s = .next t) : Turns s t := by
  cases c with
  | coldReset cause straps =>
    cases h
    exact (s.coldReset_turns cause straps).then_steers (State.driveLines_aside _).steers rfl
  | heldInReset cause =>
    cases h
    exact (s.holdInReset_turns cause).then_steers (State.driveLines_aside _).steers rfl
  | configAttempt answer i =>
    rw [exec_configAttempt] at h
    obtain hn | ⟨-, hd, hn⟩ := quietEvent_next s.attempt.isSome (fun s => s.attemptEnds (s.attempt.getD 0) answer i) s
    · cases h.symm.trans hn
      exact .refl s
    · cases h.symm.trans hn
      exact (State.attemptEnds_turns hd _ _ _).then_steers ((State.nameLast_aside _ s).trans
        (State.driveLines_aside _)).steers (State.nameLast_acted _ s).station
  | configRetryDelay =>
    rw [exec_configRetryDelay] at h
    exact event_turns h (fun _ _ => s.nextAttempt_turns)
  | scan k =>
    rw [exec_scan] at h
    exact event_turns h (fun _ _ => ((s.takeScan_aside k).steers.trans ((State.scanDemand_steers _).trans
      (State.prebleedTest_steers _))).turns_of_acted ((s.takeScan_acted k).trans ((State.scanDemand_acted _).trans
        (State.prebleedTest_acted _))))
  | holdTimerExpiry c =>
    rw [exec_holdTimerExpiry] at h
    exact event_turns h (fun _ _ => (s.probeFails_aside c).turns_of_acted (s.probeFails_acted c))
  | hhTimerExpiry =>
    rw [exec_hhTimerExpiry] at h
    exact event_turns h (fun _ _ => (Aside.of_same (s := s) (t := s.hhExpires)).steers.turns id)
  | llTimerExpiry =>
    rw [exec_llTimerExpiry] at h
    exact event_turns h (fun _ _ => (Aside.of_same (s := s) (t := s.llExpires)).steers.turns id)
  | askWindowExpiry p =>
    rw [exec_askWindowExpiry] at h
    exact event_turns h (fun _ _ => (s.askExpires_steers p).turns_of_acted (s.askExpires_acted p))
  | confirmPeriodExpiry p =>
    rw [exec_confirmPeriodExpiry] at h
    exact event_turns h (fun _ hd => (State.confirmExpires_steers (confirming_of_over hd)).turns_of_acted
      (State.confirmExpires_acted (confirming_of_over hd)))
  | ageingStep p =>
    rw [exec_ageingStep] at h
    exact event_turns h (fun _ _ => (s.aged_aside p).steers.turns (fun ht => by simpa using ht))
  | minimumRunEnd p =>
    rw [exec_minimumRunEnd] at h
    exact event_turns h (fun _ _ => (s.deferredRelease_aside p).turns_of_acted (s.deferredRelease_acted p))
  | maxRunExpiry p =>
    rw [exec_maxRunExpiry] at h
    exact event_turns h (fun _ _ => (s.maxRunRelease_aside p).turns_of_acted (s.maxRunRelease_acted p))
  | reportProcessed straps =>
    rw [exec_reportProcessed] at h
    exact event_turns h (fun _ _ => State.takeFrame_turns straps State.takeReport_steers)
  | leavingProcessed straps =>
    rw [exec_leavingProcessed] at h
    exact event_turns h (fun _ _ => State.takeFrame_turns straps State.takeLeaving_steers)
  | peerStale n =>
    rw [exec_peerStale] at h
    exact event_turns h (fun _ _ => (s.makeStale_steers n).turns (fun ht => by
      rw [State.tableNotice, (State.evaluateAll_acted _).station] at ht
      exact ht))
  | peerDropped n =>
    rw [exec_peerDropped] at h
    exact event_turns h (fun _ _ => (s.deletePeer_steers n).turns (fun ht => by
      rw [State.deletePeer, State.tableNotice, (State.evaluateAll_acted _).station] at ht
      exact ht))
  | frameEnd r =>
    rw [exec_frameEnd] at h
    exact event_turns h (fun _ _ => (s.receivesFrom_aside r).turns_of_lineAct (s.receivesFrom_lineAct r))
  | reportTimer =>
    rw [exec_reportTimer] at h
    exact event_turns h (fun _ _ => s.reportFires_turns)
  | attemptStart q =>
    rw [exec_attemptStart] at h
    exact event_turns h (fun _ _ => s.startAttempt_aside.turns_of_lineAct s.startAttempt_lineAct)
  | echoMismatch a =>
    rw [exec_echoMismatch] at h
    refine event_turns h (fun _ _ => ?_)
    split
    · next o ho => exact State.attemptMisses_turns ho a.straps
    · exact .refl s
  | delivery a =>
    rw [exec_delivery] at h
    refine event_turns h (fun _ _ => ?_)
    split
    · next o _ => exact s.attemptDelivers_turns o a.straps
    · exact .refl s
  | deliveryTimerExpiry =>
    rw [exec_deliveryTimerExpiry] at h
    refine event_turns h (fun _ hd => ?_)
    rw [Bool.and_eq_true] at hd
    exact s.enterIsolated_steers.turns (fun _ => working_of_isolable hd.1)
  | listenTimerExpiry =>
    rw [exec_listenTimerExpiry] at h
    refine event_turns h (fun _ hd => ?_)
    rw [Bool.and_eq_true, beq_iff_eq] at hd
    exact s.enterRun_aside.steers.turns (fun _ => by rw [hd.1]; rfl)
  | feedbackSettled v i =>
    rw [exec_feedbackSettled] at h
    exact event_turns h (fun _ hd => (s.feedbackSettles_aside v i.level).turns_of_acted
      (State.feedbackSettles_acted (feedback_of_changes hd) i.level))
  | openCheckExpiry k =>
    rw [exec_openCheckExpiry] at h
    exact event_turns h (fun _ hd => (s.openFails_aside k.valve k.openHeldFor).turns_of_acted
      (State.openFails_acted (check_of_over hd) k.openHeldFor))
  | closeCheckExpiry v =>
    rw [exec_closeCheckExpiry] at h
    exact event_turns h (fun _ hd => (s.closeCheckEnds_aside v).turns_of_acted
      (State.closeCheckEnds_acted (check_of_over hd)))
  | strokePulseEnd =>
    rw [exec_strokePulseEnd] at h
    exact event_turns h (fun _ _ => (Aside.of_same (s := s) (t := s.endPulse)).steers.turns id)
  | meterSettled m i =>
    rw [exec_meterSettled] at h
    exact event_turns h (fun _ _ => (s.meterSettles_aside m i.level).turns_of_acted (s.meterSettles_acted m i.level))
  | slotBoundary =>
    rw [exec_slotBoundary] at h
    exact event_turns h (fun _ _ => s.slotTurns_aside.turns_of_acted s.slotTurns_acted)
  | noFlowHoldTime =>
    rw [exec_noFlowHoldTime] at h
    exact event_turns h (fun _ _ => s.firstNoFlowTest_aside.turns_of_acted s.firstNoFlowTest_acted)
  | strokeClockExpiry =>
    rw [exec_strokeClockExpiry] at h
    exact event_turns h (fun _ _ => s.strokeIntervalPasses_aside.turns_of_acted s.strokeIntervalPasses_acted)
  | intervalTimerExpiry =>
    rw [exec_intervalTimerExpiry] at h
    refine event_turns h (fun _ hd => (State.enterDue_steers ?_).turns_of_acted s.enterDue_acted)
    simp only [State.intervalOver, Bool.and_eq_true, beq_iff_eq] at hd
    exact hd.1.2
  | prebleedShort =>
    rw [exec_prebleedShort] at h
    exact event_turns h (fun _ hd => (State.prebleedShort_steers (cycle_of_phaseOver hd)).turns_of_acted
      ((s.raise_acted .prebleedShort).trans (State.enterClosing_acted _)))
  | doseTimeExpiry =>
    rw [exec_doseTimeExpiry] at h
    exact event_turns h (fun _ hd => (State.endDose_steers (cycle_of_phaseOver hd)).turns_of_acted s.endDose_acted)
  | contactTimeExpiry =>
    rw [exec_contactTimeExpiry] at h
    exact event_turns h (fun _ hd => (State.endContact_steers (cycle_of_phaseOver hd)).turns_of_acted s.endContact_acted)
  | readStation | readMeasure | readPool | readPeer | readCounter | readHistogram | readEvents | readBalance
  | readBiocide | readConfig | readResetCause | outOfRange =>
    cases h
    exact s.readRecord_turns _ _
  | unknownTransaction | readMailbox =>
    cases h
    exact (s.respond_aside _).steers.turns id
  | postCommand code argument =>
    rw [exec_postCommand] at h
    exact event_turns h (fun _ _ => ((s.respond_aside []).trans (State.arrive_aside _ code argument)).turns_of_acted
      ((s.respond_acted []).trans (State.arrive_acted _ code argument)))
  | acknowledge =>
    rw [exec_acknowledge] at h
    exact event_turns h (fun _ _ => State.takeCommand_turns
      (fun _ => s.acknowledge_aside.turns_of_acted s.acknowledge_acted))
  | biocideNow =>
    rw [exec_biocideNow] at h
    refine event_turns h (fun _ _ => State.takeCommand_turns (fun hr => ?_))
    refine (State.enterDue_steers ?_).turns_of_acted s.enterDue_acted
    simp only [State.biocideNowRefused, Bool.not_eq_eq_eq_not, Bool.not_false, Bool.and_eq_true, beq_iff_eq] at hr
    exact hr.1
  | hold =>
    rw [exec_hold] at h
    exact event_turns h (fun _ _ => State.takeCommand_turns State.takeHold_turns)
  | resume =>
    rw [exec_resume] at h
    refine event_turns h (fun _ _ => State.takeCommand_turns (fun hr => ?_))
    have hs : s.station.state = .hold := by simpa using hr
    exact s.enterListen_aside.steers.turns (fun _ => by rw [hs]; rfl)
  | clearCounters =>
    rw [exec_clearCounters] at h
    exact event_turns h (fun _ _ => s.takeClear_turns)
  | setMask =>
    rw [exec_setMask] at h
    exact event_turns h (fun _ _ => State.takeCommand_turns (fun _ =>
      (Aside.of_same (s := s) (t := s.setMask)).steers.turns id))
  | lineRestart =>
    rw [exec_lineRestart] at h
    exact event_turns h (fun _ _ => State.takeCommand_turns (fun _ =>
      s.lineRestart_aside.turns_of_lineAct s.lineRestart_lineAct))
  | restart straps =>
    rw [exec_restart] at h
    exact event_turns h (fun _ _ => s.restartCommand_turns straps)

/-- Every step keeps the dose and DISCHARGE as they have to be. -/
theorem step_turns (h : step s = .next t) : Turns s t := by
  obtain ⟨c, rest, -, hexec⟩ | ⟨-, rfl⟩ := step_cases h
  · obtain ⟨hdose, hsealed⟩ := exec_turns hexec
    exact ⟨fun hp hd => hdose hp ⟨hd.phases, hd.pump⟩, hsealed⟩
  · exact s.tick_aside.steers.turns (fun ht => by rwa [s.tick_station_state] at ht)

end

/-! ## The statements -/

/-- Settles O55, by the walk over the commands. -/
theorem dosePhasesAreHeldAlways : Obligations.DosePhasesAreHeldAlways := by
  rintro s t ⟨hp, hph, hpump⟩ hstep
  obtain ⟨h1, h2⟩ := (step_turns hstep).dose hp ⟨hph, hpump⟩
  exact ⟨h1, h2⟩

/-- Settles O60, by the walk over the commands. -/
theorem noBlowdownDuringTheDose : Obligations.NoBlowdownDuringTheDose := by
  rintro s t ⟨hs, hp, hph, -⟩ hstep
  exact (step_turns hstep).sealed hp hph hs

end Sys2Proof.Machine
end

section
/-! SUPPORT. The queue, time and the resets (sections "The queue, time, and the resets" and "START" of the obligations). -/

namespace Sys2Proof.Machine
open Sys2Proof

set_option Elab.async false

/-! ## The queue and time -/

/-- Settles O1: the command is taken from the queue before it runs. -/
theorem stepRunsFrontCommand : Obligations.StepRunsFrontCommand := by
  intro c rest s h
  simp only [step, h]

section
variable {s : State}

theorem State.step_of_empty (h : s.pending = []) : step s = .next s.tick := by simp only [step, h]

theorem State.tick_pending (s : State) : s.tick.pending = s.pending := by
  by_cases h : s.held = none
  · rw [State.tick_of_free h]
    simp only [State.tickWorking]
    split <;> rfl
  · rw [State.tick_of_held h]

theorem State.tick_freeIx (s : State) : s.tick.freeIx = s.freeIx := by
  by_cases h : s.held = none
  · rw [State.tick_of_free h]
    simp only [State.tickWorking]
    split <;> rfl
  · rw [State.tick_of_held h]

/-- R1, R25, R136: the three units whose timers run in the working states alone. -/
theorem State.tick_units (h : s.held = none) :
    (s.tick.bio, s.tick.demand, s.tick.meas) =
      if s.station.state.working then (s.bio.tick, s.demand.tick, s.meas.tick) else (s.bio, s.demand, s.meas) := by
  rw [State.tick_of_free h]
  simp only [State.tickWorking]
  split <;> rfl

theorem State.tick_units_of_working (h : s.held = none) (hw : s.station.state.working = true) :
    s.tick.bio = s.bio.tick ∧ s.tick.demand = s.demand.tick ∧ s.tick.meas = s.meas.tick := by
  simpa [hw] using State.tick_units h

theorem State.tick_units_of_not_working (h : s.held = none) (hw : s.station.state.working = false) :
    s.tick.bio = s.bio ∧ s.tick.demand = s.demand ∧ s.tick.meas = s.meas := by
  simpa [hw] using State.tick_units h

theorem upTo_eq (l n : Nat) : upTo l n = min l (n + 1) := by
  unfold upTo
  split <;> omega

theorem runOn_eq (l : Nat) (t : Option Nat) : runOn l t = t.map (fun n => min l (n + 1)) := by
  simp only [runOn, funext (upTo_eq l)]

theorem Measurement.tick_channel (m : Measurement) (c : Chan) : m.tick.channel c = (m.channel c).tick := by
  cases c <;> rfl

theorem ChannelRec.tick_eq (r : ChannelRec) : r.tick =
    { r with holdTimer := if r.state = .holding then min 60000 (r.holdTimer + 1) else r.holdTimer } := by
  unfold ChannelRec.tick
  split
  · rw [upTo_eq]
    rfl
  · rfl

theorem Engine.tick_eq (e : Engine) (m : Nat) : e.tick m = { e with
    phase := e.phase.map (fun n => min 2500 (n + 1)), maxRun := e.maxRun.map (fun n => min m (n + 1)),
    ageingClock := if e.state = .asking ∨ e.state = .confirming then min 4000 (e.ageingClock + 1) else e.ageingClock } := by
  simp only [Engine.tick, runOn_eq, upTo_eq]
  cases e.state <;> rfl

theorem Demand.tick_eq (q : Demand) : q.tick =
    { q with hhTimer := q.hhTimer.map (fun n => min 60000 (n + 1)), llTimer := q.llTimer.map (fun n => min 60000 (n + 1)) } := by
  simp only [Demand.tick, runOn_eq]
  rfl

theorem PeerEntry.tick_eq (e : PeerEntry) : e.tick = { e with age := min 20000 (e.age + 1) } := by
  simp only [PeerEntry.tick, upTo_eq]
  rfl

theorem Line.tick_eq (l : Line) : l.tick =
    { l with reportTimer := l.reportTimer.map (fun n => min 2000 (n + 1)),
             deliveryTimer := l.deliveryTimer.map (fun n => n + 1) } := by
  simp only [Line.tick, runOn_eq]
  rfl

theorem ValveRec.tick_eq (r : ValveRec) (n : Nat) : r.tick n = { r with timer := r.timer.map (fun k => min n (k + 1)) } := by
  simp only [ValveRec.tick, runOn_eq]

theorem Output.tick_eq (o : Output) (c : EffConfig) : o.tick c =
    { o with blowdown := o.blowdown.tick (c.confirmTime * 1000), makeup := o.makeup.tick (c.confirmTime * 1000),
             inhibitorPulse := o.inhibitorPulse.map (fun n => min 200 (n + 1)) } := by
  simp only [Output.tick, runOn_eq]
  rfl

theorem Feed.tick_eq (f : Feed) (c : EffConfig) : f.tick c =
    { f with slotClock := f.slotClock.map (fun n => min 5000 (n + 1)),
             noFlow := f.noFlow.map (fun w => { w with holdTime := min 60000 (w.holdTime + 1) }),
             strokeClock := f.strokeClock.map (fun n => min (c.strokeInterval * 1000) (n + 1)) } := by
  have hw : NoFlowWatch.tick = fun w => { w with holdTime := min 60000 (w.holdTime + 1) } := by
    funext w
    simp only [NoFlowWatch.tick, upTo_eq]
    rfl
  simp only [Feed.tick, runOn_eq, hw]
  rfl

theorem StartWork.tick_eq (w : StartWork) : w.tick =
    match w with
    | .retryWait n k => .retryWait n (min 5 (k + 1))
    | w => w := by
  cases w with
  | idle | attempt _ => rfl
  | retryWait n k =>
    simp only [StartWork.tick, upTo_eq]
    rfl

end

/-- Settles O2, by the tick of each unit. -/
theorem emptyQueueLetsOneMillisecondPass : Obligations.EmptyQueueLetsOneMillisecondPass := by
  intro s hp h
  have hfree := State.tick_of_free h
  have hengine p : s.tick.engine p = _ := (State.tick_engine h p).trans (Engine.tick_eq _ _)
  have hunits :
      s.tick.bio = { s.bio with phase := s.tick.bio.phase, interval := s.tick.bio.interval, overdue := s.tick.bio.overdue } ∧
      s.tick.demand = { s.demand with hhTimer := s.tick.demand.hhTimer, llTimer := s.tick.demand.llTimer } ∧
      (∀ c, s.tick.meas.channel c =
        { s.meas.channel c with holdTimer := (s.tick.meas.channel c).holdTimer }) ∧
      s.tick.meas.derived = s.meas.derived := by
    cases hw : s.station.state.working
    · obtain ⟨hb, hd, hm⟩ := State.tick_units_of_not_working h hw
      rw [hb, hd, hm]
      exact ⟨rfl, rfl, fun _ => rfl, rfl⟩
    · obtain ⟨hb, hd, hm⟩ := State.tick_units_of_working h hw
      rw [hb, hd, hm]
      exact ⟨rfl, rfl, fun c => by rw [Measurement.tick_channel, ChannelRec.tick_eq], rfl⟩
  obtain ⟨hbio, hdemand, hmeas, hderived⟩ := hunits
  refine ⟨s.tick, State.step_of_empty hp, ?_, (s.tick_pending).trans hp, s.tick_stats, s.tick_port, s.tick_freeIx,
    (s.tick_held).trans h, s.tick_station_state, by rw [hbio], fun p => ?_, ?_, fun hw => ?_, fun hw => ?_, ?_, ?_,
    fun v => ?_, ?_, ?_, fun p => ?_, hbio, hdemand, hmeas, hderived⟩
  · rw [hfree]
  · rw [hengine]
    exact ⟨rfl, rfl, rfl⟩
  · rw [hfree]
    exact congrArg (List.map · s.peers) (funext PeerEntry.tick_eq)
  · obtain ⟨hb, hd, hm⟩ := State.tick_units_of_working h hw
    rw [hb, hd, hm]
    refine ⟨rfl, rfl, rfl, by rw [Demand.tick_eq], by rw [Demand.tick_eq], runOn_eq _ _, fun c => ?_⟩
    rw [Measurement.tick_channel, ChannelRec.tick_eq]
  · obtain ⟨hb, hd, hm⟩ := State.tick_units_of_not_working h hw
    exact ⟨hb, hm, hd⟩
  · rw [hfree]
    exact s.line.tick_eq
  · rw [hfree]
    exact s.out.tick_eq _
  · rw [State.tick_valve h, ValveRec.tick_eq]
  · rw [hfree]
    exact s.feed.tick_eq _
  · rw [hfree]
    simp only [Station.tick, StartWork.tick_eq]
    rfl
  · rw [hengine]

/-! ## The resets -/

/-- Settles O3, field by field. -/
theorem resetStateIsColdAndSound : Obligations.ResetStateIsColdAndSound := by
  refine ⟨⟨rfl, rfl, rfl, rfl, fun c => ?_, fun p => ?_, rfl, rfl, rfl, rfl, rfl, fun v => ?_, rfl, rfl, rfl, rfl, rfl, rfl,
    rfl, rfl, rfl, rfl, rfl, rfl, rfl, rfl, rfl, rfl⟩, ⟨rfl, rfl⟩, fun _ p => ?_, fun v => ?_, fun _ hw => (nomatch hw),
    fun hc => (nomatch hc), fun hp => (nomatch hp), ?_, ?_, ?_, List.forall_mem_nil _, fun _ => rfl, fun p => ?_, fun p => ?_,
    fun _ => ?_, ?_, fun hw => (nomatch hw)⟩
  · cases c <;> exact ⟨rfl, rfl, rfl, rfl⟩
  · cases p <;> exact ⟨rfl, rfl, rfl⟩
  · cases v <;> exact ⟨rfl, rfl⟩
  · cases p <;> rfl
  · cases v <;> nofun
  · exact (boundsSound_iff State.reset).mp ⟨.cold, .cold, by decide, by decide, fun p => by cases p <;> decide⟩ |>.1
  · exact List.nodup_nil
  · exact ⟨.nil, List.forall_mem_nil _⟩
  · cases p <;> exact ⟨Nat.le_refl _, List.forall_mem_nil _, .inl rfl⟩
  · cases p <;> exact Nat.le_refl _
  · exact ⟨rfl, fun p => by cases p <;> exact ⟨rfl, rfl⟩⟩
  · exact ⟨fun _ ho => (nomatch ho), fun _ => rfl⟩

/-- Settles O4: the hold in reset, its lines as it leaves them. -/
theorem resetCauseClosesEverything : Obligations.ResetCauseClosesEverything := by
  intro cause s
  have hlines : (s.holdInReset cause).driveLines = s.holdInReset cause :=
    driveLines_of_linesFollow ⟨rfl, rfl⟩
  refine ⟨s.holdInReset cause, by rw [exec_heldInReset, hlines], rfl, fun v => ?_, fun v => ?_, rfl, rfl, rfl, rfl, rfl,
    rfl, rfl, rfl, rfl, rfl, rfl, rfl, rfl⟩
  · cases v <;> exact ⟨rfl, rfl, rfl⟩
  · cases v <;> exact ⟨rfl, rfl⟩

theorem State.readRecord_of_held {s : State} (h : s.held.isSome = true) (rec idx : Nat) :
    s.readRecord rec idx = s.respond [] := by
  simp only [State.readRecord, h, if_true]

/-- A held part takes no event. -/
theorem exec_of_held {s : State} (h : s.held ≠ none) {c : Instr} (hr : isReset c = false) (ht : isTransaction c = false) :
    exec c s = .next s := by
  cases c
  case coldReset | heldInReset => cases hr
  case readStation | readMeasure | readPool | readPeer | readCounter | readHistogram | readEvents | readBalance
    | readBiocide | readConfig | readResetCause | outOfRange | unknownTransaction | readMailbox => cases ht
  case configAttempt => rw [exec_configAttempt, quietEvent_of_held h]
  all_goals
    simp only [exec]
    exact event_of_held h

/-- Settles O5. -/
theorem heldPartAnswersNothing : Obligations.HeldPartAnswersNothing := by
  intro s c h hr
  refine ⟨fun ht => ?_, exec_of_held (Option.isSome_iff_ne_none.mp h) hr⟩
  cases c
  case readStation | readMeasure | readPool | readPeer | readCounter | readHistogram | readEvents | readBalance
    | readBiocide | readConfig | readResetCause | outOfRange => exact congrArg _ (State.readRecord_of_held h _ _)
  case unknownTransaction => rfl
  case readMailbox =>
    rw [exec_readMailbox, h]
    rfl
  all_goals cases ht

/-- R177: no flag, no attention. -/
theorem State.attention_of_clear {s : State} (hc : s.station.state ≠ .configFault) (hf : s.stats.flags = 0) :
    s.driveLines.port.attention = false := by
  simp [State.attentionLevel, hf, hc]

/-- Settles O6, by the two ways the straps can be read. -/
theorem coldResetStartsAnew : Obligations.ColdResetStartsAnew := by
  intro cause straps s
  refine ⟨_, exec_coldReset cause straps s, ?_⟩
  by_cases h : straps = 0
  · simp only [State.coldReset, State.readStraps, if_pos h]
    refine ⟨rfl, rfl, rfl, rfl, ?_, rfl, rfl, rfl, rfl, rfl, rfl, rfl, rfl, rfl, rfl, rfl, rfl, ?_, rfl, rfl,
      fun _ => ⟨rfl, rfl, rfl, rfl, rfl, rfl⟩, fun hn => absurd h hn⟩
    · cases cause <;> rfl
    · cases cause <;> rfl
  · simp only [State.coldReset, State.readStraps, if_neg h]
    refine ⟨rfl, rfl, rfl, rfl, ?_, rfl, rfl, rfl, rfl, rfl, rfl, rfl, rfl, rfl, rfl, rfl, rfl, ?_, rfl, rfl,
      fun hn => absurd hn h, fun _ => ⟨rfl, rfl, rfl, rfl, rfl, State.attention_of_clear nofun rfl⟩⟩
    · cases cause <;> rfl
    · cases cause <;> rfl

end Sys2Proof.Machine
end

section
/-! SUPPORT. START: an attempt that fails, and the range of every effective configuration (R159 to R164). -/

namespace Sys2Proof.Machine
open Sys2Proof

set_option Elab.async false

/-! ## A failed attempt -/

/-- R159: the acts on the lines of an attempt, by what the memory acknowledges. -/
theorem busShows_imageTransaction (m : MemoryAnswer) : BusShows m (imageTransaction m) := by
  have hw : addressByte false = 0xA0 := by decide
  have hr : addressByte true = 0xA1 := by decide
  have ho : Config.imageOffset = 0x00 := rfl
  refine ⟨fun h1 => ?_, fun h1 h2 => ?_, fun h1 h2 h3 => ?_, fun ⟨h1, h2, h3⟩ => ?_⟩
  · simp [imageTransaction, h1, hw]
  · simp [imageTransaction, h1, h2, hw, ho]
  · simp [imageTransaction, h1, h2, h3, hw, hr, ho]
  · simp [imageTransaction, h1, h2, h3, hw, hr, ho, receiveActs_eq]

theorem attemptFault_of_failsWith {m : MemoryAnswer} {r : FaultReason} (h : FailsWith m r) : attemptFault m = some r := by
  obtain ⟨hn, rfl⟩ | ⟨ha, h⟩ := h
  · rw [attemptFault, if_neg (fun hm => hn ((memoryAnswers_iff m).mp hm))]
  · rw [attemptFault_of_answers ha]
    obtain ⟨h0, rfl⟩ | ⟨h0, h1, rfl⟩ | ⟨h0, h1, hc, rfl⟩ := h
    · exact if_pos h0
    · rw [imageFault, if_neg (not_not_intro h0)]
      exact if_pos h1
    · rw [imageFault, if_neg (not_not_intro h0), if_neg (not_not_intro h1)]
      exact if_pos hc

section
variable {s : State}

theorem State.attempt_of_work (hs : s.station.state = .start) {n : Nat} (hw : s.station.work = .attempt n) :
    s.attempt = some n := by
  simp only [State.attempt, hs, hw]

/-- The end of an attempt that fails, in an attempt event. -/
theorem exec_configAttempt_of_fails (hh : s.held = none) (hs : s.station.state = .start) {n : Nat}
    (hw : s.station.work = .attempt n) {m : MemoryAnswer} {r : FaultReason} (hf : FailsWith m r) (i : StartInputs) :
    exec (.configAttempt m i) s = .next
      ({ s with station := { s.station with bus := imageTransaction m } }.attemptFails n r).driveLines := by
  have hl (u : State) (hu : u.stats = s.stats) : (u.attemptFails n r).nameLast s = u.attemptFails n r := by
    refine State.nameLast_of_same ?_
    rw [← hu]
    simp only [State.attemptFails]
    split <;> rfl
  have ha := State.attempt_of_work hs hw
  rw [exec_configAttempt, quietEvent_of_due hh (by rw [ha]; rfl)]
  simp only [State.attemptEnds, attemptFault_of_failsWith hf, ha, Option.getD_some]
  exact congrArg (fun t : State => Host.Outcome.next t.driveLines) (hl _ rfl)

end

/-- Settles O7, by the number of the attempt. -/
theorem failedAttemptWaitsOrFaults : Obligations.FailedAttemptWaitsOrFaults := by
  refine ⟨busShows_imageTransaction, fun answer i n w reason s ⟨hh, hl⟩ hs =>
    ⟨fun hw hf hn => ?_, fun hw hle => ?_, fun hw hf hn => ?_⟩⟩
  · rw [exec_configAttempt_of_fails hh hs hw hf]
    simp only [State.attemptFails, show n < Config.maxAttempts from hn, if_true]
    exact congrArg _ (driveLines_of_linesFollow hl)
  · have hd : s.retryOver = true := by
      simp only [State.retryOver, hs, hw]
      exact decide_eq_true hle
    rw [exec_configRetryDelay, event_of_due hh hd]
    simp only [State.nextAttempt, hw]
    refine congrArg Host.Outcome.next (Eq.trans (finish_of_same rfl rfl rfl rfl rfl rfl ?_) (driveLines_of_linesFollow ?_))
    · exact State.nameLast_of_same rfl
    · exact hl
  · rw [exec_configAttempt_of_fails hh hs hw hf]
    simp only [State.attemptFails, show ¬ n < Config.maxAttempts from Nat.not_lt.mpr hn, if_false]
    simp [State.enterConfigFault, State.occur, State.driveLines, State.relayLevel, State.attentionLevel, hh]

/-! ## The effective configuration (R161, R162, R35) -/

theorem repairLevelBand_eq {c : EffConfig} (h : c.lOn ≤ 1000) : repairLevelBand c =
    { c with lOn := if c.lOff ≤ c.lOn then min 999 c.lOn else c.lOn,
             lOff := if c.lOff ≤ c.lOn then min 1000 (c.lOn + 1) else c.lOff } := by
  unfold repairLevelBand
  split
  · split
    · next h1 => rw [h1]; rfl
    · rw [Nat.min_eq_right (by omega), Nat.min_eq_right (by omega)]
  · rfl

theorem repairDeadband_eq (c : EffConfig) : repairDeadband c = { c with db := min c.db c.sp } := by
  unfold repairDeadband
  split
  · next h => rw [Nat.min_eq_right (Nat.le_of_lt h)]
  · next h => rw [Nat.min_eq_left (Nat.le_of_not_lt h)]

theorem ImageField.value_mem {f : ImageField} (h : f.lo ≤ f.hi) (b : List Byte) :
    f.lo ≤ f.value b ∧ f.value b ≤ f.hi := by
  unfold ImageField.value
  rw [clampNat_eq_max_min h]
  omega

/-- The effective configuration: the clamped fields but for the repairs. -/
theorem effectiveConfig_eq (b : List Byte) : effectiveConfig b =
    { clampedConfig b with
      enableCb := true
      lOn := if imgLOff.value b ≤ imgLOn.value b then min 999 (imgLOn.value b) else imgLOn.value b
      lOff := if imgLOff.value b ≤ imgLOn.value b then min 1000 (imgLOn.value b + 1) else imgLOff.value b
      db := min (imgDb.value b) (imgSp.value b)
      amountDischarge := min (imgAmountDischarge.value b) (imgCapDischarge.value b)
      amountSupply := min (imgAmountSupply.value b) (imgCapSupply.value b)
      amountBiocide := min (imgUnits.value b) (imgCapBiocide.value b) } := by
  have h : (repairCb (clampedConfig b)).lOn ≤ 1000 := (ImageField.value_mem (f := imgLOn) (by decide) b).2
  rw [effectiveConfig, repairLevelBand_eq h, repairDeadband_eq]
  rfl

/-- Settles O9, by the range of each field and the repairs. -/
theorem effectiveConfigurationIsInRange : Obligations.EffectiveConfigurationIsInRange := by
  intro b
  have hv (f : ImageField) (h : f.lo ≤ f.hi) := ImageField.value_mem h b
  have hon := hv imgLOn (by decide)
  have hoff := hv imgLOff (by decide)
  have hdb := hv imgDb (by decide)
  have hsp := hv imgSp (by decide)
  have hamount : ∀ p, 1 ≤ (effectiveConfig b).amount p := by
    intro p
    rw [effectiveConfig_eq]
    cases p
    · exact Nat.le_min.mpr ⟨(hv imgAmountDischarge (by decide)).1, Nat.le_trans (by decide) (hv imgCapDischarge (by decide)).1⟩
    · exact Nat.le_min.mpr ⟨(hv imgAmountSupply (by decide)).1, Nat.le_trans (by decide) (hv imgCapSupply (by decide)).1⟩
    · exact Nat.le_min.mpr ⟨(hv imgUnits (by decide)).1, (hv imgCapBiocide (by decide)).1⟩
  have hcap := effectiveConfig_amount_le_cap b
  have hlevel : (effectiveConfig b).lOn < (effectiveConfig b).lOff ∧ (effectiveConfig b).lOff ≤ 1000 := by
    have h1 : imgLOn.value b ≤ 1000 := hon.2
    have h2 : imgLOff.value b ≤ 1000 := hoff.2
    rw [effectiveConfig_eq]
    dsimp only
    split <;> omega
  dsimp only
  rw [effectiveConfig_eq] at hamount hcap hlevel ⊢
  exact ⟨rfl, hv imgFsB (by decide), hv imgFsM (by decide), hv imgAlpha (by decide), hsp,
    ⟨Nat.le_min.mpr ⟨hdb.1, Nat.le_trans (by decide) hsp.1⟩, Nat.le_trans (Nat.min_le_left _ _) hdb.2, Nat.min_le_right _ _⟩,
    hv imgHh (by decide), hv imgCyclesSp (by decide), hv imgCyclesDb (by decide), hlevel, (hv imgLl (by decide)).2,
    hv imgKM (by decide), hv imgKB (by decide), hv imgDebounce (by decide), hv imgMilli (by decide),
    hv imgStrokeInterval (by decide), hv imgBiocideInterval (by decide), (hv imgPrebleedDrop (by decide)).2,
    hv imgPrebleedLimit (by decide), hv imgDoseTime (by decide), hv imgContactTime (by decide),
    hv imgCapDischarge (by decide), hv imgCapSupply (by decide), hv imgCapBiocide (by decide),
    fun p => ⟨hamount p, hcap p⟩, hv imgMaxRunDischarge (by decide), hv imgMaxRunSupply (by decide),
    hv imgConfirm (by decide), hv imgTolerance (by decide), hv imgBalanceInterval (by decide)⟩

end Sys2Proof.Machine
end

section
/-! SUPPORT. What an event ends with, by its triggers (R90, R117, R173, R177): the reports of its outcome and the two lines. -/

namespace Sys2Proof.Machine
open Sys2Proof

set_option Elab.async false

/-! ## Counters and the last counter field -/

section
variable {b s t : State}

theorem Stats.count_counter_of_ne (t : Stats) {c d : Counter} (n : Nat) (h : d.number ≠ c.number) :
    (t.count c n).counter d = t.counter d := by
  have hd := Counter.number_bounds d
  have hc := Counter.number_bounds c
  simp only [Stats.counter, Stats.counterAt, Stats.count_counters]
  rw [List.getD_eq_getElem?_getD, List.getElem?_set_ne (by omega)]
  rw [← List.getD_eq_getElem?_getD]

/-- A count changes the counters, two flags and the last counter field. -/
theorem Stats.count_lists (t : Stats) (c : Counter) (n : Nat) : (t.count c n).alarms = t.alarms ∧
    (t.count c n).histogram = t.histogram ∧ (t.count c n).mask = t.mask := by
  simp only [Stats.count]
  (repeat' split) <;> exact ⟨rfl, rfl, rfl⟩

@[simp] theorem State.count_alarms (s : State) (c : Counter) (n : Nat) : (s.count c n).stats.alarms = s.stats.alarms :=
  (s.stats.count_lists c n).1
@[simp] theorem State.count_histogram (s : State) (c : Counter) (n : Nat) :
    (s.count c n).stats.histogram = s.stats.histogram := (s.stats.count_lists c n).2.1
@[simp] theorem State.count_mask (s : State) (c : Counter) (n : Nat) : (s.count c n).stats.mask = s.stats.mask :=
  (s.stats.count_lists c n).2.2
@[simp] theorem State.recordWait_alarms (s : State) (p : Pool) (n : Nat) :
    (s.recordWait p n).stats.alarms = s.stats.alarms := rfl
@[simp] theorem State.recordWait_counters (s : State) (p : Pool) (n : Nat) :
    (s.recordWait p n).stats.counters = s.stats.counters := rfl
@[simp] theorem State.recordWait_flags (s : State) (p : Pool) (n : Nat) :
    (s.recordWait p n).stats.flags = s.stats.flags := rfl

/-- Composing counts reports superseded alone. -/
theorem State.composeReports_counter (s : State) (n : Nat) {c : Counter} (h : c.number ≠ Counter.reportsSuperseded.number) :
    (s.composeReports n).stats.counter c = s.stats.counter c := by
  induction n generalizing s with
  | zero => rfl
  | succ n ih =>
    rw [State.composeReports_succ, ih]
    simp only [State.composeReport, State.placeFrame]
    (repeat' split)
    · exact s.stats.count_counter_of_ne 1 h
    · rfl
    · rfl

/-- An event that counts nothing but what its reports supersede names no counter. -/
theorem State.nameLast_composeReports_of_same (h : s.stats.counters = b.stats.counters) (n : Nat) :
    (s.composeReports n).nameLast b = s.composeReports n := by
  refine State.nameLast_of_group [.reportsDelivered, .reportsLost, .framesReceived, .framesDamaged, .framesForeign,
    .receiveOverruns, .reportsSuperseded] (fun k hk hne c hc => ?_)
  have hnumber : ∀ k ∈ Counter.groups, k ≠ [.reportsDelivered, .reportsLost, .framesReceived, .framesDamaged,
      .framesForeign, .receiveOverruns, .reportsSuperseded] → ∀ c ∈ k, c.number ≠ Counter.reportsSuperseded.number := by
    decide
  rw [State.composeReports_counter s n (hnumber k hk hne c hc)]
  simp only [Stats.counter, Stats.counterAt, h]

theorem State.toldAfter_of_same (h : s.stats.counters = b.stats.counters) (n : Nat) : s.toldAfter b n = s.toldTimes n := by
  rw [State.toldAfter, State.nameLast_composeReports_of_same h, State.toldTimes]

theorem State.toldTimes_zero (s : State) : s.toldTimes 0 = s.driveLines := rfl
theorem State.toldTimes_one (s : State) : s.toldTimes 1 = s.told := rfl

/-! ## The end of an event -/

/-- An event in which the closing test acts on nothing and no valve fault ends: its triggers' reports and the lines. -/
theorem finish_eq_toldAfter (ht : closingTestDue b s = true → s.closingTest = s) (hv : b.valveFault = true → s.valveFault = true) :
    State.finish b s = s.toldAfter b (reportTriggers b s) := by
  have hcalm : s.calmValveFault b = s := by
    simp only [State.calmValveFault]
    cases hb : b.valveFault <;> simp_all
  have htest : (if closingTestDue b s = true then s.closingTest else s) = s := by
    split
    · next h => exact ht h
    · rfl
  simp only [State.finish, htest, hcalm]
  rfl

/-- The same where nothing is counted. -/
theorem finish_eq_toldTimes (ht : closingTestDue b s = true → s.closingTest = s) (hv : b.valveFault = true → s.valveFault = true)
    (hc : s.stats.counters = b.stats.counters) : State.finish b s = s.toldTimes (reportTriggers b s) := by
  rw [finish_eq_toldAfter ht hv, State.toldAfter_of_same hc]

theorem closingTestDue_of_not_closing (h : s.bio.cycle ≠ .closing) : closingTestDue b s = false := by
  simp [closingTestDue, h]

/-- R145: the test does nothing while DISCHARGE waits, holds or releases. -/
theorem State.closingTest_of_busy (h : (s.engine .discharge).state.passive = false ∨
    (s.engine .discharge).state = .releasing) : s.closingTest = s := by
  simp only [State.closingTest]
  cases he : (s.engine .discharge).state with
  | asking | confirming | holding | releasing => rfl
  | rest | stuck | locked => rw [he] at h; rcases h with h | h <;> cases h

theorem closingTestDue_of_same (hc : s.bio.cycle = b.bio.cycle)
    (he : (s.engine .discharge).state = (b.engine .discharge).state) : closingTestDue b s = false := by
  simp [closingTestDue, hc, he]

theorem engineDiffers_eq_false {p : Pool} (h : (s.engine p).state = (b.engine p).state) : engineDiffers b s p = false := by
  simp [engineDiffers, h]

theorem engineDiffers_eq_true {p : Pool} (h : (s.engine p).state ≠ (b.engine p).state) : engineDiffers b s p = true := by
  simp [engineDiffers, Ne.symm h]

/-- The triggers where at most one engine changes its state. -/
theorem reportTriggers_of_pool (p : Pool) (he : ∀ q, q ≠ p → (s.engine q).state = (b.engine q).state) :
    reportTriggers b s =
      (engineDiffers b s p).toNat + (b.bio.cycle != s.bio.cycle).toNat + (alarmSummaryDiffers b s).toNat := by
  have h q (hq : q ≠ p) := engineDiffers_eq_false (he q hq)
  unfold reportTriggers
  cases p
  · rw [h .supply (by decide), h .biocide (by decide)]; rfl
  · rw [h .discharge (by decide), h .biocide (by decide), Bool.toNat_false, Nat.zero_add, Nat.add_zero]
  · rw [h .discharge (by decide), h .supply (by decide), Bool.toNat_false, Nat.zero_add]

theorem alarmSummaryDiffers_eq_false_iff : alarmSummaryDiffers b s = false ↔
    s.alarmCondition = b.alarmCondition ∧ s.faultSummary = b.faultSummary := by
  rw [alarmSummaryDiffers, Bool.or_eq_false_iff, bne_eq_false_iff_eq, bne_eq_false_iff_eq]
  exact and_congr eq_comm eq_comm

theorem State.valveFault_of_engines (h : ∀ p, (s.engine p).valveFault = (b.engine p).valveFault) :
    s.valveFault = b.valveFault := by
  have hd : s.claim.discharge.valveFault = b.claim.discharge.valveFault := h .discharge
  have hs : s.claim.supply.valveFault = b.claim.supply.valveFault := h .supply
  simp only [State.valveFault, hd, hs]

/-- The summary with the alarm list, the channels' faults, the valve faults and the feed's two marks as they were. -/
theorem alarmSummaryDiffers_of_same (ha : s.stats.alarms = b.stats.alarms) (hv : s.valveFault = b.valveFault)
    (hm : s.meas.probeFault = b.meas.probeFault := by rfl) (hf : s.feed.mismatch = b.feed.mismatch := by rfl)
    (hb : s.feed.backlog = b.feed.backlog := by rfl) : alarmSummaryDiffers b s = false := by
  refine alarmSummaryDiffers_eq_false_iff.mpr ⟨?_, ?_⟩
  · simp only [State.alarmCondition, ha]
  · simp only [State.faultSummary, hm, hv, hf, hb]

/-- An occurrence is unacknowledged: the alarm condition holds (R178). -/
theorem latchAlarm_any_unack (l : List AlarmEntry) (k : AlarmKind) : (latchAlarm l k).any (fun e => e.unack) = true := by
  by_cases h : k ∈ l.map AlarmEntry.kind
  · rw [latchAlarm_of_mem h]
    obtain ⟨e, he, hk⟩ := List.mem_map.mp h
    refine List.any_eq_true.mpr ⟨_, List.mem_map_of_mem he, ?_⟩
    rw [AlarmEntry.onKind_self hk]
    rfl
  · rw [latchAlarm_of_not_mem h, List.any_append]
    exact Bool.or_eq_true_iff.mpr (.inr rfl)

theorem State.occur_alarmCondition (s : State) (k : AlarmKind) : (s.occur k).alarmCondition = true :=
  latchAlarm_any_unack _ k

/-- An event that changes no engine state and no cycle state, and counts nothing: a report where the alarm summary changes. -/
theorem finish_of_summary (he : ∀ p, (s.engine p).state = (b.engine p).state) (hc : s.bio.cycle = b.bio.cycle)
    (hv : s.valveFault = b.valveFault) (hn : s.stats.counters = b.stats.counters) :
    State.finish b s = if alarmSummaryDiffers b s then s.told else s.driveLines := by
  rw [finish_eq_toldTimes (fun h => by cases (closingTestDue_of_same hc (he _)).symm.trans h) (by rw [hv]; exact id) hn,
    reportTriggers_of_pool .discharge (fun q _ => he q), engineDiffers_eq_false (he _), hc, bne_self_eq_false]
  cases alarmSummaryDiffers b s
  · rfl
  · rfl

/-- An event in which one engine changes its state, and neither the cycle nor the alarm summary: one report. In CLOSING the
engine of DISCHARGE is one the closing test leaves. -/
theorem finish_of_pool (p : Pool) (he : ∀ q, q ≠ p → s.engine q = b.engine q)
    (hp : (s.engine p).state ≠ (b.engine p).state) (hv : (s.engine p).valveFault = (b.engine p).valveFault)
    (hc : s.bio.cycle = b.bio.cycle)
    (hd : p = .discharge → s.bio.cycle = .closing →
      (s.engine .discharge).state.passive = false ∨ (s.engine .discharge).state = .releasing)
    (ha : s.stats.alarms = b.stats.alarms) (hm : s.meas = b.meas) (hf : s.feed.mismatch = b.feed.mismatch)
    (hb : s.feed.backlog = b.feed.backlog) : State.finish b s = s.toldAfter b 1 := by
  have hvf : s.valveFault = b.valveFault := by
    refine State.valveFault_of_engines (fun q => ?_)
    by_cases hq : q = p
    · rw [hq, hv]
    · rw [he q hq]
  have ht : closingTestDue b s = true → s.closingTest = s := by
    intro h
    by_cases hpd : p = .discharge
    · by_cases hcl : s.bio.cycle = .closing
      · exact State.closingTest_of_busy (hd hpd hcl)
      · cases (closingTestDue_of_not_closing hcl).symm.trans h
    · cases (closingTestDue_of_same hc (by rw [he _ (Ne.symm hpd)])).symm.trans h
  rw [finish_eq_toldAfter ht (by rw [hvf]; exact id), reportTriggers_of_pool p (fun q hq => by rw [he q hq]),
    engineDiffers_eq_true hp, hc, bne_self_eq_false, alarmSummaryDiffers_of_same ha hvf (by rw [hm]) hf hb]
  rfl

/-! ## What the end of an event leaves -/

/-- The state of an event's end after the closing test (R145). -/
def State.tested (s b : State) : State := if closingTestDue b s then s.closingTest else s

theorem State.tested_of_not_due (h : closingTestDue b s = false) : s.tested b = s := by
  simp only [State.tested, h, Bool.false_eq_true, if_false]

theorem State.tested_of_due (h : closingTestDue b s = true) : s.tested b = s.closingTest := by
  simp only [State.tested, h, if_true]

theorem State.calmValveFault_eq (s b : State) : s.calmValveFault b =
    { s with stats := { s.stats with alarms := (s.calmValveFault b).stats.alarms } } := by
  simp only [State.calmValveFault]
  split <;> rfl

theorem State.toldAfter_eq (s b : State) (n : Nat) : s.toldAfter b n =
    { s with
      freeIx := (s.toldAfter b n).freeIx
      line := { s.line with onLine := (s.toldAfter b n).line.onLine, nextSlot := (s.toldAfter b n).line.nextSlot }
      out := { s.out with relay := (s.toldAfter b n).out.relay }
      port := { s.port with attention := (s.toldAfter b n).port.attention }
      stats := { s.stats with counters := (s.toldAfter b n).stats.counters, flags := (s.toldAfter b n).stats.flags,
                              lastCounter := (s.toldAfter b n).stats.lastCounter } } := by
  have hs := s.composeReports_slotsOnly n
  have hl := (s.composeReports n).nameLast_eq b
  unfold State.toldAfter
  generalize s.composeReports n = u at hs hl ⊢
  rw [hl]
  unfold SlotsOnly at hs
  rw [hs]
  rfl

/-- After the closing test an event's end changes the free values, the two slots, the two lines and the statistics. -/
theorem finish_eq (b s : State) : State.finish b s =
    { s.tested b with
      freeIx := (State.finish b s).freeIx
      line := { (s.tested b).line with onLine := (State.finish b s).line.onLine, nextSlot := (State.finish b s).line.nextSlot }
      out := { (s.tested b).out with relay := (State.finish b s).out.relay }
      port := { (s.tested b).port with attention := (State.finish b s).port.attention }
      stats := { (s.tested b).stats with
        alarms := (State.finish b s).stats.alarms, counters := (State.finish b s).stats.counters,
        flags := (State.finish b s).stats.flags, lastCounter := (State.finish b s).stats.lastCounter } } := by
  have h : State.finish b s = ((s.tested b).calmValveFault b).toldAfter b (reportTriggers b ((s.tested b).calmValveFault b)) :=
    rfl
  rw [h, State.toldAfter_eq, State.calmValveFault_eq]

theorem finish_claim (b s : State) : (State.finish b s).claim = (s.tested b).claim := by rw [finish_eq]
theorem finish_bio (b s : State) : (State.finish b s).bio = (s.tested b).bio := by rw [finish_eq]
theorem finish_demand (b s : State) : (State.finish b s).demand = (s.tested b).demand := by rw [finish_eq]
theorem finish_feed (b s : State) : (State.finish b s).feed = (s.tested b).feed := by rw [finish_eq]
theorem finish_histogram (b s : State) : (State.finish b s).stats.histogram = (s.tested b).stats.histogram := by
  rw [finish_eq]
theorem finish_mask (b s : State) : (State.finish b s).stats.mask = (s.tested b).stats.mask := by rw [finish_eq]
theorem finish_pump (b s : State) : (State.finish b s).out.biocidePump = (s.tested b).out.biocidePump := by
  rw [finish_eq]
theorem finish_inhibitorPulse (b s : State) :
    (State.finish b s).out.inhibitorPulse = (s.tested b).out.inhibitorPulse := by rw [finish_eq]
theorem finish_engine (b s : State) (p : Pool) : (State.finish b s).engine p = (s.tested b).engine p := by
  cases p <;> simp only [State.engine, finish_claim]
theorem finish_valve (b s : State) (v : Valve) : (State.finish b s).valve v = (s.tested b).valve v := by
  rw [finish_eq]
  cases v <;> rfl

end

end Sys2Proof.Machine
end

section
/-! SUPPORT. The alarm delays (R5, R25, R30) and the claim engine's timers (R38, R44 to R46). -/

namespace Sys2Proof.Machine
open Sys2Proof

set_option Elab.async false

section
variable {b s t : State}

theorem LinesFollow.setEngine (h : LinesFollow s) (p : Pool) (e : Engine) : LinesFollow (s.setEngine p e) := by
  cases p <;> exact h

/-- An event that changes no state of R90's and counts nothing ends with the lines. -/
theorem finish_of_quiet (he : ∀ p, (s.engine p).state = (b.engine p).state) (hc : s.bio.cycle = b.bio.cycle)
    (hv : s.valveFault = b.valveFault) (ha : s.stats.alarms = b.stats.alarms)
    (hn : s.stats.counters = b.stats.counters) (hm : s.meas.probeFault = b.meas.probeFault)
    (hf : s.feed.mismatch = b.feed.mismatch) (hb : s.feed.backlog = b.feed.backlog) :
    State.finish b s = s.driveLines := by
  rw [finish_of_summary he hc hv hn, alarmSummaryDiffers_of_same ha hv hm hf hb]
  rfl

/-! ## Delays (R5, R25, R30) -/

theorem Measurement.channel_setChannel (m : Measurement) (c : Chan) (r : ChannelRec) : (m.setChannel c r).channel c = r := by
  cases c <;> rfl

theorem Measurement.probeFault_iff (m : Measurement) : m.probeFault = true ↔ ∃ c, (m.channel c).state = .fault := by
  simp only [Measurement.probeFault, Bool.or_eq_true, beq_iff_eq]
  constructor
  · rintro ((((h | h) | h) | h) | h)
    · exact ⟨.cb, h⟩
    · exact ⟨.tb, h⟩
    · exact ⟨.cm, h⟩
    · exact ⟨.tm, h⟩
    · exact ⟨.lv, h⟩
  · rintro ⟨c, h⟩
    cases c
    · exact .inl (.inl (.inl (.inl h)))
    · exact .inl (.inl (.inl (.inr h)))
    · exact .inl (.inl (.inr h))
    · exact .inl (.inr h)
    · exact .inr h

/-- An occurrence with nothing else that R90 names but the probe-fault mark: a report unless both stood before. -/
theorem finish_of_occur {u : State} (k : AlarmKind) (he : ∀ p, u.engine p = s.engine p) (hc : u.bio.cycle = s.bio.cycle)
    (hn : u.stats.counters = s.stats.counters) (hf : u.feed.mismatch = s.feed.mismatch)
    (hb : u.feed.backlog = s.feed.backlog) :
    State.finish s (u.occur k) = if s.alarmCondition ∧ s.meas.probeFault = u.meas.probeFault then (u.occur k).driveLines
      else (u.occur k).told := by
  have heng p : (u.occur k).engine p = s.engine p := (he p : _)
  have hvf : (u.occur k).valveFault = s.valveFault :=
    State.valveFault_of_engines (fun p => by rw [heng])
  have hfault : (u.occur k).faultSummary = { s.faultSummary with probe := u.meas.probeFault } := by
    simp only [State.faultSummary, hvf]
    rw [State.occur_feed, hf, hb]
    rfl
  have hd : alarmSummaryDiffers s (u.occur k) = false ↔
      s.alarmCondition = true ∧ s.meas.probeFault = u.meas.probeFault := by
    rw [alarmSummaryDiffers_eq_false_iff, hfault, State.occur_alarmCondition]
    constructor
    · rintro ⟨h1, h2⟩
      exact ⟨h1.symm, (congrArg FaultSummary.probe h2).symm⟩
    · rintro ⟨h1, h2⟩
      exact ⟨h1.symm, by rw [← h2]; rfl⟩
  rw [finish_of_summary (b := s) (s := u.occur k) (fun p => by rw [heng]) hc hvf hn]
  by_cases h : s.alarmCondition = true ∧ s.meas.probeFault = u.meas.probeFault
  · rw [hd.mpr h, if_pos h]
    rfl
  · rw [if_neg h, if_pos]
    cases hx : alarmSummaryDiffers s (u.occur k)
    · exact absurd (hd.mp hx) h
    · rfl

/-- An occurrence with nothing else that R90 names. -/
theorem finish_of_occur_alone {u : State} (k : AlarmKind) (he : ∀ p, u.engine p = s.engine p)
    (hc : u.bio.cycle = s.bio.cycle) (hn : u.stats.counters = s.stats.counters) (hf : u.feed = s.feed)
    (hm : u.meas = s.meas) :
    State.finish s (u.occur k) = if s.alarmCondition then (u.occur k).driveLines else (u.occur k).told := by
  rw [finish_of_occur k he hc hn (by rw [hf]) (by rw [hf]), hm]
  simp only [and_true]

/-- R5: a channel in FAULT makes the probe-fault mark. -/
theorem Measurement.probeFault_setChannel (m : Measurement) (c : Chan) {r : ChannelRec} (h : r.state = .fault) :
    (m.setChannel c r).probeFault = true :=
  (Measurement.probeFault_iff _).mpr ⟨c, by rw [Measurement.channel_setChannel]; exact h⟩

end

/-- Settles O14: each delay ends in an occurrence. -/
theorem delaysLatchTheirAlarms : Obligations.DelaysLatchTheirAlarms := by
  refine ⟨fun c s ⟨hh, _⟩ hs ht => ?_, fun s ⟨hh, _⟩ => ⟨fun hr hc => ?_, fun hr hc => ?_⟩⟩
  · have hd : (s.meas.channel c).holdOver = true := by
      simp only [ChannelRec.holdOver, hs, Bool.and_eq_true]
      exact ⟨rfl, decide_eq_true ht⟩
    have hp := s.meas.probeFault_setChannel c
      (r := { s.meas.channel c with state := .fault, recovery := 0, holdTimer := 0 }) rfl
    have hf := finish_of_occur (s := s) (u := { s with meas := (s.meas.setChannel c
      { s.meas.channel c with state := .fault, recovery := 0, holdTimer := 0 }) }.raise .probeFault) .probeFault
      (fun p => by cases p <;> rfl) rfl rfl rfl rfl
    rw [State.raise_meas, hp] at hf
    rw [exec_holdTimerExpiry, event_of_due hh hd, State.probeFails]
    exact congrArg Host.Outcome.next hf
  · have hd : (reached Config.alarmDelay s.demand.hhTimer && !s.demand.hhCondition) = true := by
      rw [hc, Bool.not_false, Bool.and_true]
      exact hr
    intro u
    rw [exec_hhTimerExpiry, event_of_due hh hd, State.hhExpires]
    have hf := finish_of_occur_alone (s := s)
      (u := { s with demand := { s.demand with hhCondition := true } }.raise .highConductivity) .highConductivity
      (fun p => by cases p <;> rfl) rfl rfl rfl rfl
    rw [hf]
  · have hd : (reached Config.alarmDelay s.demand.llTimer && !s.demand.llCondition) = true := by
      rw [hc, Bool.not_false, Bool.and_true]
      exact hr
    intro u
    rw [exec_llTimerExpiry, event_of_due hh hd, State.llExpires]
    have hf := finish_of_occur_alone (s := s)
      (u := { s with demand := { s.demand with llCondition := true } }.raise .lowLevel) .lowLevel
      (fun p => by cases p <;> rfl) rfl rfl rfl rfl
    rw [hf]

/-! ## Asking and confirming (R38, R44 to R46) -/

section
variable {s t : State} {p : Pool}

/-- What an engine's fit depends on: its state, amount, ranked urgency and effective cap, the peers and the number. -/
theorem State.fits_congr (he : (t.engine p).state = (s.engine p).state) (ha : (t.engine p).amount = (s.engine p).amount)
    (hu : (t.engine p).reportedUrgency = (s.engine p).reportedUrgency) (hc : (t.engine p).effCap = (s.engine p).effCap)
    (hp : t.peers = s.peers) (hn : t.station = s.station) : t.fits p = s.fits p := by
  have hm st : t.members p st = s.members p st := by
    simp only [State.members, State.ownMember, he, ha, hu, hp, hn]
  simp only [State.fits, State.fitsIn, State.headroomAsking, State.headroomConfirming, State.headroomHolding, State.sumU,
    hm, he, hc, hp, hn]

theorem Engine.valveFault_of_waiting {e : Engine} (h : e.state = .asking ∨ e.state = .confirming ∨ e.state = .holding) :
    e.valveFault = false := by
  rcases h with h | h | h <;> simp [Engine.valveFault, h]

/-- R44: the end of the ask window, with the mark set and the timer stopped. -/
theorem State.askExpires_eq (h : (s.engine p).state = .asking) : s.askExpires p =
    s.setEngine p (if s.fits p then { s.engine p with state := .confirming, windowExpired := false, phase := some 0,
                                                      heldUrgency := min 255 ((s.engine p).base + (s.engine p).ageing) }
      else { s.engine p with windowExpired := true, phase := none }) := by
  have hfits : (s.setEngine p { s.engine p with windowExpired := true, phase := none }).fits p = s.fits p := by
    refine State.fits_congr ?_ ?_ ?_ ?_ (by simp) (by simp)
    all_goals rw [State.engine_setEngine]
    simp only [Engine.reportedUrgency, h]
    rfl
  have heval (u : State) (hu : (u.engine p).state = .asking) : u.evaluate p = u.evaluateAsking p := by
    simp only [State.evaluate, hu]
  rw [State.askExpires, heval _ (by rw [State.engine_setEngine]; exact h), State.evaluateAsking, hfits,
    State.engine_setEngine, Bool.true_and]
  split
  · rw [State.setEngine_setEngine]
    rfl
  · rfl

/-- An engine of a waiting or holding state that passes to another of these: one report. -/
theorem finish_of_waiting {b : State} (he : ∀ q, q ≠ p → s.engine q = b.engine q)
    (hp : (s.engine p).state ≠ (b.engine p).state)
    (hb : (b.engine p).state = .asking ∨ (b.engine p).state = .confirming ∨ (b.engine p).state = .holding)
    (hs : (s.engine p).state = .asking ∨ (s.engine p).state = .confirming ∨ (s.engine p).state = .holding)
    (hc : s.bio = b.bio) (ha : s.stats.alarms = b.stats.alarms) (hm : s.meas = b.meas)
    (hf : s.feed.mismatch = b.feed.mismatch ∧ s.feed.backlog = b.feed.backlog) :
    State.finish b s = s.toldAfter b 1 := by
  obtain ⟨hf1, hf2⟩ := hf
  refine finish_of_pool p he hp ?_ (by rw [hc]) (fun hpd _ => .inl ?_) ha hm hf1 hf2
  · rw [Engine.valveFault_of_waiting hb, Engine.valveFault_of_waiting hs]
  · subst hpd
    rcases hs with hs | hs | hs <;> rw [hs] <;> rfl

theorem finish_setEngine_waiting {e : Engine}
    (hb : (s.engine p).state = .asking ∨ (s.engine p).state = .confirming ∨ (s.engine p).state = .holding)
    (hs : e.state = .asking ∨ e.state = .confirming ∨ e.state = .holding) (hp : e.state ≠ (s.engine p).state) :
    State.finish s (s.setEngine p e) = (s.setEngine p e).told := by
  rw [finish_of_waiting (p := p) (fun q hq => s.engine_setEngine_ne e hq) (by rwa [State.engine_setEngine]) hb
    (by rwa [State.engine_setEngine]) (by simp) (by simp) (by simp) (by simp), State.toldAfter_of_same (by simp)]
  rfl

/-- A change of an engine's record that leaves its state and its marks of a fault. -/
theorem finish_setEngine_same {e : Engine} (hs : e.state = (s.engine p).state) (hl : e.lock = (s.engine p).lock) :
    State.finish s (s.setEngine p e) = (s.setEngine p e).driveLines := by
  have he q : ((s.setEngine p e).engine q).state = (s.engine q).state ∧
      ((s.setEngine p e).engine q).valveFault = (s.engine q).valveFault := by
    by_cases hq : q = p
    · rw [hq, State.engine_setEngine]
      exact ⟨hs, by simp only [Engine.valveFault, hs, hl]⟩
    · rw [s.engine_setEngine_ne e hq]
      exact ⟨rfl, rfl⟩
  exact finish_of_quiet (fun q => (he q).1) (by simp) (State.valveFault_of_engines (fun q => (he q).2)) (by simp)
    (by simp) (by simp) (by simp) (by simp)

end

/-- Settles O15, by the fit of the engine. -/
theorem askingWaitsThenConfirms : Obligations.AskingWaitsThenConfirms := by
  refine ⟨fun p s ⟨hh, hl⟩ hs hx hr => ?_, fun p s ⟨hh, hl⟩ hs ha => ?_⟩
  · have hd : (s.engine p).askOver = true := by
      simp only [Engine.askOver, hs, hx, Bool.not_false, Bool.and_true, Bool.and_eq_true]
      exact ⟨rfl, hr⟩
    rw [exec_askWindowExpiry, event_of_due hh hd]
    constructor
    · intro hf
      rw [State.askExpires_eq hs, hf, if_pos rfl, finish_setEngine_waiting (.inl hs) (.inr (.inl rfl))]
      rw [hs]
      nofun
    · intro hf
      rw [State.askExpires_eq hs, hf, if_neg (by decide), finish_setEngine_same, driveLines_of_linesFollow (hl.setEngine _ _)]
      · rfl
      · rfl
  · have hd : (s.engine p).ageingDue = true := by
      rw [Engine.ageingDue, Bool.and_eq_true]
      exact ⟨by rcases hs with hs | hs <;> rw [hs] <;> rfl, decide_eq_true ha⟩
    rw [exec_ageingStep, event_of_due hh hd, finish_setEngine_same, driveLines_of_linesFollow (hl.setEngine _ _)]
    · rfl
    · rfl
    · rfl

end Sys2Proof.Machine
end

section
/-! SUPPORT. The confirm period's expiry (R45, R46, R173) and the two run limits (R49, R50, R51, R53). -/

namespace Sys2Proof.Machine
open Sys2Proof

set_option Elab.async false

/-! ## The last counter field (R173) -/

/-- The groups of R173 share no counter. -/
theorem Counter.groups_disjoint : ∀ g ∈ Counter.groups, ∀ k ∈ Counter.groups, ∀ c ∈ g, c ∈ k → k = g := by decide

section
variable {s u : State}

theorem Stats.crossed_iff (t u : Stats) (c : Counter) : t.crossed u c = true ↔
    (u.counter c).toNat < (t.counter c).toNat ∨ ((t.counter c).toNat < 2 ^ 31 ∧ 2 ^ 31 ≤ (u.counter c).toNat) := by
  simp only [Stats.crossed, crosses, Bool.or_eq_true, Bool.and_eq_true, decide_eq_true_eq]

/-- A group none of whose counters crossed gives none. -/
theorem Stats.lastOf_eq_none {t u : Stats} {g : List Counter} (h : ∀ c ∈ g, t.crossed u c = false) : t.lastOf u g = none := by
  rw [Stats.lastOf, List.getLast?_eq_none_iff, List.filter_eq_nil_iff]
  intro c hc
  rw [h c hc]
  decide

/-- Where at most one counter crossed, nothing is chosen. -/
theorem State.nameLast_of_one_crossed
    (h : ∀ c d, s.stats.crossed u.stats c = true → s.stats.crossed u.stats d = true → c = d) : u.nameLast s = u := by
  by_cases hc : ∃ g ∈ Counter.groups, ∃ c ∈ g, s.stats.crossed u.stats c = true
  · obtain ⟨g, hg, c, hcg, hcr⟩ := hc
    refine State.nameLast_of_one (length_filterMap_lt_two (g := g) (by decide) (fun k hk hne => ?_))
    refine Stats.lastOf_eq_none (fun d hd => ?_)
    cases hdr : s.stats.crossed u.stats d
    · rfl
    · rw [← h c d hcr hdr] at hd
      exact absurd (Counter.groups_disjoint g hg k hk c hcg hd) hne
  · refine State.nameLast_of_one (length_filterMap_lt_two (g := []) (by decide) (fun k hk _ => ?_))
    refine Stats.lastOf_eq_none (fun d hd => ?_)
    cases hdr : s.stats.crossed u.stats d
    · rfl
    · exact absurd ⟨k, hk, d, hd, hdr⟩ hc

/-! ## Withdraw and grant -/

theorem Valve.pool_valve (v : Valve) : v.pool.valve = some v := by cases v <;> rfl

theorem State.startNoFlow_marks (s : State) (v : Valve) :
    (s.startNoFlow v).feed.mismatch = s.feed.mismatch ∧ (s.startNoFlow v).feed.backlog = s.feed.backlog := by
  cases v <;> exact ⟨rfl, rfl⟩

theorem State.endNoFlow_marks (s : State) (v : Valve) :
    (s.endNoFlow v).feed.mismatch = s.feed.mismatch ∧ (s.endNoFlow v).feed.backlog = s.feed.backlog := by
  cases v <;> exact ⟨rfl, rfl⟩

/-- R46: the grant of a valve's pool. -/
theorem State.grant_valve (s : State) (v : Valve) : s.grant v.pool =
    ((((s.setEngine v.pool { s.engine v.pool with
        state := .holding, phase := none, holdStart := some s.now, releaseDeferred := false, maxRun := some 0 }).count
        (.grants v.pool) 1).recordWait v.pool
        (roundDiv (s.now - (s.engine v.pool).grantWait.getD s.now) 1000)).setValve v
        { s.valve v with commanded := .opened, check := if (s.valve v).seenClosed then .openCheck else .none,
                         timer := if (s.valve v).seenClosed then some 0 else none }).startNoFlow v := by
  simp only [State.grant, Valve.pool_valve, State.openCommand_eq]
  rw [State.valve_recordWait, State.valve_count, State.valve_setEngine]
  rfl

end

theorem confirmOver_of {e : Engine} (h : e.state = .confirming) (hr : reached 2500 e.phase = true) :
    e.confirmOver = true := by
  rw [Engine.confirmOver, h]
  exact hr

/-- Settles O16, by the fit of the engine and the groups of R173. -/
theorem confirmPeriodExpiryGrantsOrWithdraws : Obligations.ConfirmPeriodExpiryGrantsOrWithdraws := by
  refine ⟨fun p v s ⟨hh, _⟩ => ⟨fun hs hr hf => ?_, fun hs hr hf => ?_⟩, fun s u => ?_⟩
  · rw [exec_confirmPeriodExpiry, event_of_due hh (confirmOver_of hs hr), State.confirmExpires, hf,
      if_neg (by decide), State.withdraw, Engine.withdrawn]
    refine congrArg Host.Outcome.next (finish_of_waiting (p := p) (fun q hq => ?_) ?_ (.inr (.inl hs)) ?_ ?_ ?_ ?_ ?_)
    · simp [State.engine_setEngine_ne, hq]
    · simp [hs]
    · simp
    all_goals simp
  · rw [exec_confirmPeriodExpiry, event_of_due hh (confirmOver_of hs hr), State.confirmExpires, hf, if_pos rfl,
      State.grant_valve]
    refine congrArg Host.Outcome.next (finish_of_waiting (p := v.pool) (fun q hq => ?_) ?_ (.inr (.inl hs)) ?_ ?_ ?_ ?_ ?_)
    · simp [State.engine_setEngine_ne, hq]
    · simp [hs]
    · simp
    all_goals simp [State.startNoFlow_marks]
  · refine ⟨State.nameLast_eq u s, ?_, fun h => State.nameLast_of_one_crossed (fun c d hc hd => ?_)⟩
    · refine (State.nameLast_lastCounter u s).imp_right (fun ⟨c, hc, hn⟩ => ⟨c, ?_, hn⟩)
      exact (Stats.crossed_iff _ _ c).mp (Stats.crossed_of_mem_lastCrossings hc)
    · exact h c d ((Stats.crossed_iff _ _ c).mp hc) ((Stats.crossed_iff _ _ d).mp hd)

end Sys2Proof.Machine
end

section
/-! SUPPORT. The two run limits: what a release that is no yield leaves, and what its event ends with (R49 to R53, R109, R145). -/

namespace Sys2Proof.Machine
open Sys2Proof

set_option Elab.async false

section
variable {s t : State} {v : Valve} {r : Bool}

/-- R49, R50, R51, R109: a release that is no yield. -/
theorem State.release_letGo (s : State) (v : Valve) (r : Bool) : s.release v r false false =
    if (s.valve v).seenClosed then
      ((s.setEngine v.pool (((s.engine v.pool).letGo r).released s)).endNoFlow v).setValve v (s.valve v).shut
    else ((s.setEngine v.pool ((s.engine v.pool).letGo r)).endNoFlow v).setValve v (s.valve v).closing := by
  split
  · next h =>
    rw [State.release_of_seenClosed _ _ _ h]
    cases v <;> rfl
  · next h =>
    rw [State.release_of_not_seenClosed _ _ _ (by simpa using h)]
    rfl

theorem Engine.letGo_released_state (e : Engine) (r : Bool) (s : State) :
    ((e.letGo r).released s).state = if s.inRun && e.need then .asking else .rest := by
  cases hn : e.need <;> cases hi : s.inRun <;> cases r <;>
    simp [Engine.released, Engine.letGo, Engine.justAsking, hn, hi]

/-- R53: where a release that is no yield leaves the engine. -/
theorem State.release_letGo_state (s : State) (v : Valve) (r : Bool) :
    ((s.release v r false false).engine v.pool).state =
      if (s.valve v).seenClosed then (if s.inRun && (s.engine v.pool).need then .asking else .rest) else .releasing := by
  rw [State.release_letGo]
  split
  · rw [State.engine_setValve, State.engine_endNoFlow, State.engine_setEngine, Engine.letGo_released_state]
  · rw [State.engine_setValve, State.engine_endNoFlow, State.engine_setEngine]
    rfl

theorem State.release_letGo_valveFault (s : State) (v : Valve) (r : Bool) :
    ((s.release v r false false).engine v.pool).valveFault = false := by
  have hs := s.release_letGo_state v r
  cases hc : (s.valve v).seenClosed
  · rw [State.release_letGo, hc]
    simp [Engine.valveFault, Engine.letGo]
  · rw [hc, if_pos rfl] at hs
    have : ((s.release v r false false).engine v.pool).state = .asking ∨
        ((s.release v r false false).engine v.pool).state = .rest := by
      rw [hs]
      split
      · exact .inl rfl
      · exact .inr rfl
    rcases this with h | h <;> simp [Engine.valveFault, h]

/-! ### Notices to BIOCIDE change its engine alone -/

theorem State.arriveRest_eq_setEngine (s : State) (p : Pool) : s.arriveRest p = s.setEngine p ((s.arriveRest p).engine p) := by
  rw [State.arriveRest_eq, State.engine_setEngine]

theorem State.askFromRest_eq_setEngine (s : State) (p : Pool) :
    s.askFromRest p = s.setEngine p ((s.askFromRest p).engine p) := by
  simp only [State.askFromRest]
  split
  · rw [State.engine_setEngine]
  · rw [State.setEngine_engine]

/-- R48: the wait given up. -/
theorem State.giveUpWaiting_eq (s : State) (p : Pool) : s.giveUpWaiting p = s.setEngine p
    (if s.inRun && (s.engine p).need then { s.engine p with grantWait := none }.atRest.justAsking s.now
      else { s.engine p with grantWait := none }.atRest) := by
  simp only [State.giveUpWaiting, State.arriveRest_eq, State.engine_setEngine, State.inRun_setEngine,
    State.setEngine_now, State.setEngine_setEngine]

/-- R60: a need notice to BIOCIDE changes its engine and nothing else. -/
theorem State.needNotice_biocide (s : State) (need : Bool) (base : Nat) :
    s.needNotice .biocide need base = s.setEngine .biocide ((s.needNotice .biocide need base).engine .biocide) := by
  have hset (u : State) (e : Engine) (t : State) (h : t = u.setEngine .biocide (t.engine .biocide))
      (hu : u = s.setEngine .biocide e) : t = s.setEngine .biocide (t.engine .biocide) := by
    rw [hu, State.setEngine_setEngine] at h
    exact h
  have hrises (u : State) : u.needRises .biocide = u.setEngine .biocide ((u.needRises .biocide).engine .biocide) := by
    simp only [State.needRises]
    cases (u.engine .biocide).state with
    | rest => exact u.askFromRest_eq_setEngine _
    | holding | releasing => dsimp only; rw [State.engine_setEngine]
    | asking | confirming | stuck | locked => dsimp only; rw [State.setEngine_engine]
  have hfalls (u : State) : u.needFalls .biocide = u.setEngine .biocide ((u.needFalls .biocide).engine .biocide) := by
    simp only [State.needFalls]
    cases (u.engine .biocide).state with
    | asking | confirming =>
      dsimp only
      rw [State.giveUpWaiting_eq, State.engine_setEngine]
    | releasing => dsimp only; rw [State.engine_setEngine]
    | holding | rest | stuck | locked => dsimp only [Pool.valve]; rw [State.setEngine_engine]
  simp only [State.needNotice]
  (repeat' split)
  · exact hset _ _ _ (hrises _) rfl
  · exact hset _ _ _ (hfalls _) rfl
  · rw [State.engine_setEngine]

/-- R136: a notice of the cycle state changes BIOCIDE's engine and its base alone. -/
theorem State.cycleNotice_eq (s : State) : s.cycleNotice =
    { s with demand := { s.demand with bBase := biocideBase s.bio } }.setEngine .biocide
      (s.cycleNotice.engine .biocide) :=
  State.needNotice_biocide _ _ _

theorem State.cycleNotice_engine_ne (s : State) {p : Pool} (h : p ≠ .biocide) : s.cycleNotice.engine p = s.engine p :=
  State.needNotice_engine_ne _ _ _ h

/-- R146: the entry to DOSING leaves the valve engines. -/
theorem State.enterDosing_engine_ne (s : State) {p : Pool} (h : p ≠ .biocide) : s.enterDosing.engine p = s.engine p := by
  have hp (u : State) : (u.pump true).engine p = u.engine p := u.engine_pump true p
  rw [State.enterDosing, hp, State.cycleNotice_engine_ne _ h]
  cases p <;> rfl

theorem State.endNoFlow_marks_setValve (u : State) (v : Valve) (r : ValveRec) :
    ((u.endNoFlow v).setValve v r).feed.mismatch = u.feed.mismatch ∧
      ((u.endNoFlow v).setValve v r).feed.backlog = u.feed.backlog := by
  rw [State.setValve_feed]
  exact u.endNoFlow_marks v

/-- What such a release leaves of the rest of R90's subjects, and of the statistics. -/
theorem State.release_letGo_same (s : State) (v : Valve) (r : Bool) :
    (s.release v r false false).bio = s.bio ∧ (s.release v r false false).stats = s.stats ∧
      (s.release v r false false).meas = s.meas ∧
      (s.release v r false false).feed.mismatch = s.feed.mismatch ∧
      (s.release v r false false).feed.backlog = s.feed.backlog := by
  rw [State.release_letGo]
  split <;> simp [State.endNoFlow_marks]

/-- The one case in which a release begins the dose: the blowdown valve seen closed in CLOSING, and no need in RUN. -/
def State.NoDose (s : State) (v : Valve) : Prop :=
  v = .makeup ∨ s.bio.cycle ≠ .closing ∨ (s.valve v).seenClosed = false ∨
    (s.inRun = true ∧ (s.engine v.pool).need = true)

theorem State.release_letGo_busy (hn : s.NoDose v) (hp : v.pool = .discharge) (hc : s.bio.cycle = .closing) :
    ((s.release v r false false).engine v.pool).state.passive = false ∨
      ((s.release v r false false).engine v.pool).state = .releasing := by
  rw [State.release_letGo_state]
  rcases hn with rfl | h | h | ⟨h1, h2⟩
  · cases hp
  · exact absurd hc h
  · rw [h]
    exact .inr rfl
  · rw [h1, h2]
    split
    · exact .inl rfl
    · exact .inr rfl

/-- An event whose body is such a release and a flag: one report, where no dose begins. -/
theorem finish_of_letGo (h : (s.engine v.pool).state = .holding) (hn : s.NoDose v)
    (hcl : t.claim = (s.release v r false false).claim) (hbio : t.bio = (s.release v r false false).bio)
    (ha : t.stats.alarms = s.stats.alarms) (hc : t.stats.counters = s.stats.counters)
    (hm : t.meas = (s.release v r false false).meas) (hf : t.feed = (s.release v r false false).feed) :
    State.finish s t = t.told := by
  obtain ⟨kbio, -, kmeas, kmismatch, kbacklog⟩ := s.release_letGo_same v r
  have he p : t.engine p = (s.release v r false false).engine p := by cases p <;> simp only [State.engine, hcl]
  have hstate := s.release_letGo_state v r
  refine (finish_of_pool v.pool (fun q hq => ?_) ?_ ?_ ?_ (fun hp hcl => ?_) ha ?_ ?_ ?_).trans
    (State.toldAfter_of_same hc 1)
  · rw [he]
    exact s.release_engine_ne _ _ _ hq
  · rw [he, hstate, h]
    (repeat' split) <;> nofun
  · rw [he, State.release_letGo_valveFault, Engine.valveFault_of_waiting (.inr (.inr h))]
  · rw [hbio, kbio]
  · rw [← hp, he]
    refine State.release_letGo_busy hn hp ?_
    rw [hbio, kbio] at hcl
    exact hcl
  · rw [hm, kmeas]
  · rw [hf, kmismatch]
  · rw [hf, kbacklog]

/-- R145: such an event where the dose begins. -/
theorem finish_of_letGo_dose (hn : ¬ s.NoDose v)
    (hcl : t.claim = (s.release v r false false).claim) (hbio : t.bio = (s.release v r false false).bio)
    (hout : t.out = (s.release v r false false).out) (hst : t.station = s.station)
    (h : (s.engine v.pool).state = .holding) :
    ((State.finish s t).engine .discharge).state = .rest ∧
      (State.finish s t).out.blowdown = s.out.blowdown.shut ∧ (State.finish s t).out.biocidePump = true ∧
      (State.finish s t).bio = { s.bio with cycle := .dosing, phase := some (s.station.cfg.doseTime * 1000) } := by
  simp only [State.NoDose, not_or, Classical.not_not, Bool.not_eq_false] at hn
  obtain ⟨hv, hc, hsc, hneed⟩ := hn
  have hvb : v = .blowdown := by cases v <;> first | rfl | exact absurd rfl hv
  subst hvb
  have he : t.engine .discharge = (s.release .blowdown r false false).engine .discharge := by
    simp only [State.engine, hcl]
  have hrest : (t.engine .discharge).state = .rest := by
    have hstate := s.release_letGo_state .blowdown r
    rw [hsc, if_pos rfl, if_neg (by rwa [Bool.and_eq_true])] at hstate
    rw [he]
    exact hstate
  have hbio' : t.bio = s.bio := hbio.trans (s.release_letGo_same _ _).1
  have hblow : t.out.blowdown = s.out.blowdown.shut := by
    rw [hout, State.release_letGo, if_pos hsc]
    rfl
  have hdue : closingTestDue s t = true := by
    have hh : (s.engine .discharge).state = .holding := h
    simp [closingTestDue, hbio', hc, hrest, hh]
  have htest : t.tested s = t.enterDosing := by
    rw [State.tested_of_due hdue, State.closingTest, hrest]
  have hne : (t.enterDosing.engine .discharge) = t.engine .discharge :=
    t.enterDosing_engine_ne (by decide)
  refine ⟨?_, ?_, ?_, ?_⟩
  · rw [finish_engine, htest, hne, hrest]
  · have hf : (State.finish s t).out.blowdown = t.enterDosing.out.blowdown := by rw [← htest]; exact finish_valve s t .blowdown
    rw [hf, State.enterDosing, State.cycleNotice_eq]
    exact hblow
  · rw [finish_pump, htest]
    rfl
  · rw [finish_bio, htest, State.enterDosing, State.cycleNotice_eq, ← hst, ← hbio']
    rfl

end

/-- Settles O18, by the two limits. -/
theorem runLimitsReleaseTheValve : Obligations.RunLimitsReleaseTheValve := by
  intro v s ⟨hh, _⟩ hs noDose begins e u
  have hvalve : v.pool.valve = some v := Valve.pool_valve v
  have hu (r : Bool) : s.release v r false false = u r := s.release_letGo v r
  refine ⟨fun hd ht => ?_, fun hr => ?_⟩
  · have hdue : (v.pool.valve.isSome && s.minimumRunEnds v.pool) = true := by
      rw [hvalve]
      simp only [State.minimumRunEnds, State.minimumRunOver, hs, hd, Option.isSome_some, Bool.true_and]
      cases hx : (s.engine v.pool).holdStart with
      | none => rfl
      | some x =>
        rw [hx] at ht
        exact decide_eq_true ht
    have hbody : exec (.minimumRunEnd v.pool) s = .next (State.finish s (s.release v false false false)) := by
      rw [exec_minimumRunEnd, event_of_due hh hdue]
      simp only [State.deferredRelease, hvalve]
    obtain ⟨-, hst, -⟩ := s.release_letGo_same v false
    rw [hbody]
    refine ⟨fun hn => ?_, fun hn => ⟨_, hbody, ?_⟩⟩
    · rw [← hu]
      exact congrArg Host.Outcome.next (finish_of_letGo (r := false) hs hn rfl rfl (by rw [hst]) (by rw [hst]) rfl rfl)
    · exact finish_of_letGo_dose hn rfl rfl rfl (State.release_steady _ _ _ _ _).2.2.1 hs
  · have hdue : (v.pool.valve.isSome && s.maxRunOver v.pool) = true := by
      rw [hvalve]
      simp only [State.maxRunOver, hs, Option.isSome_some, Bool.true_and]
      exact hr
    have hbody : exec (.maxRunExpiry v.pool) s =
        .next (State.finish s ((s.release v true false false).raise .maxRun)) := by
      rw [exec_maxRunExpiry, event_of_due hh hdue]
      simp only [State.maxRunRelease, hvalve]
    obtain ⟨-, hst, -⟩ := s.release_letGo_same v true
    rw [hbody]
    refine ⟨fun hn => ?_, fun hn => ⟨_, hbody, ?_⟩⟩
    · rw [← hu]
      exact congrArg Host.Outcome.next (finish_of_letGo (r := true) hs hn rfl rfl (by rw [State.raise_alarms, hst])
        (by rw [State.raise_counters, hst]) rfl rfl)
    · exact finish_of_letGo_dose hn rfl rfl rfl (State.release_steady _ _ _ _ _).2.2.1 hs

end Sys2Proof.Machine
end

section
/-! SUPPORT. The walk of R42 in rank order, and the sets and headrooms of R41. -/

namespace Sys2Proof.Machine
open Sys2Proof

set_option Elab.async false

/-! ## The rank order -/

theorem Member.before_iff (a b : Member) : a.before b = true ↔
    b.urgency < a.urgency ∨ (a.urgency = b.urgency ∧ a.station ≤ b.station) := by
  simp [Member.before]

theorem Member.before_refl (a : Member) : a.before a = true := by simp [Member.before]

theorem Member.before_total (a b : Member) : a.before b = true ∨ b.before a = true := by
  simp only [Member.before_iff]
  omega

theorem Member.before_trans {a b c : Member} (h : a.before b = true) (k : b.before c = true) : a.before c = true := by
  simp only [Member.before_iff] at *
  omega

/-- Two members ranked level are the same station's. -/
theorem Member.station_of_before {a b : Member} (h : a.before b = true) (k : b.before a = true) : a.station = b.station := by
  simp only [Member.before_iff] at *
  omega

theorem insertRanked_perm (m : Member) (l : List Member) : (insertRanked m l).Perm (m :: l) := by
  induction l with
  | nil => exact .refl _
  | cons x l ih =>
    rw [insertRanked]
    split
    · exact .refl _
    · exact (ih.cons x).trans (.swap m x l)

theorem ranked_perm (l : List Member) : (ranked l).Perm l := by
  induction l with
  | nil => exact .refl _
  | cons m l ih => exact (insertRanked_perm m (ranked l)).trans (ih.cons m)

theorem insertRanked_pairwise (m : Member) {l : List Member} (h : l.Pairwise (fun a b => a.before b = true)) :
    (insertRanked m l).Pairwise (fun a b => a.before b = true) := by
  induction l with
  | nil => exact List.pairwise_singleton _ m
  | cons x l ih =>
    obtain ⟨hx, hl⟩ := List.pairwise_cons.mp h
    rw [insertRanked]
    split
    · next hm =>
      refine List.pairwise_cons.mpr ⟨fun y hy => ?_, h⟩
      obtain rfl | hy := List.mem_cons.mp hy
      · exact hm
      · exact Member.before_trans hm (hx y hy)
    · next hm =>
      refine List.pairwise_cons.mpr ⟨fun y hy => ?_, ih hl⟩
      obtain rfl | hy := List.mem_cons.mp ((insertRanked_perm m l).mem_iff.mp hy)
      · exact (Member.before_total x y).resolve_right hm
      · exact hx y hy

theorem ranked_pairwise (l : List Member) : (ranked l).Pairwise (fun a b => a.before b = true) := by
  induction l with
  | nil => exact .nil
  | cons m l ih => exact insertRanked_pairwise m ih

/-! ## The walk (R42) -/

/-- R42: in rank order the walk reaches a member exactly where those ranked before it or level fit with it. -/
theorem walkFits_iff {own : Member} {l : List Member} (hr : l.Pairwise (fun a b => a.before b = true)) (ho : own ∈ l)
    (hu : l.Pairwise (fun a b => ¬(a.station = own.station ∧ b.station = own.station)))
    (he : ∀ m ∈ l, m.station = own.station → m = own) (h : Int) :
    walkFits h own.station l = true ↔ (((l.filter (fun m => m.before own)).map Member.amount).sum : Int) ≤ h := by
  induction l generalizing h with
  | nil => cases ho
  | cons m l ih =>
    obtain ⟨hrm, hr⟩ := List.pairwise_cons.mp hr
    obtain ⟨hum, hu⟩ := List.pairwise_cons.mp hu
    by_cases hm : m.station = own.station
    · obtain rfl : m = own := he m List.mem_cons_self hm
      have hnone : l.filter (fun x => x.before m) = [] := by
        rw [List.filter_eq_nil_iff]
        intro x hx hb
        exact hum x hx ⟨rfl, (Member.station_of_before hb (hrm x hx))⟩
      rw [List.filter_cons, if_pos (Member.before_refl m), hnone, walkFits]
      simp
    · have hol : own ∈ l := by
        obtain rfl | h := List.mem_cons.mp ho
        · exact absurd rfl hm
        · exact h
      have hsum : 0 ≤ (((l.filter (fun x => x.before own)).map Member.amount).sum : Int) := Int.natCast_nonneg _
      have := ih hr hol hu (fun x hx => he x (List.mem_cons_of_mem m hx)) (h - m.amount)
      rw [List.filter_cons, if_pos (hrm own hol), walkFits, beq_eq_false_iff_ne.mpr hm, Bool.false_or, List.map_cons,
        List.sum_cons, Int.natCast_add]
      split
      · rw [this]
        omega
      · simp only [Bool.false_eq_true, false_iff]
        omega

section
variable {s : State} {p : Pool}

theorem State.members_eq (s : State) (p : Pool) : s.members p (s.engine p).state =
    s.ownMember p :: (s.peers.filter (fun e => e.freshIn p (s.engine p).state)).map (fun e => e.member p) := by
  simp [State.members]

/-- R65: the members of a set are of different stations. -/
theorem State.members_unique (h : TableInOrder s) :
    (s.members p (s.engine p).state).Pairwise (fun a b => a.station ≠ b.station) := by
  obtain ⟨hord, hmem⟩ := h
  rw [State.members_eq, List.pairwise_cons, List.pairwise_map]
  refine ⟨fun m hm => ?_, (hord.imp (fun hlt => Nat.ne_of_lt hlt)).sublist List.filter_sublist⟩
  obtain ⟨e, he, rfl⟩ := List.mem_map.mp hm
  exact Ne.symm (hmem e (List.mem_filter.mp he).1).2.2

theorem State.fitsIn_iff (h : TableInOrder s) (k : Int) : s.fitsIn p (s.engine p).state k = true ↔
    ((((s.members p (s.engine p).state).filter (fun m => m.before (s.ownMember p))).map Member.amount).sum : Int) ≤ k := by
  have hperm := ranked_perm (s.members p (s.engine p).state)
  have huniq := State.members_unique (p := p) h
  have hown : s.ownMember p ∈ s.members p (s.engine p).state := by rw [State.members_eq]; exact List.mem_cons_self
  have hrank : (ranked (s.members p (s.engine p).state)).Pairwise (fun a b => a.station ≠ b.station) :=
    (List.Perm.pairwise_iff Ne.symm hperm).mpr huniq
  have hsum := ((hperm.filter (fun m => m.before (s.ownMember p))).map Member.amount).sum_nat
  rw [← hsum]
  refine walkFits_iff (own := s.ownMember p) (ranked_pairwise _) (hperm.mem_iff.mpr hown)
    (hrank.imp (fun hne ⟨h1, h2⟩ => hne (h1.trans h2.symm))) (fun m hm hms => ?_) k
  have hm := hperm.mem_iff.mp hm
  rw [State.members_eq] at hm huniq
  obtain rfl | hm := List.mem_cons.mp hm
  · rfl
  · exact absurd hms.symm ((List.pairwise_cons.mp huniq).1 m hm)

/-! ## The sets and the headrooms (R41, R44, R45, R47) -/

theorem State.mem_members_iff (s : State) (p : Pool) (st : EngineState) (m : Member) : m ∈ s.members p st ↔
    ((s.engine p).state = st ∧ m = s.ownMember p) ∨
      ∃ e ∈ s.peers, e.freshness = .fresh ∧ (e.pool p).state = st ∧
        m = { amount := (e.pool p).amount, urgency := (e.pool p).urgency, station := e.number } := by
  simp only [State.members, List.mem_append, List.mem_map, List.mem_filter, PeerEntry.freshIn, Bool.and_eq_true,
    beq_iff_eq]
  refine or_congr ?_ ?_
  · by_cases h : (s.engine p).state = st <;> simp [h]
  · constructor
    · rintro ⟨e, ⟨he, hf, hs⟩, rfl⟩
      exact ⟨e, he, hf, hs, rfl⟩
    · rintro ⟨e, he, hf, hs, rfl⟩
      exact ⟨e, ⟨he, hf, hs⟩, rfl⟩

theorem State.ownMember_eq (s : State) (p : Pool) : s.ownMember p =
    { amount := (s.engine p).amount, station := s.station.number,
      urgency := (if (s.engine p).state = .confirming ∨ (s.engine p).state = .holding then (s.engine p).heldUrgency
        else min 255 ((s.engine p).base + (s.engine p).ageing)) } := by
  simp only [State.ownMember, Engine.reportedUrgency, Engine.urgency]
  cases (s.engine p).state <;> rfl

theorem State.sumAmounts_members (s : State) (p : Pool) (st : EngineState) : sumAmounts (s.members p st) =
    (if (s.engine p).state = st then (s.engine p).amount else 0) +
      ((s.peers.filter (fun e => e.freshIn p st)).map (fun e => (e.pool p).amount)).sum := by
  have hmap : ((s.peers.filter (fun e => e.freshIn p st)).map (fun e => e.member p)).map Member.amount =
      (s.peers.filter (fun e => e.freshIn p st)).map (fun e => (e.pool p).amount) := by
    rw [List.map_map]
    rfl
  simp only [sumAmounts, State.members, List.map_append, List.sum_append, hmap]
  by_cases h : (s.engine p).state = st <;> simp [h, State.ownMember]

end

/-- Settles O19, by the rank order and the sets. -/
theorem walkAdmitsByRank : Obligations.WalkAdmitsByRank := by
  refine ⟨fun p h s ht => State.fitsIn_iff ht h, Member.before_iff, fun p m s => ?_, fun p s => ?_⟩
  · intro peer own
    have hmem (st : EngineState) : m ∈ s.members p st ↔ ((s.engine p).state = st ∧ m = s.ownMember p) ∨ peer st :=
      s.mem_members_iff p st m
    have hown (st : EngineState) (u : Nat) (h : (s.engine p).state = st → (s.ownMember p).urgency = u) :
        ((s.engine p).state = st ∧ m = s.ownMember p) ↔ own st u :=
      and_congr_right (fun hs => by rw [← h hs]; rfl)
    simp only [hmem]
    refine ⟨or_congr_left (hown _ _ (fun hs => ?_)), or_congr_left (hown _ _ (fun hs => ?_)),
      or_congr_left (hown _ _ (fun hs => ?_))⟩
    all_goals
      rw [State.ownMember_eq, hs]
      rfl
  · intro sumPeers sumSet u cap
    have hset (st : EngineState) : sumAmounts (s.members p st) = sumSet st := s.sumAmounts_members p st
    have hu : s.sumU p = u := by
      refine congrArg (fun f => ((s.peers.filter f).map (fun e => (e.pool p).amount)).sum) (funext fun e => ?_)
      unfold PeerEntry.inU
      cases e.freshness <;> cases (e.pool p).state <;> rfl
    refine ⟨fun hs => ?_, fun hs => ?_, fun hs => ?_⟩
    · simp only [State.fits, hs, State.headroomAsking, hset, hu]
      rfl
    · simp only [State.fits, hs, State.headroomConfirming, hset, hu]
      rfl
    · simp only [State.fits, hs, State.headroomHolding, hu]
      rfl

end Sys2Proof.Machine
end

section
/-! SUPPORT. The evaluations of a table event (R43 to R47, R60): what the evaluation of one pool's engine makes of it, and
what it leaves of the others. -/

namespace Sys2Proof.Machine
open Sys2Proof

set_option Elab.async false

section
variable {b s t u : State} {p q : Pool}

/-! ## Statistics -/

/-- A count never clears a flag. -/
theorem Stats.count_flag {t : Stats} {e : Event} (h : t.flag e = true) (c : Counter) (n : Nat) :
    (t.count c n).flag e = true := by
  have hr (u : Stats) (f : Event) (hu : u.flag e = true) : (u.raise f).flag e = true := by
    rw [Stats.raise_flag, hu, Bool.true_or]
  simp only [Stats.count]
  split
  · exact hr { t with counters := _ } .counterWrap h
  · split
    · exact hr { t with counters := _ } .counterHalf h
    · exact h

/-- Composing never clears a flag. -/
theorem State.composeReports_flag {e : Event} (h : s.stats.flag e = true) (n : Nat) :
    (s.composeReports n).stats.flag e = true := by
  induction n generalizing s with
  | zero => exact h
  | succ n ih =>
    rw [State.composeReports_succ]
    refine ih ?_
    simp only [State.composeReport, State.placeFrame]
    (repeat' split)
    · exact Stats.count_flag h _ _
    · exact h
    · exact h

theorem State.raise_flag_self (s : State) (e : Event) : (s.raise e).stats.flag e = true := by
  have h : (s.raise e).stats = s.stats.raise e := rfl
  rw [h, Stats.raise_flag, beq_self_eq_true, Bool.or_true]

theorem State.raise_flag_of {e : Event} (h : s.stats.flag e = true) (f : Event) : (s.raise f).stats.flag e = true := by
  have hs : (s.raise f).stats = s.stats.raise f := rfl
  rw [hs, Stats.raise_flag, h, Bool.true_or]

/-- A release counts and raises nothing. -/
theorem State.release_stats (s : State) (v : Valve) (a b c : Bool) : (s.release v a b c).stats = s.stats := by
  cases hc : (s.valve v).seenClosed
  · rw [State.release_of_not_seenClosed _ _ _ hc, State.setValve_stats, State.endNoFlow_stats, State.setEngine_stats]
  · rw [State.release_of_seenClosed _ _ _ hc, State.setEngine_stats, State.setValve_stats, State.endNoFlow_stats]

theorem State.needNotice_stats (s : State) (p : Pool) (n : Bool) (k : Nat) : (s.needNotice p n k).stats = s.stats := by
  have hask (u : State) : (u.askFromRest p).stats = u.stats := by
    rw [State.askFromRest_eq_setEngine, State.setEngine_stats]
  have hrises (u : State) : (u.needRises p).stats = u.stats := by
    simp only [State.needRises]
    cases (u.engine p).state with
    | rest => exact hask u
    | holding | releasing => exact u.setEngine_stats _ _
    | asking | confirming | stuck | locked => rfl
  have hfalls (u : State) : (u.needFalls p).stats = u.stats := by
    simp only [State.needFalls]
    cases (u.engine p).state with
    | asking | confirming =>
      dsimp only
      rw [State.giveUpWaiting_eq, State.setEngine_stats]
    | holding =>
      dsimp only
      split
      · split
        · exact u.release_stats _ _ _ _
        · exact u.setEngine_stats _ _
      · rfl
    | releasing => exact u.setEngine_stats _ _
    | rest | stuck | locked => rfl
  simp only [State.needNotice]
  (repeat' split)
  · rw [hrises, State.setEngine_stats]
  · rw [hfalls, State.setEngine_stats]
  · rw [State.setEngine_stats]

theorem State.recomputeDischarge_stats (s : State) : s.recomputeDischarge.stats = s.stats := by
  simp only [State.recomputeDischarge]
  split
  · rfl
  · rw [State.needNotice_stats]

theorem State.cycleNotice_stats (s : State) : s.cycleNotice.stats = s.stats := State.needNotice_stats _ _ _ _

/-- No event flag is cleared (R171). -/
def FlagsKept (s t : State) : Prop := ∀ e : Event, s.stats.flag e = true → t.stats.flag e = true

theorem FlagsKept.trans (h : FlagsKept s t) (k : FlagsKept t u) : FlagsKept s u := fun e => k e ∘ h e

theorem FlagsKept.of_flags (h : t.stats.flags = s.stats.flags := by rfl) : FlagsKept s t := fun e => by
  simp only [Stats.flag, h]; exact id

theorem FlagsKept.of_stats (h : t.stats = s.stats) : FlagsKept s t := .of_flags (by rw [h])

theorem State.raise_flagsKept (s : State) (e : Event) : FlagsKept s (s.raise e) := fun _ h => State.raise_flag_of h e

theorem State.count_flagsKept (s : State) (c : Counter) (n : Nat) : FlagsKept s (s.count c n) :=
  fun _ h => Stats.count_flag h c n

/-! ## What an operation on another pool spares -/

/-- What an operation that is not on pool `p` keeps of what an evaluation of it is made on and leaves. -/
structure Spared (p : Pool) (s t : State) : Prop where
  engine : t.engine p = s.engine p
  valve : ∀ v : Valve, v.pool = p → t.valve v = s.valve v
  withdrawals : t.stats.counter (.withdrawals p) = s.stats.counter (.withdrawals p)
  yields : t.stats.counter (.yields p) = s.stats.counter (.yields p)
  flags : FlagsKept s t
  length : t.stats.counters.length = s.stats.counters.length
  now : t.now = s.now
  station : t.station = s.station
  peers : t.peers = s.peers

theorem Spared.refl (p : Pool) (s : State) : Spared p s s :=
  ⟨rfl, fun _ _ => rfl, rfl, rfl, .of_flags, rfl, rfl, rfl, rfl⟩

theorem Spared.trans (h : Spared p s t) (k : Spared p t u) : Spared p s u :=
  ⟨k.engine.trans h.engine, fun v hv => (k.valve v hv).trans (h.valve v hv), k.withdrawals.trans h.withdrawals,
    k.yields.trans h.yields, h.flags.trans k.flags, k.length.trans h.length,
    k.now.trans h.now, k.station.trans h.station, k.peers.trans h.peers⟩

/-- An operation that neither counts nor raises. -/
theorem Spared.of_stats (engine : t.engine p = s.engine p) (valve : ∀ v : Valve, v.pool = p → t.valve v = s.valve v)
    (stats : t.stats = s.stats) (now : t.now = s.now) (station : t.station = s.station) (peers : t.peers = s.peers) :
    Spared p s t :=
  ⟨engine, valve, by rw [stats], by rw [stats], .of_stats stats, by rw [stats], now,
    station, peers⟩

theorem Spared.fits (h : Spared p s t) : t.fits p = s.fits p :=
  State.fits_congr (by rw [h.engine]) (by rw [h.engine]) (by rw [h.engine]) (by rw [h.engine]) h.peers h.station

theorem State.setEngine_spared (s : State) (e : Engine) (h : p ≠ q) : Spared p s (s.setEngine q e) :=
  .of_stats (s.engine_setEngine_ne e h) (fun v _ => s.valve_setEngine q e v) (by simp) (by simp) (by simp) (by simp)

theorem State.raise_spared (s : State) (e : Event) : Spared p s (s.raise e) :=
  ⟨s.engine_raise e p, fun v _ => s.valve_raise e v, rfl, rfl, s.raise_flagsKept e, rfl, rfl, rfl, rfl⟩

theorem State.count_spared (s : State) {c : Counter} (n : Nat) (hw : (Counter.withdrawals p).number ≠ c.number)
    (hy : (Counter.yields p).number ≠ c.number) : Spared p s (s.count c n) :=
  ⟨s.engine_count c n p, fun v _ => s.valve_count c n v, s.stats.count_counter_of_ne n hw,
    s.stats.count_counter_of_ne n hy, s.count_flagsKept c n,
    (by rw [State.count, Stats.count_counters, List.length_set]), rfl, rfl, rfl⟩

theorem State.release_spared (s : State) {v : Valve} (a b c : Bool) (h : p ≠ v.pool) : Spared p s (s.release v a b c) := by
  obtain ⟨hnow, -, hstation, -, hpeers, -⟩ := s.release_steady v a b c
  exact .of_stats (s.release_engine_ne a b c h) (fun w hw => s.release_valve_ne a b c (fun e => h (by rw [← hw, e])))
    (s.release_stats v a b c) hnow hstation hpeers

theorem State.needNotice_spared (s : State) (n : Bool) (k : Nat) (h : p ≠ q) : Spared p s (s.needNotice q n k) := by
  obtain ⟨hnow, -, hstation, -, hpeers, -⟩ := s.needNotice_steady q n k
  exact .of_stats (s.needNotice_engine_ne n k h) (fun w hw => s.needNotice_valve_ne n k (fun e => h (by rw [← hw, e])))
    (s.needNotice_stats q n k) hnow hstation hpeers

/-- A change of demand, sequencer, pump, line, feed or alarms alone. -/
theorem Spared.of_units (claim : t.claim = s.claim := by rfl) (blowdown : t.out.blowdown = s.out.blowdown := by rfl)
    (makeup : t.out.makeup = s.out.makeup := by rfl) (counters : t.stats.counters = s.stats.counters := by rfl)
    (flags : t.stats.flags = s.stats.flags := by rfl) (now : t.now = s.now := by rfl)
    (station : t.station = s.station := by rfl) (peers : t.peers = s.peers := by rfl) : Spared p s t := by
  refine ⟨?_, fun v _ => ?_, ?_, ?_, .of_flags flags, by rw [counters], now, station, peers⟩
  · cases p <;> simp only [State.engine, claim]
  · cases v
    · exact blowdown
    · exact makeup
  · simp only [Stats.counter, Stats.counterAt, counters]
  · simp only [Stats.counter, Stats.counterAt, counters]

/-! ## Evaluations (R43) -/

theorem Spared.released (h : Spared p s t) (e : Engine) : e.released t = e.released s :=
  Engine.released_congr e h.station h.now

/-- What an evaluation has made stands after an operation that spares the pool. -/
theorem Evaluated.then_spared (h : Evaluated s t p) (k : Spared p t u) : Evaluated s u p := by
  obtain ⟨h1, h2, h3, h4, h5⟩ := h
  refine ⟨fun a b c => k.engine.trans (h1 a b c), fun a b => k.engine.trans (h2 a b), fun a b => k.engine.trans (h3 a b),
    fun a b => ?_, fun v hv a b => ?_⟩
  · obtain ⟨he, hf, hc⟩ := h4 a b
    exact ⟨k.engine.trans he, k.flags _ hf, k.withdrawals.trans hc⟩
  · obtain ⟨he, hr, hf, hc⟩ := h5 v hv a b
    exact ⟨k.engine.trans he, (k.valve v hv).trans hr, k.flags _ hf, k.yields.trans hc⟩

/-- An evaluation after an operation that spares the pool is one on the state before it. -/
theorem Evaluated.after_spared (k : Spared p s u) (h : Evaluated u t p) : Evaluated s t p := by
  obtain ⟨h1, h2, h3, h4, h5⟩ := h
  unfold Evaluated
  rw [k.engine] at h1 h2 h3 h4 h5
  rw [k.fits] at h1 h2 h3 h4 h5
  rw [k.withdrawals] at h4
  refine ⟨h1, h2, h3, h4, fun v hv a b => ?_⟩
  have := h5 v hv a b
  rwa [k.valve v hv, k.released, k.yields] at this

/-- R44, R45, R47: one evaluation. -/
theorem State.evaluate_evaluated (hlen : s.stats.counters.length = 20) (p : Pool) : Evaluated s (s.evaluate p) p := by
  refine ⟨fun hs hx hf => ?_, fun hs hx => ?_, fun hs hf => ?_, fun hs hf => ?_, fun v hv hs hf => ?_⟩
  · simp only [State.evaluate, hs, State.evaluateAsking, hx, hf, Bool.and_self, if_true, State.engine_setEngine]
    rfl
  · have hno : ((s.engine p).windowExpired && s.fits p) = false := by
      rcases hx with h | h <;> simp [h]
    simp only [State.evaluate, hs, State.evaluateAsking, hno, Bool.false_eq_true, if_false]
  · rcases hs with hs | hs <;> simp only [State.evaluate, hs, hf, if_true]
  · have he : s.evaluate p = ((s.setEngine p (s.engine p).withdrawn).raise .withdraw).count (.withdrawals p) 1 := by
      simp only [State.evaluate, hs, hf, Bool.false_eq_true, if_false, State.withdraw]
    rw [he]
    refine ⟨by simp [Engine.withdrawn], Stats.count_flag (State.raise_flag_self _ _) _ _, ?_⟩
    rw [State.count, Stats.count_counter_self (by simpa using hlen)]
    congr 1
    simp [Stats.counter, Stats.counterAt]
  · subst hv
    have he : s.evaluate v.pool = ((s.release v true false true).raise .yield).count (.yields v.pool) 1 := by
      simp only [State.evaluate, hs, hf, Bool.false_eq_true, if_false, State.yieldPool, Valve.pool_valve]
    rw [he]
    have hst := s.release_stats v true false true
    refine ⟨?_, ?_, Stats.count_flag (State.raise_flag_self _ _) _ _, ?_⟩
    · rw [State.engine_count, State.engine_raise]
      cases hc : (s.valve v).seenClosed
      · rw [State.release_of_not_seenClosed _ _ _ hc, State.engine_setValve, State.engine_endNoFlow, State.engine_setEngine]
        rfl
      · rw [State.release_of_seenClosed _ _ _ hc, State.engine_setEngine]
        rfl
    · rw [State.valve_count, State.valve_raise]
      cases hc : (s.valve v).seenClosed
      · rw [State.release_of_not_seenClosed _ _ _ hc, State.valve_setValve]
        rfl
      · rw [State.release_of_seenClosed _ _ _ hc, State.valve_setEngine, State.valve_setValve]
        rfl
    · rw [State.count, Stats.count_counter_self (by rw [State.raise_counters, hst]; exact hlen)]
      congr 1
      simp [Stats.counter, Stats.counterAt, hst]

theorem State.withdraw_spared (s : State) (h : p ≠ q) : Spared p s (s.withdraw q) :=
  (s.setEngine_spared _ h).trans ((State.raise_spared _ _).trans (State.count_spared _ 1
    (by revert h; cases p <;> cases q <;> decide) (by cases p <;> cases q <;> decide)))

theorem State.yield_count_spared (s : State) (h : p ≠ q) : Spared p s ((s.raise .yield).count (.yields q) 1) :=
  (s.raise_spared _).trans (State.count_spared _ 1 (by cases p <;> cases q <;> decide)
    (by revert h; cases p <;> cases q <;> decide))

theorem State.request_spared (s : State) (a c : Bool) (h : p ≠ .discharge) : Spared p s (s.request a c) := by
  have hq (u : State) : Spared p u u.recomputeDischarge := by
    simp only [State.recomputeDischarge]
    split
    · exact .refl p u
    · exact (Spared.of_units (s := u) (t := { u with demand := _ })).trans (State.needNotice_spared _ _ _ h)
  exact (Spared.of_units (s := s) (t := { s with demand := _ })).trans (hq _)

theorem State.cycleNotice_spared (s : State) (h : p ≠ .biocide) : Spared p s s.cycleNotice :=
  (Spared.of_units (s := s) (t := { s with demand := _ })).trans (State.needNotice_spared _ _ _ h)

theorem State.biocideToRest_eq (s : State) : s.biocideToRest = s.setEngine .biocide (s.biocideToRest.engine .biocide) := by
  obtain ⟨e, he⟩ : ∃ e, s.biocideToRest = s.setEngine .biocide e :=
    ⟨_, by rw [State.biocideToRest, State.arriveRest_eq, State.setEngine_setEngine]⟩
  rw [he, State.engine_setEngine]

theorem State.biocideToRest_spared (s : State) (h : p ≠ .biocide) : Spared p s s.biocideToRest := by
  rw [State.biocideToRest_eq]
  exact s.setEngine_spared _ h

theorem State.releaseBiocide_spared (s : State) (h : p ≠ .biocide) : Spared p s s.releaseBiocide := by
  simp only [State.releaseBiocide]
  split
  · exact s.biocideToRest_spared h
  · exact .refl p s

/-- An abort acts on BIOCIDE and, through the requests, on DISCHARGE. -/
theorem State.abortCycle_spared (s : State) (hb : p ≠ .biocide) (hd : p ≠ .discharge) : Spared p s s.abortCycle := by
  have hafter (u : State) (q : Sequencer) : Spared p u
      ((((({ u with bio := q }).raise .biocideAborted).occur .biocideAborted).cycleNotice).request false false) :=
    (Spared.of_units (s := u) (t := { u with bio := q })).trans ((State.raise_spared _ _).trans
      ((Spared.of_units (t := State.occur _ _)).trans ((State.cycleNotice_spared _ hb).trans
        (State.request_spared _ _ _ hd))))
  simp only [State.abortCycle]
  split
  · exact (Spared.of_units (s := s) (t := s.pump false)).trans ((State.releaseBiocide_spared _ hb).trans (hafter _ _))
  · exact (State.releaseBiocide_spared _ hb).trans (hafter _ _)

/-- An evaluation spares the other pools, but for DISCHARGE at a yield of BIOCIDE. -/
theorem State.evaluate_spared (s : State) (h : p ≠ q) (hy : q = .biocide → p = .discharge → s.biocideYields = false) :
    Spared p s (s.evaluate q) := by
  simp only [State.evaluate]
  cases hs : (s.engine q).state with
  | asking =>
    dsimp only [State.evaluateAsking]
    split
    · exact s.setEngine_spared _ h
    · exact .refl p s
  | confirming =>
    dsimp only
    split
    · exact .refl p s
    · exact s.withdraw_spared h
  | holding =>
    dsimp only
    split
    · exact .refl p s
    · next hf =>
      simp only [State.yieldPool]
      split
      · next v hv =>
        have hvp := Pool.valve_pool hv
        subst hvp
        exact (s.release_spared _ _ _ h).trans (State.yield_count_spared _ h)
      · next hv =>
        have hb : q = .biocide := by cases q <;> first | rfl | cases hv
        subst hb
        have hd : p ≠ .discharge := by
          rintro rfl
          have := hy rfl rfl
          simp only [State.biocideYields, hs, beq_self_eq_true, Bool.true_and, Bool.not_eq_false'] at this
          exact hf this
        refine (s.biocideToRest_spared h).trans ((State.yield_count_spared _ h).trans ?_)
        simp only [State.abortIfRunning]
        split
        · exact State.abortCycle_spared _ h hd
        · exact .refl p _
  | rest | releasing | stuck | locked => exact .refl p s

end

end Sys2Proof.Machine
end

section
/-! SUPPORT. The three evaluations of a table event together, to the end of the event (R43 to R47, R60, R148). -/

namespace Sys2Proof.Machine
open Sys2Proof

set_option Elab.async false

section
variable {b s t u : State} {p q : Pool}

/-! ## Event flags through an event -/

theorem State.needNotice_flagsKept (s : State) (p : Pool) (n : Bool) (k : Nat) : FlagsKept s (s.needNotice p n k) :=
  .of_stats (s.needNotice_stats p n k)

theorem State.request_flagsKept (s : State) (a c : Bool) : FlagsKept s (s.request a c) :=
  .of_stats (State.recomputeDischarge_stats _)

theorem State.cycleNotice_flagsKept (s : State) : FlagsKept s s.cycleNotice := .of_stats s.cycleNotice_stats

theorem State.biocideToRest_stats (s : State) : s.biocideToRest.stats = s.stats := by
  rw [State.biocideToRest_eq, State.setEngine_stats]

theorem State.releaseBiocide_flagsKept (s : State) : FlagsKept s s.releaseBiocide := by
  simp only [State.releaseBiocide]
  split
  · exact .of_stats s.biocideToRest_stats
  · exact .of_flags

/-- What an abort does after its release request (R149). -/
def State.aborted (s : State) : State :=
  ((({ s with bio := { s.bio with cycle := .idle, interval := some 3600000, overdue := none, phase := none,
                                  abortMark := true } }.raise .biocideAborted).occur
    .biocideAborted).cycleNotice).request false false

theorem State.abortCycle_eq (s : State) :
    s.abortCycle = (if s.bio.cycle == .dosing then s.pump false else s).releaseBiocide.aborted := rfl

/-- R149: BIOCIDE ABORTED is raised. -/
theorem State.aborted_flag (s : State) : s.aborted.stats.flag .biocideAborted = true :=
  State.request_flagsKept _ _ _ _ (State.cycleNotice_flagsKept _ _ (State.raise_flag_self _ _))

theorem State.aborted_flagsKept (s : State) : FlagsKept s s.aborted := fun e h =>
  State.request_flagsKept _ _ _ e (State.cycleNotice_flagsKept _ e (State.raise_flag_of (s := { s with bio := _ }) h _))

theorem State.abortCycle_flagsKept (s : State) : FlagsKept s s.abortCycle := by
  rw [State.abortCycle_eq]
  refine FlagsKept.trans ?_ (State.aborted_flagsKept _)
  split
  · exact FlagsKept.trans (t := s.pump false) .of_flags (State.releaseBiocide_flagsKept _)
  · exact s.releaseBiocide_flagsKept

theorem State.yieldPool_flagsKept (s : State) (p : Pool) : FlagsKept s (s.yieldPool p) := by
  have hcount (u : State) : FlagsKept u ((u.raise .yield).count (.yields p) 1) :=
    (u.raise_flagsKept _).trans (State.count_flagsKept _ _ _)
  have habort (u : State) : FlagsKept u u.abortIfRunning := by
    simp only [State.abortIfRunning]
    split
    · exact u.abortCycle_flagsKept
    · exact .of_flags
  simp only [State.yieldPool]
  split
  · exact FlagsKept.trans (.of_stats (s.release_stats _ _ _ _)) (hcount _)
  · exact FlagsKept.trans (.of_stats s.biocideToRest_stats) ((hcount _).trans (habort _))

theorem State.evaluate_flagsKept (s : State) (p : Pool) : FlagsKept s (s.evaluate p) := by
  simp only [State.evaluate]
  cases (s.engine p).state with
  | asking =>
    dsimp only [State.evaluateAsking]
    split
    · exact .of_stats (by simp)
    · exact .of_flags
  | confirming =>
    dsimp only
    split
    · exact .of_flags
    · exact FlagsKept.trans (.of_stats (s.setEngine_stats p _))
        ((State.raise_flagsKept _ _).trans (State.count_flagsKept _ _ _))
  | holding =>
    dsimp only
    split
    · exact .of_flags
    · exact s.yieldPool_flagsKept p
  | rest | releasing | stuck | locked => exact .of_flags

theorem State.evaluateAll_flagsKept (s : State) : FlagsKept s s.evaluateAll := by
  have h3 (u : State) (a c d : Pool) : FlagsKept u (((u.evaluate a).evaluate c).evaluate d) :=
    (u.evaluate_flagsKept a).trans ((State.evaluate_flagsKept _ c).trans (State.evaluate_flagsKept _ d))
  simp only [State.evaluateAll]
  split
  · split
    · exact FlagsKept.trans (t := { s with freeIx := s.freeIx + 1 }) .of_flags (h3 _ _ _ _)
    · exact FlagsKept.trans (t := { s with freeIx := s.freeIx + 1 }) .of_flags (h3 _ _ _ _)
  · exact h3 _ _ _ _

theorem State.closingTest_flagsKept (s : State) : FlagsKept s s.closingTest := by
  simp only [State.closingTest]
  cases (s.engine .discharge).state with
  | rest | locked => exact FlagsKept.trans (t := { s with bio := _ }) .of_flags (.of_stats (State.cycleNotice_stats _))
  | stuck => exact s.abortCycle_flagsKept
  | asking | confirming | holding | releasing => exact .of_flags

theorem State.composeReports_flagsKept (s : State) (n : Nat) : FlagsKept s (s.composeReports n) :=
  fun _ h => State.composeReports_flag h n

theorem finish_flagsKept (b s : State) : FlagsKept s (State.finish b s) := by
  have htest : FlagsKept s (s.tested b) := by
    simp only [State.tested]
    split
    · exact s.closingTest_flagsKept
    · exact .of_flags
  have hcalm (u : State) : FlagsKept u (u.calmValveFault b) := by
    rw [State.calmValveFault_eq]
    exact .of_flags
  have hend (u : State) (n : Nat) : FlagsKept u (u.toldAfter b n) := by
    refine (u.composeReports_flagsKept n).trans (.of_flags ?_)
    rw [State.toldAfter, State.driveLines_stats, State.nameLast_eq]
  exact htest.trans ((hcalm _).trans (hend _ _))

/-! ## A yield of BIOCIDE (R47, R60, R148) -/

theorem State.request_bio (s : State) (a c : Bool) : (s.request a c).bio = s.bio :=
  (State.recomputeDischarge_frame { s with demand := { s.demand with force := a, suppress := c } }).1

theorem State.request_biocide (s : State) (a c : Bool) : (s.request a c).engine .biocide = s.engine .biocide :=
  (State.recomputeDischarge_frame { s with demand := { s.demand with force := a, suppress := c } }).2.2.1

theorem State.recomputeDischarge_requests (s : State) : s.recomputeDischarge.demand.force = s.demand.force ∧
    s.recomputeDischarge.demand.suppress = s.demand.suppress := by
  simp only [State.recomputeDischarge]
  split
  · exact ⟨rfl, rfl⟩
  · rw [(State.needNotice_claimOnly _ _ _ _).1]
    exact ⟨rfl, rfl⟩

theorem State.request_requests (s : State) (a c : Bool) : (s.request a c).demand.force = a ∧
    (s.request a c).demand.suppress = c :=
  State.recomputeDischarge_requests { s with demand := { s.demand with force := a, suppress := c } }

/-- R48, R60: an engine of BIOCIDE that waits by its need or rests goes to REST when the need falls. -/
theorem State.needNotice_rest {s : State} (h : (s.engine .biocide).state = .rest ∨
    ((s.engine .biocide).state = .asking ∧ (s.engine .biocide).need = true)) (base : Nat) :
    ((s.needNotice .biocide false base).engine .biocide).state = .rest ∧
      ((s.needNotice .biocide false base).engine .biocide).holdStart = (s.engine .biocide).holdStart := by
  rcases h with hs | ⟨hs, hn⟩
  · cases hn : (s.engine .biocide).need <;>
      simp [State.needNotice, State.needFalls, hn, hs, State.engine_setEngine]
  · simp [State.needNotice, State.needFalls, hn, hs, State.engine_setEngine, State.giveUpWaiting_eq, Engine.atRest]

theorem State.aborted_made (s : State) (h : (s.engine .biocide).state = .rest ∨
    ((s.engine .biocide).state = .asking ∧ (s.engine .biocide).need = true)) :
    (s.aborted.engine .biocide).state = .rest ∧
      (s.aborted.engine .biocide).holdStart = (s.engine .biocide).holdStart ∧
      s.aborted.bio.cycle = .idle ∧ s.aborted.bio.interval = some 3600000 ∧ s.aborted.bio.abortMark = true ∧
      s.aborted.demand.force = false ∧ s.aborted.demand.suppress = false := by
  have hnotice (u : State) (hu : u.engine .biocide = s.engine .biocide) (hc : u.bio.cycle = .idle) :
      (u.cycleNotice.engine .biocide).state = .rest ∧
        (u.cycleNotice.engine .biocide).holdStart = (s.engine .biocide).holdStart := by
    have hi (w : Sequencer) (hw : w.cycle = .idle) : (w.cycle == .due) = false := by rw [hw]; rfl
    simp only [State.cycleNotice, hi _ hc]
    rw [← hu]
    exact State.needNotice_rest (s := { u with demand := { u.demand with bBase := biocideBase u.bio } })
      (by rw [← hu] at h; exact h) _
  have hbio (u : State) : u.cycleNotice.bio = u.bio := by rw [State.cycleNotice_eq]; simp
  unfold State.aborted
  rw [State.request_biocide, State.request_bio, hbio]
  obtain ⟨h1, h2⟩ := hnotice (({ s with bio := { s.bio with
    cycle := .idle, interval := some 3600000, overdue := none, phase := none,
    abortMark := true } }.raise .biocideAborted).occur .biocideAborted) rfl rfl
  obtain ⟨h3, h4⟩ := State.request_requests ((({ s with bio := { s.bio with
    cycle := .idle, interval := some 3600000, overdue := none, phase := none,
    abortMark := true } }.raise .biocideAborted).occur .biocideAborted).cycleNotice) false false
  exact ⟨h1, h2, rfl, rfl, rfl, h3, h4⟩

/-- R60: the engine as it goes from HOLDING to REST, where R40 applies. -/
theorem State.biocideToRest_biocide (s : State) : s.biocideToRest.engine .biocide =
    if s.inRun && (s.engine .biocide).need then (s.engine .biocide).endHold.atRest.justAsking s.now
      else (s.engine .biocide).endHold.atRest := by
  rw [State.biocideToRest, State.arriveRest_eq, State.engine_setEngine, State.engine_setEngine]
  rfl

/-- R47, R60, R148: a yield of BIOCIDE. -/
theorem State.evaluate_biocideYielded (hlen : s.stats.counters.length = 20) (h : s.biocideYields = true) :
    BiocideYielded s (s.evaluate .biocide) := by
  simp only [State.biocideYields, Bool.and_eq_true, beq_iff_eq, Bool.not_eq_true'] at h
  obtain ⟨hs, hf⟩ := h
  have he : s.evaluate .biocide = ((s.biocideToRest.raise .yield).count (.yields .biocide) 1).abortIfRunning := by
    simp only [State.evaluate, hs, hf, Bool.false_eq_true, if_false, State.yieldPool, Pool.valve]
  rw [he]
  generalize hw : (s.biocideToRest.raise .yield).count (.yields .biocide) 1 = w
  have hengine : w.engine .biocide = if s.inRun && (s.engine .biocide).need then
      (s.engine .biocide).endHold.atRest.justAsking s.now else (s.engine .biocide).endHold.atRest := by
    rw [← hw, State.engine_count, State.engine_raise, State.biocideToRest_biocide]
  have hbio : w.bio = s.bio := by
    rw [← hw, State.biocideToRest_eq]
    simp
  have hflag : w.stats.flag .yield = true := by
    rw [← hw]
    exact State.count_flagsKept _ _ _ _ (State.raise_flag_self _ _)
  have hcount : w.stats.counter (.yields .biocide) = s.stats.counter (.yields .biocide) + 1 := by
    rw [← hw, State.count, Stats.count_counter_self (by rw [State.raise_counters, State.biocideToRest_stats]; exact hlen)]
    simp [Stats.counter, Stats.counterAt, State.biocideToRest_stats]
  have hhold : (w.engine .biocide).holdStart = none := by
    rw [hengine]
    split <;> rfl
  have hwaits : (w.engine .biocide).state = .rest ∨
      ((w.engine .biocide).state = .asking ∧ (w.engine .biocide).need = true) := by
    rw [hengine]
    split
    · next hn =>
      rw [Bool.and_eq_true] at hn
      exact .inr ⟨rfl, hn.2⟩
    · exact .inl rfl
  cases hc : s.bio.cycle.abortable
  · have habort : w.abortIfRunning = w := by simp [State.abortIfRunning, hbio, hc]
    rw [habort]
    refine ⟨hflag, hcount, hhold, fun h => (nomatch hc.symm.trans h), fun _ => ⟨hbio, ?_⟩⟩
    rw [hengine]
    cases hr : s.inRun <;> cases hn : (s.engine .biocide).need <;> rfl
  · have hrelease (u : State) (hu : u.engine .biocide = w.engine .biocide) : u.releaseBiocide = u := by
      simp only [State.releaseBiocide, hu]
      rcases hwaits with hx | ⟨hx, -⟩ <;> rw [hx] <;> rfl
    have habort : ∃ v : State, w.abortIfRunning = v.aborted ∧ v.engine .biocide = w.engine .biocide ∧ v.stats = w.stats := by
      simp only [State.abortIfRunning, hbio, hc, if_true, State.abortCycle_eq]
      split
      · exact ⟨w.pump false, by rw [hrelease _ (w.engine_pump _ _)], w.engine_pump _ _, rfl⟩
      · exact ⟨w, by rw [hrelease _ rfl], rfl, rfl⟩
    obtain ⟨v, hv, hve, hvs⟩ := habort
    rw [hv]
    obtain ⟨h1, h2, h3, h4, h5, h6, h7⟩ := v.aborted_made (by rw [hve]; exact hwaits)
    refine ⟨v.aborted_flagsKept _ (by rw [hvs]; exact hflag), ?_, by rw [h2, hve]; exact hhold,
      fun _ => ⟨h1, h3, h4, h5, v.aborted_flag, h6, h7⟩, fun h => (nomatch hc.symm.trans h)⟩
    have hstats : v.aborted.stats.counters = v.stats.counters := by
      have hrequest (u : State) : (u.request false false).stats = u.stats := State.recomputeDischarge_stats _
      rw [State.aborted, hrequest, State.cycleNotice_stats]
      rfl
    rw [← hcount, ← hvs]
    simp only [Stats.counter, Stats.counterAt, hstats]

end

end Sys2Proof.Machine
end

section
/-! SUPPORT. The table event as a whole: the three evaluations on the new table, and what stands at the event's end (R43,
R75, R145). -/

namespace Sys2Proof.Machine
open Sys2Proof

set_option Elab.async false

section
variable {b s t u : State} {p q : Pool}

/-! ## An event's end keeps the counters but for the reports it supersedes -/

theorem State.toldAfter_counter (s b : State) (n : Nat) {c : Counter} (h : c.number ≠ Counter.reportsSuperseded.number) :
    (s.toldAfter b n).stats.counter c = s.stats.counter c := by
  rw [State.toldAfter, State.driveLines_stats, State.nameLast_eq]
  exact s.composeReports_counter n h

theorem State.composeReports_length (s : State) (n : Nat) :
    (s.composeReports n).stats.counters.length = s.stats.counters.length := by
  induction n generalizing s with
  | zero => rfl
  | succ n ih =>
    rw [State.composeReports_succ, ih]
    simp only [State.composeReport, State.placeFrame]
    (repeat' split)
    · exact (congrArg List.length (s.stats.count_counters _ 1)).trans (List.length_set ..)
    · rfl
    · rfl

theorem State.toldAfter_length (s b : State) (n : Nat) :
    (s.toldAfter b n).stats.counters.length = s.stats.counters.length := by
  rw [State.toldAfter, State.driveLines_stats, State.nameLast_eq]
  exact s.composeReports_length n

theorem finish_counter (b s : State) {c : Counter} (h : c.number ≠ Counter.reportsSuperseded.number) :
    (State.finish b s).stats.counter c = (s.tested b).stats.counter c := by
  have hf : State.finish b s = ((s.tested b).calmValveFault b).toldAfter b (reportTriggers b ((s.tested b).calmValveFault b)) :=
    rfl
  rw [hf, State.toldAfter_counter _ _ _ h, State.calmValveFault_eq]
  rfl

theorem finish_length (b s : State) :
    (State.finish b s).stats.counters.length = (s.tested b).stats.counters.length := by
  have hf : State.finish b s = ((s.tested b).calmValveFault b).toldAfter b (reportTriggers b ((s.tested b).calmValveFault b)) :=
    rfl
  rw [hf, State.toldAfter_length, State.calmValveFault_eq]

/-- An event's end whose closing test does nothing spares every pool. -/
theorem finish_spared (b : State) {s : State} (ht : s.tested b = s) (p : Pool) : Spared p s (State.finish b s) where
  engine := by rw [finish_engine, ht]
  valve v _ := by rw [finish_valve, ht]
  withdrawals := by rw [finish_counter b s (by cases p <;> decide), ht]
  yields := by rw [finish_counter b s (by cases p <;> decide), ht]
  flags := finish_flagsKept b s
  length := by rw [finish_length, ht]
  now := by rw [finish_eq, ht]
  station := by rw [finish_eq, ht]
  peers := by rw [finish_eq, ht]

/-! ## Sequencer and requests at an evaluation -/

/-- An evaluation that is no yield of BIOCIDE leaves the sequencer and the demand. -/
theorem State.evaluate_apart (s : State) (p : Pool) (hy : p = .biocide → s.biocideYields = false) :
    (s.evaluate p).bio = s.bio ∧ (s.evaluate p).demand = s.demand := by
  simp only [State.evaluate]
  cases hs : (s.engine p).state with
  | asking =>
    dsimp only [State.evaluateAsking]
    split <;> simp
  | confirming =>
    dsimp only
    split
    · exact ⟨rfl, rfl⟩
    · simp [State.withdraw]
  | holding =>
    dsimp only
    split
    · exact ⟨rfl, rfl⟩
    · next hf =>
      simp only [State.yieldPool]
      split
      · next v _ =>
        obtain ⟨hdemand, -, hbio, -⟩ := s.release_claimOnly v true false true
        exact ⟨hbio, hdemand⟩
      · next hv =>
        have hb : p = .biocide := by cases p <;> first | rfl | cases hv
        subst hb
        have := hy rfl
        simp only [State.biocideYields, hs, beq_self_eq_true, Bool.true_and, Bool.not_eq_false'] at this
        exact absurd this hf
  | rest | releasing | stuck | locked => exact ⟨rfl, rfl⟩

/-- An evaluation of an engine with a valve spares the other pools. -/
theorem State.evaluate_valve_spared (s : State) (v : Valve) (h : p ≠ v.pool) : Spared p s (s.evaluate v.pool) :=
  s.evaluate_spared h (fun hb => absurd hb (Valve.pool_ne_biocide v))

theorem State.evaluate_valve_apart (s : State) (v : Valve) :
    (s.evaluate v.pool).bio = s.bio ∧ (s.evaluate v.pool).demand = s.demand :=
  s.evaluate_apart v.pool (fun hb => absurd hb (Valve.pool_ne_biocide v))

/-- An evaluation of BIOCIDE spares SUPPLY. -/
theorem State.evaluate_biocide_spared (s : State) : Spared .supply s (s.evaluate .biocide) :=
  s.evaluate_spared (by decide) (fun _ h => nomatch h)

theorem Spared.biocideYields (h : Spared .biocide s t) : t.biocideYields = s.biocideYields := by
  simp only [State.biocideYields, h.engine, h.fits]

theorem BiocideYielded.after_spared (k : Spared .biocide s u) (hb : u.bio = s.bio) (h : BiocideYielded u t) :
    BiocideYielded s t := by
  have hr : u.inRun = s.inRun := by simp only [State.inRun, k.station]
  unfold BiocideYielded at h ⊢
  rwa [k.yields, k.engine, hb, hr] at h

theorem BiocideYielded.then_spared (h : BiocideYielded s t) (k : Spared .biocide t u) (hb : u.bio = t.bio)
    (hd : u.demand = t.demand) : BiocideYielded s u := by
  obtain ⟨h1, h2, h3, h4, h5⟩ := h
  unfold BiocideYielded
  rw [k.yields, k.engine, hb, hd]
  refine ⟨k.flags _ h1, h2, h3, fun ha => ?_, h5⟩
  obtain ⟨ha1, ha2, ha3, ha4, ha5, ha6, ha7⟩ := h4 ha
  exact ⟨ha1, ha2, ha3, ha4, k.flags _ ha5, ha6, ha7⟩

/-- A yield of BIOCIDE leaves no cycle in CLOSING. -/
theorem BiocideYielded.not_closing (h : BiocideYielded s t) : t.bio.cycle ≠ .closing := by
  obtain ⟨-, -, -, hyes, hno⟩ := h
  cases hc : s.bio.cycle.abortable
  · rw [(hno hc).1]
    intro h
    rw [h] at hc
    cases hc
  · rw [(hyes hc).2.1]
    nofun

/-! ## The three evaluations -/

/-- R43: what the three evaluations make of the engines, whichever is taken first. -/
structure State.EvaluatedAll (s t : State) : Prop where
  supply : Evaluated s t .supply
  biocide : Evaluated s t .biocide
  yielded : s.biocideYields = true → BiocideYielded s t
  discharge : s.biocideYields = false → Evaluated s t .discharge
  apart : s.biocideYields = false → t.bio = s.bio

/-- Where BIOCIDE yields, the clauses for an engine with a valve say nothing of it. -/
theorem evaluated_biocide_of_yields (h : s.biocideYields = true) (t : State) : Evaluated s t .biocide := by
  simp only [State.biocideYields, Bool.and_eq_true, beq_iff_eq, Bool.not_eq_true'] at h
  obtain ⟨hs, hf⟩ := h
  have hstate {st : EngineState} (hne : st ≠ .holding) (h : (s.engine .biocide).state = st) : False := hne (h.symm.trans hs)
  have hfits (h : s.fits .biocide = true) : False := by rw [hf] at h; cases h
  refine ⟨fun h => (hstate (by decide) h).elim, fun h => (hstate (by decide) h).elim, fun _ h => (hfits h).elim,
    fun h => (hstate (by decide) h).elim, fun v hv => absurd hv (Valve.pool_ne_biocide v)⟩

theorem State.evaluateAll_of_yields (hlen : s.stats.counters.length = 20) (h : s.biocideYields = true) :
    s.EvaluatedAll s.evaluateAll := by
  have hno : s.biocideYields ≠ false := by rw [h]; decide
  have hbump (r : Pool) : Spared r s { s with freeIx := s.freeIx + 1 } := .of_units
  have hd (w : State) : Spared .biocide w (w.evaluate .discharge) := w.evaluate_valve_spared .blowdown (by decide)
  have hs (w : State) : Spared .biocide w (w.evaluate .supply) := w.evaluate_valve_spared .makeup (by decide)
  have hds (w : State) : Spared .supply w (w.evaluate .discharge) := w.evaluate_valve_spared .blowdown (by decide)
  generalize hw : ({ s with freeIx := s.freeIx + 1 } : State) = w at hbump
  have hwlen : w.stats.counters.length = 20 := (hbump .supply).length.trans hlen
  have hwbio : w.bio = s.bio := by rw [← hw]
  have hwy : w.biocideYields = true := (hbump .biocide).biocideYields.trans h
  simp only [State.evaluateAll, h, if_true, hw]
  split
  · refine ⟨?_, evaluated_biocide_of_yields h _, fun _ => ?_, fun h => absurd h hno, fun h => absurd h hno⟩
    · have hk := (hbump .supply).trans (w.evaluate_biocide_spared.trans (hds _))
      exact .after_spared hk (State.evaluate_evaluated (hk.length.trans hlen) _)
    · have hy := (State.evaluate_biocideYielded hwlen hwy).after_spared (hbump .biocide) hwbio
      have h1 := (w.evaluate .biocide).evaluate_valve_apart .blowdown
      have h2 := ((w.evaluate .biocide).evaluate .discharge).evaluate_valve_apart .makeup
      exact hy.then_spared ((hd _).trans (hs _)) (h2.1.trans h1.1) (h2.2.trans h1.2)
  · refine ⟨?_, evaluated_biocide_of_yields h _, fun _ => ?_, fun h => absurd h hno, fun h => absurd h hno⟩
    · have hk := (hbump .supply).trans (hds w)
      exact ((State.evaluate_evaluated (hk.length.trans hlen) .supply).after_spared hk).then_spared
        (State.evaluate_biocide_spared _)
    · have hk := (hbump .biocide).trans ((hd w).trans (hs _))
      have h1 := w.evaluate_valve_apart .blowdown
      have h2 := (w.evaluate .discharge).evaluate_valve_apart .makeup
      exact (State.evaluate_biocideYielded (hk.length.trans hlen) (hk.biocideYields.trans h)).after_spared hk
        (h2.1.trans (h1.1.trans hwbio))

theorem State.evaluateAll_of_not_yields (hlen : s.stats.counters.length = 20) (h : s.biocideYields = false) :
    s.EvaluatedAll s.evaluateAll := by
  have hyes : s.biocideYields ≠ true := by rw [h]; decide
  have he : s.evaluateAll = ((s.evaluate .discharge).evaluate .supply).evaluate .biocide := by
    simp only [State.evaluateAll, h, Bool.false_eq_true, if_false]
  rw [he]
  have hsd : Spared .supply s (s.evaluate .discharge) := s.evaluate_valve_spared .blowdown (by decide)
  have hbs : Spared .biocide s ((s.evaluate .discharge).evaluate .supply) :=
    (s.evaluate_valve_spared .blowdown (by decide)).trans (State.evaluate_valve_spared _ .makeup (by decide))
  have hny := hbs.biocideYields.trans h
  have hlast {r : Pool} (hr : r ≠ .biocide) : Spared r ((s.evaluate .discharge).evaluate .supply)
      (((s.evaluate .discharge).evaluate .supply).evaluate .biocide) := State.evaluate_spared _ hr (fun _ _ => hny)
  refine ⟨?_, ?_, fun h => absurd h hyes, fun _ => ?_, fun _ => ?_⟩
  · exact ((State.evaluate_evaluated (hsd.length.trans hlen) .supply).after_spared hsd).then_spared (hlast (by decide))
  · exact (State.evaluate_evaluated (hbs.length.trans hlen) .biocide).after_spared hbs
  · exact (State.evaluate_evaluated hlen .discharge).then_spared
      ((State.evaluate_valve_spared _ .makeup (by decide)).trans (hlast (by decide)))
  · exact (State.evaluate_apart _ _ (fun _ => hny)).1.trans ((State.evaluate_valve_apart _ .makeup).1.trans
      (s.evaluate_valve_apart .blowdown).1)

theorem State.evaluateAll_evaluated (hlen : s.stats.counters.length = 20) : s.EvaluatedAll s.evaluateAll := by
  cases h : s.biocideYields
  · exact State.evaluateAll_of_not_yields hlen h
  · exact State.evaluateAll_of_yields hlen h

/-! ## The closing test after the evaluations -/

/-- DISCHARGE is passive, or its yield would ask again: no evaluation brings it to REST. -/
def State.ClosingInert (s : State) : Prop := s.bio.cycle = .closing →
  (s.engine .discharge).state.passive = true ∨ (s.inRun = true ∧ (s.engine .discharge).need = true)

/-- An evaluation leaves a passive engine, and one with need in RUN in a state the closing test does not act on. -/
theorem Evaluated.discharge_state (h : Evaluated s t .discharge)
    (hp : (s.engine .discharge).state.passive = false) (hr : s.inRun = true) (hn : (s.engine .discharge).need = true) :
    (t.engine .discharge).state.passive = false ∨ (t.engine .discharge).state = .releasing := by
  obtain ⟨h1, h2, h3, h4, h5⟩ := h
  cases hs : (s.engine .discharge).state with
  | asking =>
    by_cases hx : (s.engine .discharge).windowExpired = true ∧ s.fits .discharge = true
    · rw [h1 hs hx.1 hx.2]
      exact .inl rfl
    · rw [h2 hs (by simpa [Decidable.imp_iff_not_or] using hx), hs]
      exact .inl rfl
  | confirming =>
    cases hf : s.fits .discharge
    · rw [(h4 hs hf).1]
      exact .inl rfl
    · rw [h3 (.inl hs) hf, hs]
      exact .inl rfl
  | holding =>
    cases hf : s.fits .discharge
    · rw [(h5 .blowdown rfl hs hf).1]
      split
      · simp [Engine.released, Engine.yielded, hn, hr, EngineState.passive]
      · exact .inr rfl
    · rw [h3 (.inr hs) hf, hs]
      exact .inl rfl
  | rest | releasing | stuck | locked => rw [hs] at hp; cases hp

theorem State.evaluate_of_passive (h : (s.engine p).state.passive = true) : s.evaluate p = s := by
  simp only [State.evaluate]
  cases hs : (s.engine p).state with
  | asking | confirming | holding => rw [hs] at h; cases h
  | rest | releasing | stuck | locked => rfl

theorem State.evaluateAll_tested (hlen : s.stats.counters.length = 20) (hi : s.ClosingInert)
    (hb : b.bio.cycle = s.bio.cycle) (he : (b.engine .discharge).state = (s.engine .discharge).state) :
    s.evaluateAll.tested b = s.evaluateAll := by
  have h := State.evaluateAll_evaluated hlen
  cases hy : s.biocideYields
  · by_cases hc : s.bio.cycle = .closing
    · have hcycle : s.evaluateAll.bio.cycle = b.bio.cycle := by rw [h.apart hy, hb]
      cases hp : (s.engine .discharge).state.passive
      · obtain ⟨hr, hn⟩ := (hi hc).resolve_left (by rw [hp]; decide)
        have hbusy := (h.discharge hy).discharge_state hp hr hn
        cases hd : closingTestDue b s.evaluateAll
        · exact State.tested_of_not_due hd
        · rw [State.tested_of_due hd, State.closingTest_of_busy hbusy]
      · have hsame : s.evaluateAll.engine .discharge = s.engine .discharge := by
          have heval : s.evaluateAll = (s.evaluate .supply).evaluate .biocide := by
            simp only [State.evaluateAll, hy, Bool.false_eq_true, if_false, State.evaluate_of_passive hp]
          have hsb : Spared .biocide s (s.evaluate .supply) := s.evaluate_valve_spared .makeup (by decide)
          have hsd : Spared .discharge s (s.evaluate .supply) := s.evaluate_valve_spared .makeup (by decide)
          rw [heval, (State.evaluate_spared _ (by decide) (fun _ _ => hsb.biocideYields.trans hy)).engine,
            hsd.engine]
        exact State.tested_of_not_due (closingTestDue_of_same hcycle (by rw [hsame, he]))
    · exact State.tested_of_not_due (closingTestDue_of_not_closing (by rw [h.apart hy]; exact hc))
  · exact State.tested_of_not_due (closingTestDue_of_not_closing (h.yielded hy).not_closing)

/-! ## The table event -/

theorem finish_effCap (b s : State) (p : Pool) : ((State.finish b s).engine p).effCap = (s.engine p).effCap := by
  rw [finish_engine]
  simp only [State.tested]
  split
  · exact (s.closingTest_acted).effCap p
  · rfl

/-- R36, R75: at the end of a table event each effective cap is the smallest again. -/
theorem finish_tableNotice_capsSmallest (b s : State) : CapsSmallest (State.finish b s.tableNotice) := by
  have hall := s.recomputeCaps.evaluateAll_acted
  obtain ⟨-, -, hstation, -, hpeers, -⟩ := State.finish_steady b s.tableNotice
  refine s.recomputeCaps_smallest.of_same ?_ ?_ (fun p => ?_)
  · rw [hstation, State.tableNotice, hall.station]
  · rw [hpeers, State.tableNotice, hall.peers]
  · rw [finish_effCap, State.tableNotice, hall.effCap]

/-- What a table event has changed before its evaluations: the table, and flags that it has raised. -/
structure TableChanged (s r : State) : Prop where
  claim : r.claim = s.claim
  blowdown : r.out.blowdown = s.out.blowdown
  makeup : r.out.makeup = s.out.makeup
  bio : r.bio = s.bio
  counters : r.stats.counters = s.stats.counters
  flags : FlagsKept s r
  now : r.now = s.now
  station : r.station = s.station

/-- The evaluations of a table event are made on its outcome's table and effective caps. -/
theorem evaluatedOn_tableNotice (h : TableChanged s u) : evaluatedOn s (State.finish s u.tableNotice) =
    { s with peers := u.peers, claim := u.recomputeCaps.claim } := by
  have hall := u.recomputeCaps.evaluateAll_acted
  have hcap p : ((State.finish s u.tableNotice).engine p).effCap = u.effectiveCap p := by
    rw [finish_effCap, State.tableNotice, hall.effCap, State.recomputeCaps_engine]
  have hpeers : (State.finish s u.tableNotice).peers = u.peers := by
    obtain ⟨-, -, -, -, hpeers, -⟩ := State.finish_steady s u.tableNotice
    rw [hpeers, State.tableNotice, hall.peers, State.recomputeCaps_peers]
  have hd := hcap .discharge
  have hs := hcap .supply
  have hb := hcap .biocide
  simp only [State.engine] at hd hs hb
  simp only [evaluatedOn, hpeers, hd, hs, hb, State.recomputeCaps, h.claim]

/-- R43: the evaluations of a table event. -/
theorem evaluationsMade_tableNotice (h : TableChanged s u) : EvaluationsMade s (State.finish s u.tableNotice) := by
  unfold EvaluationsMade
  intro w hlen hclosing
  have hw : w = { s with peers := u.peers, claim := u.recomputeCaps.claim } := evaluatedOn_tableNotice h
  clear_value w
  have hengine p : w.engine p = { s.engine p with effCap := u.effectiveCap p } := by
    have hsame : s.engine p = u.engine p := by cases p <;> simp only [State.engine, h.claim]
    rw [hw, hsame, ← State.recomputeCaps_engine]
    cases p <;> rfl
  have hk p : Spared p w u.recomputeCaps := by
    subst hw
    refine ⟨by cases p <;> rfl, fun v _ => ?_, ?_, ?_, h.flags, ?_, h.now, h.station, rfl⟩
    · cases v
      · exact h.blowdown
      · exact h.makeup
    all_goals simp only [Stats.counter, Stats.counterAt, State.recomputeCaps_stats, h.counters]
  have hbio : u.recomputeCaps.bio = w.bio := by
    rw [hw, State.recomputeCaps_bio, h.bio]
  have hrlen : u.recomputeCaps.stats.counters.length = 20 := by
    rw [State.recomputeCaps_stats, h.counters]
    exact hlen
  have hstate p : (u.recomputeCaps.engine p).state = (s.engine p).state := by rw [(hk p).engine, hengine]
  have hinert : u.recomputeCaps.ClosingInert := by
    intro hc
    rw [hstate, (hk .discharge).engine, hengine]
    have hr : u.recomputeCaps.inRun = s.inRun := congrArg (fun x : Station => x.state == .run) h.station
    rw [hr]
    exact hclosing (by rw [← hc, State.recomputeCaps_bio, h.bio])
  have htest : u.tableNotice.tested s = u.tableNotice :=
    State.evaluateAll_tested hrlen hinert (by rw [State.recomputeCaps_bio, h.bio]) (hstate _).symm
  have hall := State.evaluateAll_evaluated hrlen
  have hfin p : Spared p u.tableNotice (State.finish s u.tableNotice) := finish_spared s htest p
  have hpool {p : Pool} (hp : Evaluated u.recomputeCaps u.recomputeCaps.evaluateAll p) :
      Evaluated w (State.finish s u.tableNotice) p := (hp.after_spared (hk p)).then_spared (hfin p)
  have hyields : (s.engine .biocide).state = .holding ∧ w.fits .biocide = false ↔ u.recomputeCaps.biocideYields = true := by
    rw [(hk .biocide).biocideYields]
    simp only [State.biocideYields, hengine, Bool.and_eq_true, beq_iff_eq, Bool.not_eq_true']
  refine ⟨hpool hall.supply, hpool hall.biocide, fun hs hf => ?_, fun hno => ?_⟩
  · exact ((hall.yielded (hyields.mp ⟨hs, hf⟩)).after_spared (hk _) hbio).then_spared (hfin _)
      (by rw [finish_bio, htest]; rfl) (by rw [finish_demand, htest]; rfl)
  · exact hpool (hall.discharge (by rw [← Bool.not_eq_true, ← hyields]; exact hno))

end

end Sys2Proof.Machine
end

section
/-! SUPPORT. Entries of the peer table, latched alarms, and the entry to QUIET. -/

namespace Sys2Proof.Machine
open Sys2Proof

set_option Elab.async false

section
variable {b s t u : State} {p q : Pool}

/-! ## Entries by number (R65) -/

theorem find_putPeer (e : PeerEntry) (l : List PeerEntry) (n : Nat) :
    (putPeer e l).find? (fun x => x.number == n) =
      if n = e.number then some e else l.find? (fun x => x.number == n) := by
  induction l with
  | nil =>
    by_cases h : n = e.number
    · simp [putPeer, h]
    · simp [putPeer, h, Ne.symm h]
  | cons x l ih =>
    simp only [putPeer]
    split
    · next hlt =>
      rw [List.find?_cons, ih, List.find?_cons]
      cases hx : x.number == n
      · rfl
      · have hne : n ≠ e.number := by
          have := beq_iff_eq.mp hx
          omega
        exact (if_neg hne).symm
    · next hge =>
      split
      · next heq =>
        by_cases h : n = e.number
        · simp [h]
        · simp [h, heq, Ne.symm h]
      · by_cases h : n = e.number
        · simp [h]
        · simp [h, Ne.symm h]

theorem find_dropPeer (l : List PeerEntry) (m n : Nat) :
    (dropPeer n l).find? (fun x => x.number == m) =
      if m = n then none else l.find? (fun x => x.number == m) := by
  rw [dropPeer, List.find?_filter]
  split
  · next h =>
    rw [List.find?_eq_none]
    simp [h]
  · next h =>
    congr 1
    funext x
    by_cases hx : x.number = m
    · simp [hx, h]
    · simp [hx]

theorem find_map_number {f : PeerEntry → PeerEntry} (hf : ∀ e, (f e).number = e.number) (l : List PeerEntry) (n : Nat) :
    (l.map f).find? (fun x => x.number == n) = (l.find? (fun x => x.number == n)).map f := by
  rw [List.find?_map]
  congr 2
  funext x
  simp only [Function.comp, hf]

theorem State.makeStale_peerAt (s : State) (n m : Nat) : (s.makeStale n).peerAt m =
    if m = n then (s.peerAt m).map PeerEntry.stale else s.peerAt m := by
  have hnumber (e : PeerEntry) : (if e.number = n then e.stale else e).number = e.number := by split <;> rfl
  simp only [State.peerAt, State.makeStale]
  rw [find_map_number hnumber]
  cases h : s.peers.find? (fun e => e.number == m) with
  | none => simp
  | some e =>
    have he : e.number = m := by simpa using List.find?_some h
    simp only [Option.map_some, he]
    split <;> rfl

/-! ## A latched alarm (R178) -/

/-- An alarm stands on the list, active and unacknowledged. -/
def Latched (k : AlarmKind) (s : State) : Prop :=
  ({ kind := k, active := true, unack := true } : AlarmEntry) ∈ s.stats.alarms

theorem Latched.of_alarms {k : AlarmKind} (h : Latched k s) (ha : t.stats.alarms = s.stats.alarms := by rfl) : Latched k t := by
  rw [Latched, ha]
  exact h

theorem Latched.of_stats {k : AlarmKind} (h : Latched k s) (ha : t.stats = s.stats) : Latched k t :=
  h.of_alarms (by rw [ha])

theorem State.occur_latched (s : State) (k : AlarmKind) : Latched k (s.occur k) := by
  rw [Latched, State.occur_alarms]
  by_cases h : k ∈ s.stats.alarms.map AlarmEntry.kind
  · rw [latchAlarm_of_mem h]
    obtain ⟨e, he, rfl⟩ := List.mem_map.mp h
    exact List.mem_map.mpr ⟨e, he, AlarmEntry.onKind_self rfl⟩
  · rw [latchAlarm_of_not_mem h]
    exact List.mem_append_right _ (List.mem_singleton_self _)

theorem Latched.occur {k : AlarmKind} (h : Latched k s) (j : AlarmKind) : Latched k (s.occur j) := by
  by_cases hj : k = j
  · subst hj
    exact s.occur_latched k
  rw [Latched, State.occur_alarms]
  by_cases hm : j ∈ s.stats.alarms.map AlarmEntry.kind
  · rw [latchAlarm_of_mem hm]
    exact List.mem_map.mpr ⟨_, h, AlarmEntry.onKind_other hj⟩
  · rw [latchAlarm_of_not_mem hm]
    exact List.mem_append_left _ h

theorem Latched.calm {k j : AlarmKind} (h : Latched k s) (hj : k ≠ j) : Latched k (s.calm j) := by
  rw [Latched, State.calm_alarms]
  exact List.mem_map.mpr ⟨_, h, by simp [hj]⟩

theorem State.aborted_stats (s : State) :
    s.aborted.stats = ((s.raise .biocideAborted).occur .biocideAborted).stats := by
  have hrequest (u : State) : (u.request false false).stats = u.stats := State.recomputeDischarge_stats _
  rw [State.aborted, hrequest, State.cycleNotice_stats]
  rfl

theorem State.releaseBiocide_stats (s : State) : s.releaseBiocide.stats = s.stats := by
  simp only [State.releaseBiocide]
  split
  · exact s.biocideToRest_stats
  · rfl

theorem State.abortCycle_stats (s : State) :
    s.abortCycle.stats = ((s.raise .biocideAborted).occur .biocideAborted).stats := by
  have h (u : State) (hu : u.stats = s.stats) : u.releaseBiocide.aborted.stats =
      ((s.raise .biocideAborted).occur .biocideAborted).stats := by
    rw [State.aborted_stats]
    have := u.releaseBiocide_stats.trans hu
    simp only [State.occur, State.raise, this]
  rw [State.abortCycle_eq]
  split
  · exact h _ rfl
  · exact h _ rfl

theorem Latched.abortCycle {k : AlarmKind} (h : Latched k s) : Latched k s.abortCycle :=
  (Latched.occur (s := s.raise .biocideAborted) h .biocideAborted).of_stats s.abortCycle_stats

theorem Latched.abortIfRunning {k : AlarmKind} (h : Latched k s) : Latched k s.abortIfRunning := by
  simp only [State.abortIfRunning]
  split
  · exact h.abortCycle
  · exact h

theorem Latched.forcedRelease {k : AlarmKind} (h : Latched k s) (p : Pool) : Latched k (s.forcedRelease p) := by
  simp only [State.forcedRelease]
  cases (s.engine p).state with
  | holding =>
    dsimp only
    split
    · exact h.of_stats (s.release_stats _ _ _ _)
    · exact (h.of_stats s.biocideToRest_stats).abortIfRunning
  | asking | confirming =>
    exact h.of_stats (by rw [State.giveUpWaiting_eq, State.setEngine_stats])
  | rest | releasing | stuck | locked => exact h

theorem Latched.releaseAll {k : AlarmKind} (h : Latched k s) : Latched k s.releaseAll :=
  ((h.forcedRelease _).forcedRelease _).forcedRelease _

theorem Latched.closingTest {k : AlarmKind} (h : Latched k s) : Latched k s.closingTest := by
  simp only [State.closingTest]
  cases (s.engine .discharge).state with
  | rest | locked => exact h.of_stats (State.cycleNotice_stats _)
  | stuck => exact h.abortCycle
  | asking | confirming | holding | releasing => exact h

theorem State.composeReports_alarms (s : State) (n : Nat) : (s.composeReports n).stats.alarms = s.stats.alarms := by
  have hs := s.composeReports_slotsOnly n
  unfold SlotsOnly at hs
  rw [hs]

theorem Latched.finish {k : AlarmKind} (h : Latched k s) (b : State) (hk : k ≠ .valveFault) : Latched k (State.finish b s) := by
  have htest : Latched k (s.tested b) := by
    simp only [State.tested]
    split
    · exact h.closingTest
    · exact h
  have hcalm : Latched k ((s.tested b).calmValveFault b) := by
    simp only [State.calmValveFault]
    split
    · exact htest.calm hk
    · exact htest
  have hend (u : State) (n : Nat) : (u.toldAfter b n).stats.alarms = u.stats.alarms := by
    rw [State.toldAfter, State.driveLines_stats, State.nameLast_eq]
    exact u.composeReports_alarms n
  exact hcalm.of_alarms (hend _ _)

/-! ## Aborts and releases leave no cycle in a phase (R148) -/

theorem State.aborted_bio (s : State) : s.aborted.bio =
    { s.bio with cycle := .idle, interval := some 3600000, overdue := none, phase := none, abortMark := true } := by
  have hbio (u : State) : u.cycleNotice.bio = u.bio := by rw [State.cycleNotice_eq]; simp
  rw [State.aborted, State.request_bio, hbio]
  rfl

theorem State.abortIfRunning_not_abortable (s : State) : s.abortIfRunning.bio.cycle.abortable = false := by
  simp only [State.abortIfRunning]
  split
  · rw [State.abortCycle_eq, State.aborted_bio]
    rfl
  · next h => exact Bool.eq_false_iff.mpr h

theorem State.forcedRelease_not_abortable (h : s.bio.cycle.abortable = false) (p : Pool) :
    (s.forcedRelease p).bio.cycle.abortable = false := by
  cases p with
  | discharge | supply => rw [(State.forcedRelease_aside (by decide)).cycle]; exact h
  | biocide =>
    simp only [State.forcedRelease]
    cases (s.engine .biocide).state with
    | holding => exact State.abortIfRunning_not_abortable _
    | asking | confirming =>
      dsimp only
      rw [State.giveUpWaiting_eq, State.setEngine_bio]
      exact h
    | rest | releasing | stuck | locked => exact h

theorem State.releaseAll_not_abortable (h : s.bio.cycle.abortable = false) :
    s.releaseAll.bio.cycle.abortable = false :=
  State.forcedRelease_not_abortable (State.forcedRelease_not_abortable (State.forcedRelease_not_abortable h _) _) _

theorem State.engine_of_claim (h : t.claim = s.claim) (p : Pool) : t.engine p = s.engine p := by
  cases p <;> simp only [State.engine, h]

/-! ## The entry to QUIET (R168, R100, R77) -/

/-- R168, R100, R77: in QUIET, the slots and the table emptied, before the abort and the releases. -/
def State.quieted (s : State) : State :=
  { s with station := { s.station with state := .quiet, listen := none }, line := s.line.quiet }.emptyPeers

theorem State.enterQuiet_eq (s : State) : s.enterQuiet =
    (((s.quieted.calmIsolated s.station.state).abortIfRunning).releaseAll).feedResumed s.station.state := rfl

/-- A feed that resumes may count a stroke and give its pulse. -/
theorem State.feedResumed_parts (s : State) (before : StationState) :
    (s.feedResumed before).stats.alarms = s.stats.alarms ∧ FlagsKept s (s.feedResumed before) ∧
      (s.feedResumed before).meas = s.meas ∧ (s.feedResumed before).claim = s.claim := by
  have hstroke (u : State) : u.stroke.stats.alarms = u.stats.alarms ∧ FlagsKept u u.stroke ∧ u.stroke.meas = u.meas ∧
      u.stroke.claim = u.claim := by
    refine ⟨?_, ?_, rfl, rfl⟩
    · exact (State.count_alarms _ _ _).trans rfl
    · exact State.count_flagsKept _ _ _
  simp only [State.feedResumed, State.strokeTest]
  (repeat' split)
  · exact hstroke s
  · exact ⟨rfl, .of_flags, rfl, rfl⟩
  · exact ⟨rfl, .of_flags, rfl, rfl⟩

theorem State.enterQuiet_acted (s : State) : Acted s.quieted s.enterQuiet := by
  rw [State.enterQuiet_eq]
  exact (State.calmIsolated_acted _ _).trans ((State.abortIfRunning_acted _).trans ((State.releaseAll_acted _).trans
    (State.feedResumed_acted _ _)))

theorem State.enterQuiet_passive (s : State) (p : Pool) : (s.enterQuiet.engine p).state.passive = true := by
  rw [State.enterQuiet_eq, State.engine_of_claim (State.feedResumed_parts _ _).2.2.2]
  refine State.releaseAll_passive ?_ p
  rw [((State.calmIsolated_acted _ _).trans (State.abortIfRunning_acted _)).inRun]
  rfl

theorem State.enterQuiet_not_abortable (s : State) : s.enterQuiet.bio.cycle.abortable = false := by
  rw [State.enterQuiet_eq, (State.feedResumed_aside _ _).cycle]
  exact State.releaseAll_not_abortable (State.abortIfRunning_not_abortable _)

theorem State.enterQuiet_effCap (s : State) (p : Pool) : (s.enterQuiet.engine p).effCap = s.station.cfg.cap p := by
  rw [s.enterQuiet_acted.effCap, State.quieted, State.emptyPeers, State.recomputeCaps_engine]
  rfl

theorem State.enterQuiet_meas (s : State) : s.enterQuiet.meas = s.meas := by
  have hcalm (u : State) (st : StationState) : (u.calmIsolated st).meas = u.meas := by
    simp only [State.calmIsolated]
    split <;> rfl
  obtain ⟨-, -, -, hrelease, -⟩ := State.releaseAll_steady (s.quieted.calmIsolated s.station.state).abortIfRunning
  obtain ⟨-, -, -, habort, -⟩ := State.abortIfRunning_steady (s.quieted.calmIsolated s.station.state)
  obtain ⟨-, -, hfeed, -⟩ := State.feedResumed_parts (s.quieted.calmIsolated s.station.state).abortIfRunning.releaseAll
    s.station.state
  rw [State.enterQuiet_eq, hfeed, hrelease, habort, hcalm]
  rfl

theorem State.enterQuiet_flagsKept (s : State) : FlagsKept s s.enterQuiet := by
  have habort (u : State) : FlagsKept u u.abortIfRunning := by
    simp only [State.abortIfRunning]
    split
    · exact u.abortCycle_flagsKept
    · exact .of_flags
  have hforced (u : State) (p : Pool) : FlagsKept u (u.forcedRelease p) := by
    simp only [State.forcedRelease]
    cases (u.engine p).state with
    | holding =>
      dsimp only
      split
      · exact .of_stats (u.release_stats _ _ _ _)
      · exact FlagsKept.trans (.of_stats u.biocideToRest_stats) (habort _)
    | asking | confirming => exact .of_stats (by rw [State.giveUpWaiting_eq, State.setEngine_stats])
    | rest | releasing | stuck | locked => exact .of_flags
  have hcalm (u : State) (st : StationState) : FlagsKept u (u.calmIsolated st) := by
    simp only [State.calmIsolated]
    split <;> exact .of_flags
  rw [State.enterQuiet_eq]
  exact FlagsKept.trans (t := s.quieted) .of_flags ((hcalm _ _).trans ((habort _).trans
    ((hforced _ _).trans ((hforced _ _).trans ((hforced _ _).trans (State.feedResumed_parts _ _).2.1)))))

theorem Latched.enterQuiet {k : AlarmKind} (h : Latched k s) (hk : k ≠ .isolated) : Latched k s.enterQuiet := by
  have hcalm : Latched k (s.quieted.calmIsolated s.station.state) := by
    have hq : Latched k s.quieted := h.of_alarms
    simp only [State.calmIsolated]
    split
    · exact hq.calm hk
    · exact hq
  rw [State.enterQuiet_eq]
  exact hcalm.abortIfRunning.releaseAll.of_alarms (State.feedResumed_parts _ _).1

end

end Sys2Proof.Machine
end

section
/-! SUPPORT. The peer table's events (chapter 4): a report, a frame that is discarded, entries that age or leave, and the own
number. -/

namespace Sys2Proof.Machine
open Sys2Proof

set_option Elab.async false

section
variable {b s t u : State} {p q : Pool}

/-! ## Taking a frame (R66) -/

/-- The command that takes the frame at the head of the queue. -/
theorem exec_takeFrame {straps : BitVec 5} {f : List Byte} {rest : List (List Byte)} (hh : s.held = none)
    (hq : s.line.rxQueue = f :: rest) (hs : s.station.state ≠ .start) :
    exec (if byteAt f 1 = 1 then .reportProcessed straps else .leavingProcessed straps) s =
      .next (State.finish s (s.takeFrame straps (if byteAt f 1 = 1 then State.takeReport else State.takeLeaving))) := by
  by_cases hk : byteAt f 1 = 1
  · have hd : s.headIs .report = true := by simp [State.headIs, hq, hs, queuedKind, hk]
    simp only [hk, if_true, exec_reportProcessed, event_of_due hh hd]
  · have hkind : queuedKind f = .leaving := if_neg hk
    have hd : s.headIs .leaving = true := by simp [State.headIs, hq, hs, hkind]
    simp only [hk, if_false, exec_leavingProcessed, event_of_due hh hd]

theorem State.dequeue_eq {f : List Byte} {rest : List (List Byte)} (hq : s.line.rxQueue = f :: rest) :
    s.dequeue = { s with line := { s.line with rxQueue := rest } } := by
  simp only [State.dequeue, hq, List.tail_cons]

/-- R66: a frame of another station in a reporting state. -/
theorem State.takeFrame_other {straps : BitVec 5} {f : List Byte} {rest : List (List Byte)}
    (hq : s.line.rxQueue = f :: rest) (hn : nat1At f 2 < 32) (hr : s.station.state.reporting = true)
    (hne : nat1At f 2 ≠ s.station.number) (process : State → List Byte → State) :
    s.takeFrame straps process = process { s with line := { s.line with rxQueue := rest } } f := by
  have hstation : s.dequeue.station = s.station := rfl
  simp only [State.takeFrame, hq, List.headD_cons, hr, if_neg hne, Bool.not_true, Bool.false_eq_true, if_false,
    if_neg (Nat.not_le.mpr hn), State.dequeue_eq hq]

theorem not_start_of_reporting (h : s.station.state.reporting = true) : s.station.state ≠ .start := by
  intro hs
  rw [hs] at h
  cases h

theorem finish_rxQueue (b s : State) : (State.finish b s).line.rxQueue = s.line.rxQueue := by
  have ht : (s.tested b).line = s.line := by
    simp only [State.tested]
    split
    · exact s.closingTest_acted.line
    · rfl
  rw [finish_eq]
  show (s.tested b).line.rxQueue = s.line.rxQueue
  rw [ht]

/-- What a table event leaves beside the table's consequences. -/
theorem finish_tableNotice_same (b u : State) :
    (State.finish b u.tableNotice).line.rxQueue = u.line.rxQueue ∧ (State.finish b u.tableNotice).station = u.station ∧
      (State.finish b u.tableNotice).meas = u.meas ∧ (State.finish b u.tableNotice).now = u.now ∧
      (State.finish b u.tableNotice).peers = u.peers ∧ FlagsKept u (State.finish b u.tableNotice) := by
  obtain ⟨hnow, -, hstation, hmeas, hpeers, -⟩ := State.finish_steady b u.tableNotice
  obtain ⟨hnow', -, hstation', hmeas', hpeers', -⟩ := u.recomputeCaps.evaluateAll_steady
  refine ⟨?_, hstation.trans hstation', hmeas.trans hmeas', hnow.trans hnow', hpeers.trans hpeers', ?_⟩
  · rw [finish_rxQueue, State.tableNotice, u.recomputeCaps.evaluateAll_acted.line, State.recomputeCaps_line]
  · exact FlagsKept.trans (t := u.recomputeCaps) .of_flags
      ((u.recomputeCaps.evaluateAll_flagsKept).trans (finish_flagsKept _ _))

/-! ## A report (R68 to R70, R75, R76) -/

/-- R68 to R70, R76: the table and the flags as a report leaves them, before its notice. -/
def State.reported (s : State) (f : List Byte) : State :=
  State.mismatchNotice
    (if (s.peerAt (nat1At f 2)).isNone then
      ({ s with peers := putPeer (PeerEntry.updated (s.peerAt (nat1At f 2)) f s.station.cfg) s.peers } : State).raise .peerJoined
    else { s with peers := putPeer (PeerEntry.updated (s.peerAt (nat1At f 2)) f s.station.cfg) s.peers }) s.capMismatch

theorem State.takeReport_eq (s : State) (f : List Byte) : s.takeReport f = (s.reported f).tableNotice := rfl

theorem State.reported_eq (s : State) (f : List Byte) : s.reported f =
    { s with peers := putPeer (PeerEntry.updated (s.peerAt (nat1At f 2)) f s.station.cfg) s.peers,
             stats := { s.stats with flags := (s.reported f).stats.flags } } := by
  unfold State.reported State.mismatchNotice
  (repeat' split) <;> rfl

theorem State.mismatchNotice_flagsKept (s : State) (k : Bool) : FlagsKept s (s.mismatchNotice k) := by
  simp only [State.mismatchNotice]
  split
  · exact s.raise_flagsKept _
  · exact .of_flags

theorem State.reported_flagsKept (s : State) (f : List Byte) : FlagsKept s (s.reported f) := by
  unfold State.reported
  refine FlagsKept.trans ?_ (State.mismatchNotice_flagsKept _ _)
  split
  · exact FlagsKept.trans (t := { s with peers := _ }) .of_flags (State.raise_flagsKept _ _)
  · exact .of_flags

theorem State.reported_changed (s : State) (f : List Byte) : TableChanged s (s.reported f) := by
  have h := s.reported_eq f
  exact ⟨by rw [h], by rw [h], by rw [h], by rw [h], by rw [h], s.reported_flagsKept f, by rw [h], by rw [h]⟩

theorem State.reported_peerJoined {f : List Byte} (h : s.peerAt (nat1At f 2) = none) :
    (s.reported f).stats.flag .peerJoined = true := by
  unfold State.reported
  rw [h]
  exact State.mismatchNotice_flagsKept _ _ _ (State.raise_flag_self _ _)

theorem State.reported_capMismatch {f : List Byte} (h : s.capMismatch = false) (ht : (s.reported f).capMismatch = true) :
    (s.reported f).stats.flag .capMismatch = true := by
  unfold State.reported at ht ⊢
  generalize (if (s.peerAt (nat1At f 2)).isNone = true then _ else _ : State) = u at ht ⊢
  rw [h] at ht ⊢
  simp only [State.mismatchNotice, Bool.not_false, Bool.true_and] at ht ⊢
  split
  · exact State.raise_flag_self _ _
  · next hno =>
    rw [if_neg hno] at ht
    exact absurd ht hno

theorem State.reported_peerAt (s : State) (f : List Byte) (n : Nat) : (s.reported f).peerAt n =
    if n = nat1At f 2 then some (PeerEntry.updated (s.peerAt (nat1At f 2)) f s.station.cfg) else s.peerAt n := by
  rw [State.reported_eq, State.peerAt, find_putPeer, PeerEntry.updated_number]
  rfl

/-- R69, R70, R76: the entry a report leaves. -/
theorem PeerEntry.updated_eq (old : Option PeerEntry) (f : List Byte) (c : EffConfig) : PeerEntry.updated old f c =
    { PeerEntry.ofReport f with
      missed := (match old with
        | none => 0
        | some o => min 65535 (o.missed + if byteAt f 3 = o.lastSeq then 0 else (byteAt f 3 - o.lastSeq - 1).toNat)),
      mismatch := decide (nat2At f 9 ≠ c.capDischarge ∨ nat2At f 15 ≠ c.capSupply ∨ nat2At f 21 ≠ c.capBiocide) } := by
  have hmark : (PeerEntry.ofReport f).disagrees c =
      decide (nat2At f 9 ≠ c.capDischarge ∨ nat2At f 15 ≠ c.capSupply ∨ nat2At f 21 ≠ c.capBiocide) := by
    rw [Bool.eq_iff_iff]
    simp [PeerEntry.disagrees, PeerEntry.ofReport, PoolRecord.ofBytes, or_assoc]
  cases old <;> simp only [PeerEntry.updated, PeerEntry.marked, hmark] <;> rfl

/-- R41, R43: where no engine waits or holds, a table notice moves none. -/
theorem State.tableNotice_of_passive (h : ∀ p, (s.engine p).state.passive = true) : s.tableNotice = s.recomputeCaps := by
  have hp p : (s.recomputeCaps.engine p).state.passive = true := by
    rw [State.recomputeCaps_engine]
    exact h p
  have hy : s.recomputeCaps.biocideYields = false := by
    have := hp .biocide
    simp only [State.biocideYields]
    cases hs : (s.recomputeCaps.engine .biocide).state with
    | holding => rw [hs] at this; cases this
    | rest | asking | confirming | releasing | stuck | locked => rfl
  simp only [State.tableNotice, State.evaluateAll, hy, Bool.false_eq_true, if_false, State.evaluate_of_passive (hp _)]

/-- R41, R43: a table event that moves no engine and raises no flag ends with the new table and its effective caps. -/
theorem finish_tableNotice_of_passive (h : ∀ p, (s.engine p).state.passive = true) (hl : LinesFollow s)
    (hc : u.claim = s.claim) (hh : u.held = s.held) (hst : u.station = s.station) (hs : u.stats = s.stats)
    (ho : u.out = s.out) (hp : u.port = s.port) (hb : u.bio = s.bio) (hm : u.meas = s.meas) (hf : u.feed = s.feed) :
    State.finish s u.tableNotice = u.recomputeCaps := by
  have hengine p : u.engine p = s.engine p := State.engine_of_claim hc p
  rw [State.tableNotice_of_passive (fun p => by rw [hengine]; exact h p)]
  have hlines : LinesFollow u.recomputeCaps :=
    hl.of_same hh (by rw [State.recomputeCaps_station, hst]) hs (congrArg Output.relay ho) (congrArg Port.attention hp)
  rw [finish_of_quiet, driveLines_of_linesFollow hlines]
  · exact fun p => by rw [State.recomputeCaps_engine, hengine]
  · rw [State.recomputeCaps_bio, hb]
  · simp only [State.valveFault, State.recomputeCaps, hc]
    rfl
  · rw [State.recomputeCaps_stats, hs]
  · rw [State.recomputeCaps_stats, hs]
  · rw [State.recomputeCaps_meas, hm]
  · rw [State.recomputeCaps_feed, hf]
  · rw [State.recomputeCaps_feed, hf]

/-- Settles O20, by the three evaluations of a table event on the table the report leaves. -/
theorem reportReplacesTheEntryAlone : Obligations.ReportReplacesTheEntryAlone := by
  unfold Obligations.ReportReplacesTheEntryAlone
  refine ⟨fun straps f rest s hh hr hq hk hn hne => ?_, fun straps f rest s hl hr hq hk hn hne hsome hmis hpass => ?_⟩
  all_goals
    have hexec := exec_takeFrame (straps := straps) (by first | exact hh | exact hl.1) hq (not_start_of_reporting hr)
    rw [if_pos hk, if_pos hk, State.takeFrame_other hq hn hr hne, State.takeReport_eq] at hexec
  · generalize hu : ({ s with line := { s.line with rxQueue := rest } } : State) = u at hexec
    have hchanged : TableChanged s (u.reported f) := by
      obtain ⟨h1, h2, h3, h4, h5, h6, h7, h8⟩ := u.reported_changed f
      subst hu
      exact ⟨h1, h2, h3, h4, h5, h6, h7, h8⟩
    have heq := u.reported_eq f
    obtain ⟨hrx, hst, hme, hnow, hpeers, hflags⟩ := finish_tableNotice_same s (u.reported f)
    have hat n : (State.finish s (u.reported f).tableNotice).peerAt n =
        if n = nat1At f 2 then some (PeerEntry.updated (s.peerAt (nat1At f 2)) f s.station.cfg) else s.peerAt n := by
      rw [State.peerAt, hpeers]
      subst hu
      exact State.reported_peerAt _ f n
    refine ⟨_, hexec, linesFollow_finish _ _, ?_, hst.trans hchanged.station, ?_, hnow.trans hchanged.now, ?_,
      fun n _ hnn => ?_, fun hnone => ?_, fun h1 h2 => ?_, finish_tableNotice_capsSmallest _ _,
      evaluationsMade_tableNotice hchanged⟩
    · rw [hrx, heq, ← hu]
    · rw [hme, heq, ← hu]
    · rw [hat, if_pos rfl]
      exact congrArg some (PeerEntry.updated_eq _ _ _)
    · rw [hat, if_neg hnn]
    · refine hflags _ (State.reported_peerJoined ?_)
      rw [← hu]
      exact hnone
    · refine hflags _ (State.reported_capMismatch (s := u) ?_ ?_)
      · rw [← hu]
        exact h1
      · rw [State.capMismatch, ← hpeers]
        exact h2
  · generalize hu : ({ s with line := { s.line with rxQueue := rest } } : State) = u at hexec
    have hsome' : (u.peerAt (nat1At f 2)).isNone = false := by
      have : (s.peerAt (nat1At f 2)).isNone = false := by simpa using hsome
      rw [← this, ← hu]
      rfl
    have hmis' : u.capMismatch = true := by
      rw [← hmis, ← hu]
      rfl
    have hrep : u.reported f =
        { u with peers := putPeer (PeerEntry.updated (u.peerAt (nat1At f 2)) f u.station.cfg) u.peers } := by
      simp only [State.reported, State.mismatchNotice, hsome', hmis', Bool.not_true, Bool.false_and, Bool.false_eq_true,
        if_false]
    rw [hrep, finish_tableNotice_of_passive hpass hl.2] at hexec
    · exact ⟨_, hexec, by rw [← hu]; rfl, fun p => by rw [State.recomputeCaps_engine, ← hu]; cases p <;> rfl⟩
    all_goals rw [← hu]

/-! ## A discarded frame (R66, R73) -/

/-- A change of the queue alone ends with the change. -/
theorem finish_of_queue {rest : List (List Byte)} (hl : LinesFollow s) :
    State.finish s { s with line := { s.line with rxQueue := rest } } = { s with line := { s.line with rxQueue := rest } } := by
  have hlines : LinesFollow { s with line := { s.line with rxQueue := rest } } := hl.of_same rfl rfl rfl rfl rfl
  rw [finish_of_same (b := s) (s := { s with line := { s.line with rxQueue := rest } }) rfl rfl rfl rfl rfl rfl
    (State.nameLast_of_same rfl)]
  exact driveLines_of_linesFollow hlines

/-- The counters of the tower line, one group of R173. -/
def Counter.towerLine : List Counter :=
  [.reportsDelivered, .reportsLost, .framesReceived, .framesDamaged, .framesForeign, .receiveOverruns, .reportsSuperseded]

/-- Counting of the tower line's group leaves the choice of the last counter field alone (R173). -/
theorem finish_of_line_count {c : Counter} (hc : c ∈ Counter.towerLine)
    (hcl : u.claim = s.claim) (hb : u.bio = s.bio) (hst : u.stats = s.stats)
    (hm : u.meas = s.meas) (hf : u.feed = s.feed) : State.finish s (u.count c 1) = (u.count c 1).driveLines := by
  refine finish_of_same hcl hb ?_ hm (congrArg Feed.mismatch hf) (congrArg Feed.backlog hf) ?_
  · rw [State.count_alarms, hst]
  · refine State.nameLast_of_group Counter.towerLine (fun k hk hne d hd => ?_)
    have hnumber : ∀ k ∈ Counter.groups, k ≠ Counter.towerLine → ∀ d ∈ k, ∀ c ∈ Counter.towerLine,
        d.number ≠ c.number := by
      decide
    rw [State.count, Stats.count_counter_of_ne _ _ (hnumber k hk hne d hd c hc), hst]

/-- Settles O21, by the branches of R66 in order. -/
theorem discardedFrameChangesNothing : Obligations.DiscardedFrameChangesNothing := by
  unfold Obligations.DiscardedFrameChangesNothing
  intro straps f rest s hl hq hs c u
  have hu : s.dequeue = u := State.dequeue_eq hq
  have hexec : exec c s = .next (State.finish s (s.takeFrame straps
      (if byteAt f 1 = 1 then State.takeReport else State.takeLeaving))) := exec_takeFrame hl.1 hq hs
  have hsame : State.finish s u = u := finish_of_queue hl.2
  refine ⟨fun hn => ?_, fun hn hst => ?_, fun hn hne hr hk hnone => ?_⟩
  · have htake (process : State → List Byte → State) : s.takeFrame straps process = u.count .framesForeign 1 := by
      simp only [State.takeFrame, hq, List.headD_cons, if_pos hn, hu]
    rw [hexec, htake]
    exact congrArg Host.Outcome.next (finish_of_line_count (c := .framesForeign) (by decide) rfl rfl rfl rfl rfl)
  · have hr : s.station.state.reporting = false := by rcases hst with h | h <;> rw [h] <;> rfl
    have htake (process : State → List Byte → State) : s.takeFrame straps process = u := by
      have hr' : u.station.state.reporting = false := hr
      simp only [State.takeFrame, hq, List.headD_cons, if_neg (Nat.not_le.mpr hn), hr, Bool.not_false, if_true, hu]
    rw [hexec, htake, hsame]
  · rw [hexec, if_neg hk, State.takeFrame_other hq hn hr hne]
    have htake : State.takeLeaving u f = u := by
      have hnone' : u.peerAt (nat1At f 2) = none := hnone
      simp only [State.takeLeaving, hnone', Option.isSome_none, Bool.false_eq_true, if_false]
    exact congrArg Host.Outcome.next (Eq.trans (congrArg (State.finish s) htake) hsame)

/-! ## Entries that age or leave (R71 to R73) -/

/-- The table with an entry made STALE, and with one deleted. -/
theorem State.makeStale_changed (s : State) (n : Nat) : TableChanged s ((s.makeStale n).raise .peerStale) :=
  ⟨rfl, rfl, rfl, rfl, rfl, FlagsKept.trans (t := s.makeStale n) .of_flags (State.raise_flagsKept _ _), rfl, rfl⟩

/-- R72, R73: the table without a number's entry, and PEER DROPPED. -/
def State.dropped (s : State) (n : Nat) : State := ({ s with peers := dropPeer n s.peers } : State).raise .peerDropped

theorem State.deletePeer_eq (s : State) (n : Nat) : s.deletePeer n = (s.dropped n).tableNotice := rfl

theorem State.dropped_changed (s : State) (n : Nat) : TableChanged s (s.dropped n) :=
  ⟨rfl, rfl, rfl, rfl, rfl, FlagsKept.trans (t := { s with peers := dropPeer n s.peers }) .of_flags
    (State.raise_flagsKept _ _), rfl, rfl⟩

theorem State.dropped_peerAt (s : State) (m n : Nat) : (s.dropped n).peerAt m = if m = n then none else s.peerAt m :=
  find_dropPeer _ _ _

/-- R72, R73: what an event that deletes an entry ends with. -/
theorem finish_deletePeer {n : Nat} (h : TableChanged s (u.dropped n)) (hp : u.peers = s.peers) (hm : u.meas = s.meas) :
    let t := State.finish s (u.deletePeer n)
    t.peerAt n = none ∧ t.stats.flag .peerDropped = true ∧ (∀ m ∈ List.range 40, m ≠ n → t.peerAt m = s.peerAt m) ∧
      t.station = s.station ∧ t.meas = s.meas ∧ t.line.rxQueue = u.line.rxQueue ∧ CapsSmallest t ∧
      EvaluationsMade s t := by
  rw [State.deletePeer_eq]
  intro t
  obtain ⟨hrx, hst, hme, -, hpeers, hflags⟩ := finish_tableNotice_same s (u.dropped n)
  have hat m : t.peerAt m = if m = n then none else s.peerAt m := by
    have : t.peerAt m = (u.dropped n).peerAt m := by rw [State.peerAt, hpeers]; rfl
    rw [this, State.dropped_peerAt, State.peerAt, State.peerAt, hp]
  refine ⟨by rw [hat, if_pos rfl], hflags _ (State.raise_flag_self _ _), fun m _ hne => by rw [hat, if_neg hne],
    hst.trans h.station, hme.trans hm, hrx, finish_tableNotice_capsSmallest _ _, evaluationsMade_tableNotice h⟩

/-- Settles O22, by the three evaluations of a table event on the table without the entry or with it STALE. -/
theorem entriesAgeAndLeave : Obligations.EntriesAgeAndLeave := by
  unfold Obligations.EntriesAgeAndLeave
  refine fun straps n e f rest s hh => ⟨fun hr hq hk hn hne hsome => ?_, fun he hf ha => ?_, fun he ha => ?_⟩
  · have hexec := exec_takeFrame (straps := straps) hh hq (not_start_of_reporting hr)
    rw [if_neg hk, if_neg hk, State.takeFrame_other hq hn hr hne] at hexec
    generalize hu : ({ s with line := { s.line with rxQueue := rest } } : State) = u at hexec
    have hsome' : (u.peerAt (nat1At f 2)).isSome = true := by
      rw [← hsome, ← hu]
      rfl
    have hchanged : TableChanged s (u.dropped (nat1At f 2)) := by
      obtain ⟨h1, h2, h3, h4, h5, h6, h7, h8⟩ := u.dropped_changed (nat1At f 2)
      subst hu
      exact ⟨h1, h2, h3, h4, h5, h6, h7, h8⟩
    obtain ⟨k1, k2, k3, k4, k5, k6, k7, k8⟩ := finish_deletePeer hchanged (by rw [← hu]) (by rw [← hu])
    simp only [State.takeLeaving, hsome', if_true] at hexec
    exact ⟨_, hexec, k6.trans (by rw [← hu]), k1, k2, k3, k4, k5, k7, k8⟩
  · have hd : s.staleDue n = true := by simp [State.staleDue, he, hf, Config.staleAfter, ha]
    have hchanged := s.makeStale_changed n
    obtain ⟨hrx, hst, hme, -, hpeers, hflags⟩ := finish_tableNotice_same s ((s.makeStale n).raise .peerStale)
    have hat m : (State.finish s ((s.makeStale n).raise .peerStale).tableNotice).peerAt m =
        if m = n then (s.peerAt m).map PeerEntry.stale else s.peerAt m := by
      rw [State.peerAt, hpeers]
      exact State.makeStale_peerAt s n m
    refine ⟨_, (exec_peerStale n s).trans (event_of_due hh hd), ?_, hflags _ (State.raise_flag_self _ _), fun m _ hne => ?_,
      hst, hme, hrx, finish_tableNotice_capsSmallest _ _, evaluationsMade_tableNotice hchanged⟩
    · rw [hat, if_pos rfl, he]
      rfl
    · rw [hat, if_neg hne]
  · have hd : s.dropDue n = true := by simp [State.dropDue, he, Config.dropAfter, ha]
    obtain ⟨k1, k2, k3, k4, k5, k6, k7, k8⟩ := finish_deletePeer (s.dropped_changed n) rfl rfl
    exact ⟨_, (exec_peerDropped n s).trans (event_of_due hh hd), k1, k2, k3, k4, k5, k6, k7, k8⟩

/-! ## The own number (R74, R168, R169) -/

/-- R74: the occurrence and the entry to QUIET. -/
def State.duplicated (s : State) : State := ((s.raise .duplicateStation).occur .duplicateStation).enterQuiet

theorem State.duplicate_eq (s : State) (straps : BitVec 5) :
    s.duplicate straps = if s.station.restartPending then s.duplicated.warmRestart straps else s.duplicated := by
  have hst : s.duplicated.station.restartPending = s.station.restartPending := by
    have h := ((s.raise .duplicateStation).occur .duplicateStation).enterQuiet_acted.station
    exact (congrArg Station.restartPending h).trans rfl
  rw [← hst]
  rfl

theorem State.takeFrame_own {straps : BitVec 5} {f : List Byte} {rest : List (List Byte)}
    (hq : s.line.rxQueue = f :: rest) (hn : nat1At f 2 < 32) (hr : s.station.state.reporting = true)
    (he : nat1At f 2 = s.station.number) (process : State → List Byte → State) :
    s.takeFrame straps process = ({ s with line := { s.line with rxQueue := rest } } : State).duplicate straps := by
  simp only [State.takeFrame, hq, List.headD_cons, hr, if_pos he, Bool.not_true, Bool.false_eq_true, if_false,
    if_neg (Nat.not_le.mpr hn), State.dequeue_eq hq]

/-- In a state that composes none, an event's end leaves the tower line. -/
theorem finish_line_of_silent (h : s.station.state.reporting = false) (b : State) : (State.finish b s).line = s.line := by
  have hline : ((s.tested b).calmValveFault b).line = s.line ∧ ((s.tested b).calmValveFault b).station = s.station := by
    rw [State.calmValveFault_eq]
    simp only [State.tested]
    split
    · exact ⟨s.closingTest_acted.line, s.closingTest_acted.station⟩
    · exact ⟨rfl, rfl⟩
  have hf : State.finish b s = ((s.tested b).calmValveFault b).toldAfter b (reportTriggers b ((s.tested b).calmValveFault b)) :=
    rfl
  have hsilent : ((s.tested b).calmValveFault b).composes = false := by
    simp only [State.composes, hline.2, h, Bool.false_and]
  rw [hf, State.toldAfter, State.composeReports_of_silent hsilent, State.driveLines_line, State.nameLast_line, hline.1]

theorem State.warmRestart_station (s : State) (straps : BitVec 5) :
    ((s.warmRestart straps).station.state = .start ∨ (s.warmRestart straps).station.state = .configFault) ∧
      (s.warmRestart straps).station.causes.command = true ∧ (s.warmRestart straps).station.number = straps.toNat ∧
      (s.warmRestart straps).peers = [] := by
  simp only [State.warmRestart, State.readStraps]
  split
  · exact ⟨.inr rfl, rfl, rfl, rfl⟩
  · exact ⟨.inl rfl, rfl, rfl, rfl⟩

/-- Settles O23, by the entry to QUIET and what its end leaves in it. -/
theorem duplicateGoesQuiet : Obligations.DuplicateGoesQuiet := by
  unfold Obligations.DuplicateGoesQuiet
  intro straps f rest s hh hr hq hn he c
  have hexec : exec c s = .next (State.finish s (s.takeFrame straps
      (if byteAt f 1 = 1 then State.takeReport else State.takeLeaving))) :=
    exec_takeFrame hh hq (not_start_of_reporting hr)
  rw [State.takeFrame_own hq hn hr he, State.duplicate_eq] at hexec
  generalize hu : ({ s with line := { s.line with rxQueue := rest } } : State) = u at hexec
  refine ⟨fun hp => ?_, fun hp => ?_⟩
  · have hp' : u.station.restartPending = false := by rw [← hp, ← hu]
    rw [hp', if_neg (by decide)] at hexec
    have hacted := ((u.raise .duplicateStation).occur .duplicateStation).enterQuiet_acted
    have hstation : u.duplicated.station = { s.station with state := .quiet, listen := none } := by
      rw [State.duplicated, hacted.station, ← hu]
      rfl
    have hline : u.duplicated.line = u.line.quiet := by
      rw [State.duplicated, hacted.line]
      rfl
    have hnot : u.duplicated.bio.cycle.abortable = false := State.enterQuiet_not_abortable _
    have htest : u.duplicated.tested s = u.duplicated :=
      State.tested_of_not_due (closingTestDue_of_not_closing (fun hc => by rw [hc] at hnot; cases hnot))
    obtain ⟨-, -, hst, hme, hpe, -⟩ := State.finish_steady s u.duplicated
    have hfline := finish_line_of_silent (s := u.duplicated) (by rw [hstation]; rfl) s
    rw [hline] at hfline
    refine ⟨_, hexec, linesFollow_finish _ _, hst.trans hstation, ?_, hpe.trans hacted.peers, ?_, ?_, ?_, ?_, ?_, ?_, ?_,
      fun p => ⟨?_, ?_⟩, ?_, ?_⟩
    · rw [hfline, ← hu]
      rfl
    · rw [hfline]
      rfl
    · rw [hfline]
      rfl
    · rw [hfline]
      rfl
    · rw [hfline]
      rfl
    · rw [hfline, ← hu]
      rfl
    · exact finish_flagsKept _ _ _ (State.enterQuiet_flagsKept _ _ (State.raise_flag_self _ _))
    · exact ((State.occur_latched _ _).enterQuiet (by decide)).finish _ (by decide)
    · rw [finish_engine, htest]
      exact State.enterQuiet_passive _ _
    · rw [finish_engine, htest, State.duplicated, State.enterQuiet_effCap, ← hu]
      rfl
    · rw [finish_bio, htest]
      exact hnot
    · rw [hme, State.duplicated, State.enterQuiet_meas, ← hu]
      rfl
  · have hp' : u.station.restartPending = true := by rw [← hp, ← hu]
    rw [hp', if_pos rfl] at hexec
    obtain ⟨h1, h2, h3, h4⟩ := State.warmRestart_station u.duplicated straps
    obtain ⟨-, -, hst, -, hpe, -⟩ := State.finish_steady s (u.duplicated.warmRestart straps)
    refine ⟨_, hexec, ?_, ?_, ?_, hpe.trans h4⟩
    · rw [hst]
      exact h1
    · rw [hst]
      exact h2
    · rw [hst]
      exact h3

end

end Sys2Proof.Machine
end

section
/-! SUPPORT. The transmit path (chapter 5): composition and the report timer; and which counters an event keeps. -/

namespace Sys2Proof.Machine
open Sys2Proof

set_option Elab.async false

section
variable {b s t u : State} {p q : Pool} {l : List Counter}

/-! ## Counters kept -/

/-- Every counter number names a counter. -/
theorem Counter.exists_number : ∀ i < 20, ∃ c ∈ Counter.groups.flatten, c.number = i + 1 := by decide

theorem CountersKept.of_counter (h : ∀ c : Counter, c.number ∉ l.map Counter.number → t.stats.counter c = s.stats.counter c) :
    CountersKept s t l := by
  intro i hi hn
  obtain ⟨c, -, hc⟩ := Counter.exists_number i hi
  have := h c (by rw [hc]; exact hn)
  simpa only [Stats.counter, hc] using this

theorem CountersKept.of_counters (h : t.stats.counters = s.stats.counters) : CountersKept s t l :=
  .of_counter (fun c _ => by simp only [Stats.counter, Stats.counterAt, h])

theorem CountersKept.trans (h : CountersKept s t l) (k : CountersKept t u l) : CountersKept s u l :=
  fun i hi hn => (k i hi hn).trans (h i hi hn)

theorem State.count_countersKept (s : State) {c : Counter} (n : Nat) (hc : c ∈ l) : CountersKept s (s.count c n) l :=
  .of_counter (fun _ hd => s.stats.count_counter_of_ne n (fun he => hd (he ▸ List.mem_map_of_mem hc)))

theorem State.composeReports_countersKept (s : State) (n : Nat) (hc : Counter.reportsSuperseded ∈ l) :
    CountersKept s (s.composeReports n) l :=
  .of_counter (fun _ hd => s.composeReports_counter n (fun he => hd (he ▸ List.mem_map_of_mem hc)))

theorem State.tested_countersKept (s b : State) : CountersKept s (s.tested b) l := by
  refine .of_counters ?_
  simp only [State.tested]
  split
  · simp only [State.closingTest]
    cases (s.engine .discharge).state with
    | rest | locked => exact congrArg Stats.counters (State.cycleNotice_stats _)
    | stuck => rw [State.abortCycle_stats]; rfl
    | asking | confirming | holding | releasing => rfl
  · rfl

/-- The end of an event counts the reports it supersedes alone. -/
theorem finish_countersKept (b s : State) (hc : Counter.reportsSuperseded ∈ l) : CountersKept s (State.finish b s) l := by
  refine (s.tested_countersKept b).trans (.of_counter (fun d hd => ?_))
  exact finish_counter b s (fun he => hd (he ▸ List.mem_map_of_mem hc))

/-! ## Composition (R90 to R92) -/

theorem State.composeReport_of_empty (h : s.composes = true) (ho : s.line.onLine = none) (hn : s.line.nextSlot = none) :
    s.composeReport = { s with line := { s.line with
      onLine := some { frame := s.reportFrame, bytes := s.reportFrame.encode s.line.seq, failures := 0, sending := false } } } := by
  simp [State.composeReport, h, State.placeFrame, hn, State.moveUp, Line.moveUp, ho]

theorem State.composeReport_of_onLine (h : s.composes = true) (ho : s.line.onLine.isSome = true) (hn : s.line.nextSlot = none) :
    s.composeReport = { s with line := { s.line with nextSlot := some s.reportFrame } } := by
  obtain ⟨o, ho⟩ := Option.isSome_iff_exists.mp ho
  simp [State.composeReport, h, State.placeFrame, hn, State.moveUp, Line.moveUp, ho]

theorem State.composeReport_of_waiting (h : s.composes = true) (ho : s.line.onLine.isSome = true)
    (hn : s.line.nextSlot.isSome = true) : s.composeReport =
      { s.count .reportsSuperseded 1 with line := { s.line with nextSlot := some s.reportFrame } } := by
  obtain ⟨o, ho⟩ := Option.isSome_iff_exists.mp ho
  simp [State.composeReport, h, State.placeFrame, hn, State.moveUp, Line.moveUp, ho]

/-- Settles O25, by what the two slots hold. -/
theorem composedReportTakesItsSlot : Obligations.ComposedReportTakesItsSlot := by
  unfold Obligations.ComposedReportTakesItsSlot
  refine fun s => ⟨fun h => ?_, fun hr hl => ?_⟩
  · have hno : s.composes = false := by
      rcases h with h | h <;> simp [State.composes, h]
    simp only [State.composeReport, hno, Bool.false_eq_true, if_false]
  · have hc : s.composes = true := by simp [State.composes, hr, hl]
    exact ⟨State.composeReport_of_empty hc, State.composeReport_of_onLine hc, State.composeReport_of_waiting hc⟩

/-! ## The report timer (R90) -/

/-- R90, R44: what the periodic notice makes of an engine. -/
def State.noticed (s : State) (p : Pool) : Engine :=
  if (s.engine p).state = .asking ∧ (s.engine p).windowExpired = true ∧ s.fits p = true then (s.engine p).toConfirming
  else s.engine p

theorem State.evaluateIfAsking_eq (s : State) (p : Pool) : s.evaluateIfAsking p = s.setEngine p (s.noticed p) := by
  simp only [State.evaluateIfAsking, State.noticed]
  by_cases hs : (s.engine p).state = .asking
  · simp only [hs, beq_self_eq_true, if_true, State.evaluate, State.evaluateAsking, true_and]
    by_cases hx : (s.engine p).windowExpired = true ∧ s.fits p = true
    · simp only [hx, Bool.and_self, if_true, and_self]
    · rw [if_neg (by simpa using hx), if_neg hx, State.setEngine_engine]
  · rw [if_neg (by simpa using hs), if_neg (fun h => hs h.1), State.setEngine_engine]

theorem State.noticed_congr (he : t.engine p = s.engine p) (hp : t.peers = s.peers) (hs : t.station = s.station) :
    t.noticed p = s.noticed p := by
  have hf : t.fits p = s.fits p := State.fits_congr (by rw [he]) (by rw [he]) (by rw [he]) (by rw [he]) hp hs
  simp only [State.noticed, he, hf]

/-- R90: the periodic notice is one to each engine. -/
theorem State.periodicNotice_eq (s : State) : s.periodicNotice =
    ((s.setEngine .discharge (s.noticed .discharge)).setEngine .supply (s.noticed .supply)).setEngine .biocide
      (s.noticed .biocide) := by
  have h (u : State) (hp : u.peers = s.peers) (hs : u.station = s.station) (q : Pool) (he : u.engine q = s.engine q) :
      u.evaluateIfAsking q = u.setEngine q (s.noticed q) := by
    rw [State.evaluateIfAsking_eq, State.noticed_congr he hp hs]
  rw [State.periodicNotice, h s rfl rfl .discharge rfl, h _ (by simp) (by simp) .supply (State.engine_setEngine_ne _ _ (by decide)),
    h _ (by simp) (by simp) .biocide ?_]
  rw [State.engine_setEngine_ne _ _ (by decide), State.engine_setEngine_ne _ _ (by decide)]

theorem State.periodicNotice_engine (s : State) (p : Pool) : s.periodicNotice.engine p = s.noticed p := by
  rw [State.periodicNotice_eq]
  cases p <;> rfl

/-- R90: the timer starts again and a report is composed, before the periodic notice. -/
def State.reportTimed (s : State) : State := { s with line := { s.line with reportTimer := some 0 } }

theorem State.noticed_reported (s : State) (p : Pool) : s.reportTimed.composeReport.noticed p = s.noticed p := by
  obtain ⟨-, -, hs, -, hp, -⟩ := State.composeReport_steady s.reportTimed
  refine State.noticed_congr ?_ hp hs
  have hslots := State.composeReport_slotsOnly s.reportTimed
  unfold SlotsOnly at hslots
  exact State.engine_of_claim (by rw [hslots]; rfl) p

theorem State.periodicNotice_same (s : State) : s.periodicNotice.bio = s.bio ∧ s.periodicNotice.demand = s.demand ∧
    s.periodicNotice.feed = s.feed ∧ s.periodicNotice.line = s.line ∧ s.periodicNotice.stats = s.stats := by
  rw [State.periodicNotice_eq]
  simp

theorem State.noticed_state (s : State) (p : Pool) : s.noticed p = s.engine p ∨ (s.noticed p).state = .confirming := by
  simp only [State.noticed]
  split
  · exact .inr rfl
  · exact .inl rfl

theorem State.reportFires_eq (s : State) : s.reportFires = s.reportTimed.composeReport.periodicNotice := rfl

theorem State.reportFires_engine (s : State) (p : Pool) : s.reportFires.engine p = s.noticed p := by
  rw [State.reportFires_eq, State.periodicNotice_engine, State.noticed_reported]

/-- An engine that the notice moves enters CONFIRMING, where the closing test leaves it. -/
theorem State.reportFires_tested (s : State) : s.reportFires.tested s = s.reportFires := by
  have hbio : s.reportFires.bio = s.bio := by
    have hslots := State.composeReport_slotsOnly s.reportTimed
    unfold SlotsOnly at hslots
    rw [State.reportFires_eq, (State.periodicNotice_same _).1, hslots]
    rfl
  rcases s.noticed_state .discharge with h | h
  · exact State.tested_of_not_due (closingTestDue_of_same (by rw [hbio]) (by rw [State.reportFires_engine, h]))
  · cases hd : closingTestDue s s.reportFires
    · exact State.tested_of_not_due hd
    · rw [State.tested_of_due hd]
      exact State.closingTest_of_busy (.inl (by rw [State.reportFires_engine, h]; rfl))

/-- Composing alone ends with the lines. -/
theorem finish_composeReport (hcl : u.claim = s.claim) (hb : u.bio = s.bio) (hst : u.stats = s.stats) (hm : u.meas = s.meas)
    (hf : u.feed = s.feed) : State.finish s u.composeReport = u.told := by
  have hslots := u.composeReport_slotsOnly
  unfold SlotsOnly at hslots
  have hname : u.composeReport.nameLast s = u.composeReport :=
    State.nameLast_composeReports_of_same (congrArg Stats.counters hst) 1
  refine finish_of_same ?_ ?_ ?_ ?_ ?_ ?_ hname
  · rw [hslots]; exact hcl
  · rw [hslots]; exact hb
  · exact (u.composeReports_alarms 1).trans (congrArg Stats.alarms hst)
  · rw [hslots]; exact hm
  · rw [hslots]; exact congrArg Feed.mismatch hf
  · rw [hslots]; exact congrArg Feed.backlog hf

/-- Settles O26, by what the periodic notice makes of each engine. -/
theorem reportTimerComposesAndEvaluates : Obligations.ReportTimerComposesAndEvaluates := by
  unfold Obligations.ReportTimerComposesAndEvaluates
  intro s hh hr
  have hexec : exec .reportTimer s = .next (State.finish s s.reportFires) := event_of_due hh hr
  rw [hexec]
  have hslots := State.composeReport_slotsOnly s.reportTimed
  unfold SlotsOnly at hslots
  have htest := s.reportFires_tested
  obtain ⟨hbio, hdemand, hfeed, hline, -⟩ := State.periodicNotice_same s.reportTimed.composeReport
  rw [← State.reportFires_eq] at hbio hdemand hfeed hline
  obtain ⟨-, -, hst, hme, hpe, -⟩ := State.finish_steady s s.reportFires
  obtain ⟨-, -, hst', hme', hpe', -⟩ := State.periodicNotice_steady s.reportTimed.composeReport
  refine ⟨⟨_, rfl, linesFollow_finish _ _, ?_, fun p => ?_, ?_, ?_, ?_, ?_, ?_, ?_, ?_⟩, fun hno => ?_⟩
  · rw [finish_eq, htest]
    show s.reportFires.line.reportTimer = some 0
    rw [hline, hslots]
    rfl
  · rw [finish_engine, htest, State.reportFires_engine]
    rfl
  · rw [hst, State.reportFires_eq, hst', hslots]
    rfl
  · rw [hme, State.reportFires_eq, hme', hslots]
    rfl
  · rw [finish_demand, htest, hdemand, hslots]
    rfl
  · rw [finish_bio, htest, hbio, hslots]
    rfl
  · rw [finish_feed, htest, hfeed, hslots]
    rfl
  · rw [hpe, State.reportFires_eq, hpe', hslots]
    rfl
  · refine CountersKept.trans ?_ (finish_countersKept s s.reportFires (by decide))
    have hstats : s.reportFires.stats = s.reportTimed.composeReport.stats := (State.periodicNotice_same _).2.2.2.2
    refine CountersKept.trans (t := s.reportTimed.composeReport) ?_ (.of_counters (by rw [hstats]))
    exact CountersKept.trans (t := s.reportTimed) (.of_counters rfl) (State.composeReports_countersKept _ 1 (by decide))
  · have hstay p : s.reportTimed.composeReport.noticed p = s.reportTimed.composeReport.engine p := by
      have hengine : s.reportTimed.composeReport.engine p = s.engine p := State.engine_of_claim (by rw [hslots]; rfl) p
      rw [State.noticed_reported, hengine, State.noticed, if_neg]
      rintro ⟨hs, hx, -⟩
      cases (hno p hs).symm.trans hx
    have hsame : s.reportFires = s.reportTimed.composeReport := by
      rw [State.reportFires_eq, State.periodicNotice_eq, hstay, hstay, hstay]
      rfl
    rw [hsame]
    exact congrArg Host.Outcome.next (finish_composeReport (u := s.reportTimed) rfl rfl rfl rfl rfl)

end

end Sys2Proof.Machine
end

section
/-! SUPPORT. The receiver (R81 to R85): characters, frames and what a frame end makes of them. -/

namespace Sys2Proof.Machine
open Sys2Proof

set_option Elab.async false

section
variable {b s t u : State}

/-! ## Events of the line alone -/

/-- A change of the tower line alone, where nothing is told of it. -/
theorem finish_of_line (hl : LinesFollow s) (l : Line) : State.finish s { s with line := l } = { s with line := l } := by
  have hlines : LinesFollow { s with line := l } := hl.of_same rfl rfl rfl rfl rfl
  rw [finish_of_same (b := s) (s := { s with line := l }) rfl rfl rfl rfl rfl rfl (State.nameLast_of_same rfl)]
  exact driveLines_of_linesFollow hlines

/-- One count of the tower line's group, and whatever flag is raised with it. -/
theorem finish_of_towerCount {c : Counter} (hc : c ∈ Counter.towerLine) (hcl : t.claim = s.claim) (hb : t.bio = s.bio)
    (ha : t.stats.alarms = s.stats.alarms) (hn : t.stats.counters = (s.stats.count c 1).counters) (hm : t.meas = s.meas)
    (hf : t.feed = s.feed) : State.finish s t = t.driveLines := by
  refine finish_of_same hcl hb ha hm (congrArg Feed.mismatch hf) (congrArg Feed.backlog hf) ?_
  refine State.nameLast_of_group Counter.towerLine (fun k hk hne d hd => ?_)
  have hnumber : ∀ k ∈ Counter.groups, k ≠ Counter.towerLine → ∀ d ∈ k, ∀ c ∈ Counter.towerLine,
      d.number ≠ c.number := by
    decide
  rw [← s.stats.count_counter_of_ne 1 (hnumber k hk hne d hd c hc)]
  simp only [Stats.counter, Stats.counterAt, hn]

/-! ## Characters (R81) -/

theorem lineChar_bits (x : Byte) : (lineChar x).getLsbD 0 = false ∧ (lineChar x).getLsbD 9 = true ∧
    (∀ i, i < 8 → (lineChar x).getLsbD (i + 1) = x.getLsbD i) := by
  revert x
  decide +kernel

theorem rxChar_bit (c : LineChar) (i : Nat) (hi : i < 8) : (rxChar c).byte.getLsbD i = c.getLsbD (i + 1) := by
  simp [rxChar, hi, Nat.add_comm]

theorem lineBits_length (c : LineChar) : (lineBits c).length = 10 := by simp [lineBits]

theorem backToBack_length (bytes : List Byte) : (backToBack bytes).length = 10 * bytes.length := by
  induction bytes with
  | nil => rfl
  | cons x bytes ih =>
    rw [backToBack, List.flatMap_cons, List.length_append, lineBits_length, ← backToBack, ih, List.length_cons]
    omega

theorem getD_append_of_lt {α : Type} {l m : List α} {d : α} {n : Nat} (h : n < l.length) :
    (l ++ m).getD n d = l.getD n d := by
  rw [List.getD_eq_getElem?_getD, List.getD_eq_getElem?_getD, List.getElem?_append_left h]

theorem getD_append_of_ge {α : Type} {l m : List α} {d : α} {n : Nat} (h : l.length ≤ n) :
    (l ++ m).getD n d = m.getD (n - l.length) d := by
  rw [List.getD_eq_getElem?_getD, List.getD_eq_getElem?_getD, List.getElem?_append_right h]

theorem getD_of_length_le {α : Type} {l : List α} {d : α} {n : Nat} (h : l.length ≤ n) : l.getD n d = d := by
  rw [List.getD_eq_getElem?_getD, List.getElem?_eq_none h, Option.getD_none]

theorem backToBack_bit (bytes : List Byte) (k i : Nat) (hk : k < bytes.length) (hi : i < 10) :
    (backToBack bytes).getD (10 * k + i) true = (lineChar (bytes.getD k 0)).getLsbD i := by
  induction bytes generalizing k with
  | nil => cases hk
  | cons x bytes ih =>
    rw [backToBack, List.flatMap_cons, ← backToBack]
    cases k with
    | zero =>
      rw [getD_append_of_lt (by rw [lineBits_length]; omega)]
      simp [lineBits, hi]
    | succ k =>
      rw [getD_append_of_ge (by rw [lineBits_length]; omega), lineBits_length,
        show 10 * (k + 1) + i - 10 = 10 * k + i by omega, ih k (by simpa using hk)]
      simp

/-! ## The checks of a frame (R82) -/

/-- R82: a frame that one of the first four checks finds damaged. -/
def frameBroken (chars : List RxChar) : Prop :=
  let x := chars.map RxChar.byte
  chars.any RxChar.framingError = true ∨ 31 < x.length ∨ x.length < 4 ∨ byteAt x 0 ≠ 0xB4 ∨
    crcBytes ((x.take (x.length - 2)).drop 1) ≠ x.drop (x.length - 2)

theorem frameVerdict_of_broken {chars : List RxChar} (h : frameBroken chars) : frameVerdict chars = .damaged := by
  unfold frameVerdict
  dsimp only
  by_cases h1 : (chars.any RxChar.framingError || decide (31 < (chars.map RxChar.byte).length)) = true
  · rw [if_pos h1]
  rw [if_neg h1]
  by_cases h2 : (chars.map RxChar.byte).length < 4
  · rw [if_pos h2]
  rw [if_neg h2]
  by_cases h3 : byteAt (chars.map RxChar.byte) 0 ≠ 0xB4
  · rw [if_pos h3]
  rw [if_neg h3, if_pos]
  rw [Bool.or_eq_true, decide_eq_true_eq, not_or] at h1
  rcases h with h | h | h | h | h
  · exact absurd h h1.1
  · exact absurd h h1.2
  · exact absurd h h2
  · exact absurd h h3
  · exact h

theorem frameVerdict_of_whole {chars : List RxChar} (h : ¬ frameBroken chars) : frameVerdict chars =
    (let x := chars.map RxChar.byte
     if byteAt x 1 ≠ 1 ∧ byteAt x 1 ≠ 2 then .foreign
     else if (byteAt x 1 = 1 ∧ x.length ≠ 31) ∨ (byteAt x 1 = 2 ∧ x.length ≠ 7) then .damaged
     else if byteAt x 2 = 0 then .foreign else .good) := by
  simp only [frameBroken, not_or] at h
  obtain ⟨h1, h2, h3, h4, h5⟩ := h
  unfold frameVerdict
  dsimp only
  rw [if_neg (by rw [Bool.or_eq_true, decide_eq_true_eq, not_or]; exact ⟨h1, h2⟩), if_neg h3, if_neg h4, if_neg h5]

theorem frameVerdict_cases (chars : List RxChar) :
    let x := chars.map RxChar.byte
    let fits := (byteAt x 1 = 1 ∧ x.length = 31) ∨ (byteAt x 1 = 2 ∧ x.length = 7)
    (frameBroken chars → frameVerdict chars = .damaged) ∧
    (¬ frameBroken chars → byteAt x 1 ≠ 1 → byteAt x 1 ≠ 2 → frameVerdict chars = .foreign) ∧
    (¬ frameBroken chars → (byteAt x 1 = 1 ∧ x.length ≠ 31) ∨ (byteAt x 1 = 2 ∧ x.length ≠ 7) →
      frameVerdict chars = .damaged) ∧
    (¬ frameBroken chars → fits → byteAt x 2 = 0 → frameVerdict chars = .foreign) ∧
    (¬ frameBroken chars → fits → byteAt x 2 ≠ 0 → frameVerdict chars = .good) := by
  intro x fits
  have hkind (h : fits) : ¬ (byteAt x 1 ≠ 1 ∧ byteAt x 1 ≠ 2) := fun ⟨h1, h2⟩ => by
    rcases h with h | h
    · exact h1 h.1
    · exact h2 h.1
  have hlen (h : fits) : ¬ ((byteAt x 1 = 1 ∧ x.length ≠ 31) ∨ (byteAt x 1 = 2 ∧ x.length ≠ 7)) := by
    rcases h with ⟨h1, h2⟩ | ⟨h1, h2⟩
    · rintro (⟨-, k⟩ | ⟨k, -⟩)
      · exact k h2
      · rw [h1] at k
        exact absurd k (by decide)
    · rintro (⟨k, -⟩ | ⟨-, k⟩)
      · rw [h1] at k
        exact absurd k (by decide)
      · exact k h2
  refine ⟨frameVerdict_of_broken, fun hb h1 h2 => ?_, fun hb h => ?_, fun hb h h0 => ?_, fun hb h h0 => ?_⟩
  all_goals rw [frameVerdict_of_whole hb]
  · exact if_pos ⟨h1, h2⟩
  · refine (if_neg ?_).trans (if_pos h)
    rintro ⟨k1, k2⟩
    rcases h with h | h
    · exact k1 h.1
    · exact k2 h.1
  · exact (if_neg (hkind h)).trans ((if_neg (hlen h)).trans (if_pos h0))
  · exact (if_neg (hkind h)).trans ((if_neg (hlen h)).trans (if_neg h0))

/-! ## Frame ends (R81 to R85) -/

theorem exec_frameEnd_of_due {r : Reception} (hh : s.held = none) (hs : s.station.state ≠ .start) (hn : s.line.sending = false) :
    exec (.frameEnd r) s = .next (State.finish s (s.receivesFrom r)) := by
  have hd : s.receives = true := by simp [State.receives, hs, hn]
  exact (exec_frameEnd r s).trans (event_of_due hh hd)

theorem State.receivesFrom_of_long {r : Reception} (h : 20000000 ≤ 19200 * r.quietMicros) :
    s.receivesFrom r = (s.hears (r.chars.map rxChar)).frameEnds := by
  simp only [State.receivesFrom]
  exact if_pos ((le_charTimes_iff 2 _).mpr (by omega))

/-- R81: the receiver's line with the characters that came. -/
theorem State.hears_of_collecting (h : s.line.rxMode = .collect) (cs : List RxChar) :
    s.hears cs = { s with line := s.line.receive cs } := by
  simp only [State.hears, h]

theorem State.collectAnew_receive (s : State) (cs : List RxChar) :
    ({ s with line := s.line.receive cs } : State).collectAnew = s.collectAnew := rfl

/-- R82, R84: a frame end while collecting, by the verdict of the frame it closes. -/
theorem State.frameEnds_of_collecting {cs : List RxChar} (h : s.line.rxMode = .collect) (hne : s.line.rxChars ++ cs ≠ []) :
    (s.hears cs).frameEnds = match (s.line.receive cs).verdict with
      | .damaged => s.collectAnew.count .framesDamaged 1
      | .foreign => s.collectAnew.count .framesForeign 1
      | .good => s.collectAnew.queueFrame (((s.line.rxChars ++ cs).take 31).map RxChar.byte) := by
  have hcons : ({ s with line := s.line.receive cs } : State).line.rxChars ≠ [] := by
    show (s.line.rxChars ++ cs).take 31 ≠ []
    simpa using hne
  rw [State.hears_of_collecting h, State.frameEnds]
  have hmode : (s.line.receive cs).rxMode = .collect := h
  simp only [hmode]
  rw [State.judgeFrame_of_cons hcons]
  rfl

theorem Line.receive_verdict (l : Line) (cs : List RxChar) :
    (l.rxTooLong = true ∨ 31 < (l.rxChars ++ cs).length → (l.receive cs).verdict = .damaged) ∧
    (¬ (l.rxTooLong = true ∨ 31 < (l.rxChars ++ cs).length) →
      (l.receive cs).verdict = frameVerdict ((l.rxChars ++ cs).take 31)) := by
  have hlong : (l.receive cs).rxTooLong = true ↔ l.rxTooLong = true ∨ 31 < (l.rxChars ++ cs).length := by
    simp [Line.receive, Config.frameMax]
  exact ⟨fun h => if_pos (hlong.mpr h), fun h => if_neg (fun k => h (hlong.mp k))⟩

/-- Settles O24, by the receiver's mode and the verdict of the frame that ends. -/
theorem frameEndCountsOrQueues : Obligations.FrameEndCountsOrQueues := by
  unfold Obligations.FrameEndCountsOrQueues
  refine ⟨fun r s hl hs hn => ?_, fun x c bytes => ?_, fun chars => frameVerdict_cases chars⟩
  · intro all long chars ends u
    have hexec := exec_frameEnd_of_due (r := r) hl.1 hs hn
    have hu : s.collectAnew = u := rfl
    have hsame : State.finish s s = s := finish_of_line hl.2 s.line
    refine ⟨fun he hm => ?_, fun he hm => ?_, fun he => ?_⟩
    · rw [hexec, State.receivesFrom_of_short, State.hears_of_not_collecting hm, hsame]
      exact Nat.lt_of_not_le (fun h => he (by have := (le_charTimes_iff 2 _).mp h; omega))
    · rw [hexec, State.receivesFrom_of_short, State.hears_of_collecting hm]
      · exact congrArg Host.Outcome.next (finish_of_line hl.2 _)
      · exact Nat.lt_of_not_le (fun h => he (by have := (le_charTimes_iff 2 _).mp h; omega))
    rw [State.receivesFrom_of_long he] at hexec
    have hanew : State.finish s u = u := finish_of_line hl.2 _
    have hcount {c : Counter} (hc : c ∈ Counter.towerLine) : State.finish s (u.count c 1) = (u.count c 1).driveLines :=
      finish_of_line_count hc rfl rfl rfl rfl rfl
    have hnot {m : RxMode} (hm : s.line.rxMode = m) (hne : m ≠ .collect) : s.hears (r.chars.map rxChar) = s :=
      State.hears_of_not_collecting (by rw [hm]; exact hne) _
    refine ⟨?_, fun hm => ?_, fun hm => ?_, fun hm hne => ?_⟩
    · rintro (hm | hm | ⟨hm, hall⟩)
      · rw [hexec, hnot hm (by decide)]
        simp only [State.frameEnds, hm, hu, hanew]
      · rw [hexec, hnot hm (by decide)]
        simp only [State.frameEnds, hm, hu, hanew]
      · rw [hexec, State.hears_of_collecting hm]
        have hmode : (s.line.receive (r.chars.map rxChar)).rxMode = .collect := hm
        have hempty : (s.line.receive (r.chars.map rxChar)).rxChars = [] := by
          show (s.line.rxChars ++ r.chars.map rxChar).take Config.frameMax = []
          rw [show s.line.rxChars ++ r.chars.map rxChar = [] from hall]
          rfl
        simp only [State.frameEnds, hmode, State.judgeFrame, hempty, List.isEmpty_nil, if_true, State.collectAnew_receive,
          hu, hanew]
    · rw [hexec, hnot hm (by decide)]
      simp only [State.frameEnds, hm, hsame]
    · rw [hexec, hnot hm (by decide)]
      simp only [State.frameEnds, hm, hu, hcount (c := .framesDamaged) (by decide)]
    · rw [State.frameEnds_of_collecting hm hne] at hexec
      obtain ⟨hvlong, hvshort⟩ := s.line.receive_verdict (r.chars.map rxChar)
      refine ⟨fun h => ?_, fun h hv => ?_, fun h hv hq => ?_, fun h hv hq => ?_⟩
      · have hv : (s.line.receive (r.chars.map rxChar)).verdict = .damaged := by
          by_cases hlong : long
          · exact hvlong hlong
          · exact (hvshort hlong).trans (h.resolve_left hlong)
        rw [hexec, hv]
        exact congrArg Host.Outcome.next (hcount (c := .framesDamaged) (by decide))
      · rw [hexec, hvshort h, hv]
        exact congrArg Host.Outcome.next (hcount (c := .framesForeign) (by decide))
      · have hqueue : u.queueFrame (chars.map RxChar.byte) =
            ({ u with line := { u.line with rxQueue := s.line.rxQueue ++ [chars.map RxChar.byte] } } : State).count
              .framesReceived 1 := if_pos hq
        rw [hexec, hvshort h, hv]
        refine congrArg Host.Outcome.next (Eq.trans (congrArg (State.finish s) hqueue) ?_)
        exact finish_of_line_count (c := .framesReceived) (by decide) rfl rfl rfl rfl rfl
      · have hqueue : u.queueFrame (chars.map RxChar.byte) = (u.count .receiveOverruns 1).raise .receiveOverrun :=
          if_neg (Nat.not_lt.mpr hq)
        rw [hexec, hvshort h, hv]
        refine congrArg Host.Outcome.next (Eq.trans (congrArg (State.finish s) hqueue) ?_)
        exact finish_of_towerCount (c := .receiveOverruns) (by decide) rfl rfl (State.count_alarms u _ _) rfl rfl rfl
  · obtain ⟨h1, h2, h3⟩ := lineChar_bits x
    refine ⟨h1, h2, h3, rxChar_lineChar x, rxChar_bit c, ?_, backToBack_length bytes, backToBack_bit bytes⟩
    simp [rxChar]

end

end Sys2Proof.Machine
end

section
/-! SUPPORT. Sending (R93 to R98): attempts, loss and delivery; and LINE RESTART (R102). -/

namespace Sys2Proof.Machine
open Sys2Proof

set_option Elab.async false

section
variable {b s t u : State}

/-! ## Composition commutes with what no report shows -/

theorem Stats.raise_count (t : Stats) (e : Event) (c : Counter) (n : Nat) :
    (t.raise e).count c n = (t.count c n).raise e := by
  have hcounter : (t.raise e).counter c = t.counter c := rfl
  simp only [Stats.count, hcounter]
  (repeat' split)
  · simp only [Stats.raise, BitVec.or_assoc, BitVec.or_comm (BitVec.twoPow 32 e.bit)]
  · simp only [Stats.raise, BitVec.or_assoc, BitVec.or_comm (BitVec.twoPow 32 e.bit)]
  · rfl

theorem Stats.count_withAlarms (t : Stats) (l : List AlarmEntry) (c : Counter) (n : Nat) :
    ({ t with alarms := l } : Stats).count c n = { t.count c n with alarms := l } := by
  have hcounter : ({ t with alarms := l } : Stats).counter c = t.counter c := rfl
  simp only [Stats.count, hcounter, Stats.raise]
  (repeat' split) <;> rfl

theorem State.alarmCondition_calm (s : State) (k : AlarmKind) : (s.calm k).alarmCondition = s.alarmCondition := by
  have h : (calmAlarm s.stats.alarms k).map AlarmEntry.unack = s.stats.alarms.map AlarmEntry.unack := by
    have := congrArg (List.map Prod.snd) (calmAlarm_kinds_and_unacks s.stats.alarms k)
    rw [List.map_map, List.map_map] at this
    exact this
  have hany (l : List AlarmEntry) : l.any (fun e => e.unack) = (l.map AlarmEntry.unack).any id := by
    rw [List.any_map]
    rfl
  simp only [State.alarmCondition, State.calm, hany, h]

/-- What composing makes of a state, with the report it shows given. -/
theorem State.placeFrame_raise (s : State) (f : TxFrame) (e : Event) : (s.raise e).placeFrame f = (s.placeFrame f).raise e := by
  have hline : (s.raise e).line = s.line := rfl
  have hcount : (s.raise e).count .reportsSuperseded 1 = (s.count .reportsSuperseded 1).raise e := by
    simp only [State.count, State.raise, Stats.raise_count]
  simp only [State.placeFrame, hline, hcount]
  by_cases h : s.line.nextSlot.isSome = true
  · simp only [h, if_true]
    rfl
  · simp only [h]
    rfl

theorem State.composeReport_raise (s : State) (e : Event) : (s.raise e).composeReport = s.composeReport.raise e := by
  have hframe : (s.raise e).reportFrame = s.reportFrame := rfl
  have hcomposes : (s.raise e).composes = s.composes := rfl
  simp only [State.composeReport, hframe, hcomposes]
  split
  · exact s.placeFrame_raise _ _
  · rfl

theorem State.placeFrame_withAlarms (s : State) (f : TxFrame) (l : List AlarmEntry) :
    ({ s with stats := { s.stats with alarms := l } } : State).placeFrame f =
      { s.placeFrame f with stats := { (s.placeFrame f).stats with alarms := l } } := by
  have hcount : ({ s with stats := { s.stats with alarms := l } } : State).count .reportsSuperseded 1 =
      { s.count .reportsSuperseded 1 with stats := { (s.count .reportsSuperseded 1).stats with alarms := l } } := by
    simp only [State.count, Stats.count_withAlarms]
  simp only [State.placeFrame, hcount]
  by_cases h : s.line.nextSlot.isSome = true
  · simp only [h, if_true]
    rfl
  · simp only [h]
    rfl

/-- The end of an alarm's condition leaves what a report shows. -/
theorem State.composeReport_calm (s : State) (k : AlarmKind) : (s.calm k).composeReport = s.composeReport.calm k := by
  have halarms : s.composeReport.stats.alarms = s.stats.alarms := s.composeReports_alarms 1
  have hframe : (s.calm k).reportFrame = s.reportFrame := by
    have hc := s.alarmCondition_calm k
    simp only [State.reportFrame, State.stationFlags, hc]
    rfl
  have hcomposes : (s.calm k).composes = s.composes := rfl
  have hcalm (v : State) (hv : v.stats.alarms = s.stats.alarms) :
      v.calm k = { v with stats := { v.stats with alarms := calmAlarm s.stats.alarms k } } := by
    rw [State.calm, hv]
  rw [hcalm _ halarms]
  simp only [State.composeReport, hframe, hcomposes]
  split
  · exact s.placeFrame_withAlarms _ _
  · rfl

/-- R189: an answer to a command is none of what a report shows. -/
theorem State.composeReport_conclude (s : State) (r : MailResult) :
    (s.conclude r).composeReport = s.composeReport.conclude r := by
  have hport (v : State) (m : Mailbox) : ({ v with port := { v.port with mailbox := m } } : State).composeReport =
      { v.composeReport with port := { v.port with mailbox := m } } := by
    have hframe : ({ v with port := { v.port with mailbox := m } } : State).reportFrame = v.reportFrame := rfl
    have hcomposes : ({ v with port := { v.port with mailbox := m } } : State).composes = v.composes := rfl
    simp only [State.composeReport, hframe, hcomposes, State.placeFrame, State.moveUp, State.count]
    (repeat' split) <;> rfl
  have hsame : s.composeReport.port = s.port := by
    have h := s.composeReport_slotsOnly
    unfold SlotsOnly at h
    rw [h]
  rw [State.conclude, State.composeReport_raise, hport, State.conclude, hsame]

theorem State.conclude_eq_done (s : State) (r : MailResult) : s.conclude r = s.done r := rfl

/-! ## Attempts (R93) -/

theorem exec_attemptStart_eq {o : OnLine} (hl : Live s) (ho : s.line.onLine = some o) (hs : o.sending = false) (n : Nat) :
    exec (.attemptStart n) s = .next
      (if 10000000 * (4 + s.station.number + 8 * o.failures) ≤ 19200 * n then
        { s with line := { s.line with onLine := some { o with sending := true } } } else s) := by
  have hmay : s.mayStart n = true ↔ 10000000 * (4 + s.station.number + 8 * o.failures) ≤ 19200 * n := by
    simp only [State.mayStart, ho, hs, Bool.not_false, Bool.true_and, decide_eq_true_eq, le_charTimes_iff, accessWait]
    omega
  rw [exec_attemptStart]
  by_cases h : 10000000 * (4 + s.station.number + 8 * o.failures) ≤ 19200 * n
  · rw [event_of_due hl.1 (hmay.mpr h), if_pos h]
    have hstart : s.startAttempt = { s with line := { s.line with onLine := some { o with sending := true } } } := by
      simp only [State.startAttempt, ho, Option.map_some]
    rw [hstart, finish_of_line hl.2]
  · rw [Bool.eq_false_iff.mpr (fun k => h (hmay.mp k)), event_of_not_due, if_neg h]

/-! ## An attempt that fails (R94 to R96) -/

theorem exec_echoMismatch_of_mismatch {o : OnLine} {a : AttemptEnd} (hh : s.held = none) (ho : s.line.onLine = some o)
    (hs : o.sending = true) (he : echoCheck o.bytes a.readBack = .mismatch) :
    exec (.echoMismatch a) s = .next (State.finish s (s.attemptMisses o a.straps)) := by
  have hd : s.line.echoes a.readBack .mismatch = true := by
    rw [Line.echoes_onLine ho hs, he]
    rfl
  rw [exec_echoMismatch, event_of_due hh hd]
  simp only [ho]

/-- R92: a frame newly on line, with the sequence number it is sent with. -/
def OnLine.first (seq : Byte) (f : TxFrame) : OnLine := { frame := f, bytes := f.encode seq, failures := 0, sending := false }

/-- R98: the number advanced, and the frame in next on line in the place of the one before. -/
def Line.advanced (l : Line) : Line :=
  { l with
    seq := l.seq + 1
    nextSlot := none
    onLine := l.nextSlot.map (OnLine.first (l.seq + 1)) }

/-- R96, R98: the loss of the on-line frame. -/
theorem State.loseFrame_moveUp (s : State) : s.loseFrame.moveUp =
    (({ s with line := s.line.advanced } : State).count .reportsLost 1).raise .reportLost := by
  cases hn : s.line.nextSlot with
  | none => simp [State.loseFrame, State.moveUp, Line.moveUp, State.count, State.raise, Line.advanced, hn]
  | some f => simp [State.loseFrame, State.moveUp, Line.moveUp, State.count, State.raise, Line.advanced, OnLine.first, hn]

/-- R97, R98: the delivery of the on-line frame. -/
theorem State.deliverFrame_moveUp (s : State) : s.deliverFrame.moveUp =
    ({ s with line := { s.line.advanced with deliveryTimer := some 0 } } : State).count .reportsDelivered 1 := by
  cases hn : s.line.nextSlot with
  | none => simp [State.deliverFrame, State.moveUp, Line.moveUp, State.count, Line.advanced, hn]
  | some f => simp [State.deliverFrame, State.moveUp, Line.moveUp, State.count, Line.advanced, OnLine.first, hn]

/-! ## The end of a restart's LEAVING (R170) -/

theorem State.warmRestart_line_counters (s : State) (straps : BitVec 5) :
    (s.warmRestart straps).line.seq = 0 ∧ (s.warmRestart straps).line.onLine = none ∧
      (s.warmRestart straps).stats.counters = s.stats.counters ∧
      (s.warmRestart straps).station.state.reporting = false ∧ (s.warmRestart straps).bio = s.bio.restarted := by
  simp only [State.warmRestart, State.readStraps]
  split <;> exact ⟨rfl, rfl, rfl, rfl, rfl⟩

/-- R157, R170: what an event ends with that lets a restart take effect. -/
theorem finish_warmRestart (b s : State) (straps : BitVec 5) {c : Counter}
    (hc : c.number ≠ Counter.reportsSuperseded.number) :
    let t := State.finish b (s.warmRestart straps)
    (t.station.state = .start ∨ t.station.state = .configFault) ∧ t.station.causes.command = true ∧
      t.station.number = straps.toNat ∧ t.line.seq = 0 ∧ t.line.onLine = none ∧
      t.stats.counter c = s.stats.counter c := by
  intro t
  obtain ⟨h1, h2, h3, -⟩ := s.warmRestart_station straps
  obtain ⟨k1, k2, k3, k4, k5⟩ := s.warmRestart_line_counters straps
  obtain ⟨-, -, hst, -⟩ := State.finish_steady b (s.warmRestart straps)
  have hline : t.line = (s.warmRestart straps).line := finish_line_of_silent k4 b
  have htest : (s.warmRestart straps).tested b = s.warmRestart straps := by
    refine State.tested_of_not_due (closingTestDue_of_not_closing (fun hcl => ?_))
    have := s.bio.restarted_abortable
    rw [← k5, hcl] at this
    cases this
  have hcounter : t.stats.counter c = s.stats.counter c := by
    show (State.finish b (s.warmRestart straps)).stats.counter c = _
    rw [finish_counter _ _ hc, htest]
    simp only [Stats.counter, Stats.counterAt, k3]
  have hstation : t.station = (s.warmRestart straps).station := hst
  rw [hstation, hline]
  exact ⟨h1, h2, h3, k1, k2, hcounter⟩

/-- Settles O27, by the failures counted and the frame in next. -/
theorem attemptsWaitRetryAndLose : Obligations.AttemptsWaitRetryAndLose := by
  unfold Obligations.AttemptsWaitRetryAndLose
  refine ⟨fun n o s hl ho hs => ⟨fun hq => ?_, fun hq => ?_⟩, fun straps pre post x c o s hl ho hs hbytes hne => ?_⟩
  · intro t
    refine ⟨?_, ?_, ?_⟩
    · rw [exec_attemptStart_eq hl ho hs, if_pos hq]
    · simp [Line.drives, ho, hs]
    · simp [t, Line.drives]
  · rw [exec_attemptStart_eq hl ho hs, if_neg (by omega)]
  · intro echo a
    have hsending : echoCheck o.bytes echo = .sending := by
      rw [hbytes]
      exact echoCheck_sending pre post x
    have hmiss : echoCheck o.bytes a.readBack = .mismatch := by
      rw [hbytes]
      exact echoCheck_mismatch pre post hne
    have hexec := exec_echoMismatch_of_mismatch hl.1 ho hs hmiss
    have hidle {e : EchoResult} {back : List EchoChar} (r : EchoResult) (h : echoCheck o.bytes back = e) (hr : e ≠ r) :
        s.line.echoes back r = false := by
      rw [Line.echoes_onLine ho hs, h]
      exact beq_eq_false_iff_ne.mpr hr
    have hmis {k : Nat} (h : 8 ≤ k + 1) : ¬ k + 1 < Config.maxFailures := Nat.not_lt.mpr h
    refine ⟨⟨?_, ?_, ?_⟩, fun hf hn => ?_, fun f hn hf => ?_, fun hf hk => ?_, fun hf hk hlen => ?_⟩
    · rw [exec_echoMismatch, hidle .mismatch hsending (by decide), event_of_not_due]
    · rw [exec_delivery, hidle .delivered hsending (by decide), event_of_not_due]
    · rw [exec_delivery, hidle .delivered hmiss (by decide), event_of_not_due]
    · have hlt : o.failures + 1 < Config.maxFailures := hf
      rw [hexec]
      simp only [State.attemptMisses, if_pos hlt, State.retry, hn]
      exact congrArg Host.Outcome.next (finish_of_line hl.2 _)
    · have hlt : o.failures + 1 < Config.maxFailures := hf
      have hn : s.line.nextSlot = some f := hn
      rw [hexec]
      simp only [State.attemptMisses, if_pos hlt, State.retry, hn]
      refine congrArg Host.Outcome.next (finish_of_towerCount (c := .reportsSuperseded) (by decide) rfl rfl ?_ rfl rfl rfl)
      exact State.count_alarms _ _ _
    · rw [hexec]
      simp only [State.attemptMisses, if_neg (hmis hf), State.loseFrame_moveUp, hk, State.leavingFinished]
      refine congrArg Host.Outcome.next (finish_of_towerCount (c := .reportsLost) (by decide) rfl rfl ?_ rfl rfl rfl)
      exact State.count_alarms _ _ _
    · have hlost : (({ s with line := { s.line with rxMode := .ownDamaged } } : State).loseFrame.moveUp).stats.counter
          .reportsLost = s.stats.counter .reportsLost + 1 := by
        rw [State.loseFrame_moveUp]
        exact Stats.count_counter_self (t := s.stats) hlen
      have hmisses : s.attemptMisses o a.straps =
          ({ s with line := { s.line with rxMode := .ownDamaged } } : State).loseFrame.moveUp.warmRestart straps := by
        simp only [State.attemptMisses, if_neg (hmis hf), hk, State.leavingFinished]
        rfl
      rw [hexec, hmisses]
      obtain ⟨h1, h2, h3, h4, -, h5⟩ := finish_warmRestart s
        ({ s with line := { s.line with rxMode := .ownDamaged } } : State).loseFrame.moveUp straps (c := .reportsLost)
        (by decide)
      exact ⟨_, rfl, h1, h2, h3, h4, h5.trans hlost⟩

/-! ## Delivery (R97, R98, R167) -/

theorem exec_delivery_of_delivered {o : OnLine} {a : AttemptEnd} (hh : s.held = none) (ho : s.line.onLine = some o)
    (hs : o.sending = true) (he : echoCheck o.bytes a.readBack = .delivered) :
    exec (.delivery a) s = .next (State.finish s (s.attemptDelivers o a.straps)) := by
  have hd : s.line.echoes a.readBack .delivered = true := by
    rw [Line.echoes_onLine ho hs, he]
    rfl
  rw [exec_delivery, event_of_due hh hd]
  simp only [ho]

/-- R167: the entry to LISTEN from ISOLATED. -/
theorem State.enterListen_of_isolated (h : s.station.state = .isolated) : s.enterListen =
    ({ s with line := { s.line with deliveryTimer := some 0 },
              station := { s.station with state := .listen, listen := some 8000 } } : State).composeReport.calm .isolated := by
  have hcalm (v : State) : v.calmIsolated .isolated = v.calm .isolated := rfl
  have hresume (v : State) : v.feedResumed .isolated = v := rfl
  simp only [State.enterListen, h, hcalm, hresume, State.changeState]
  rfl

theorem State.deliveryNotice_counter (s : State) {c : Counter} (hc : c.number ≠ Counter.reportsSuperseded.number) :
    s.deliveryNotice.stats.counter c = s.stats.counter c := by
  by_cases h : s.station.state = .isolated
  · have he : s.deliveryNotice = s.enterListen := if_pos (by rw [h]; rfl)
    rw [he, State.enterListen_of_isolated h]
    exact (State.composeReports_counter _ 1 hc)
  · have he : s.deliveryNotice = s := if_neg (by simpa using h)
    rw [he]

/-- An event that counts for the line, composes one report and ends the condition of an alarm. -/
theorem finish_of_listened {c : Counter} (hc : c ∈ Counter.towerLine) (k : AlarmKind) (hcl : u.claim = s.claim)
    (hb : u.bio = s.bio) (ha : u.stats.alarms = s.stats.alarms) (hn : u.stats.counters = (s.stats.count c 1).counters)
    (hm : u.meas = s.meas) (hf : u.feed = s.feed) :
    State.finish s (u.composeReport.calm k) = (u.calm k).told := by
  have hslots := u.composeReport_slotsOnly
  unfold SlotsOnly at hslots
  have hfault : (u.composeReport.calm k).valveFault = s.valveFault := by
    have hclaim : (u.composeReport.calm k).claim = s.claim := by rw [State.calm_claim, hslots]; exact hcl
    simp only [State.valveFault, hclaim]
  have hend : State.finish s (u.composeReport.calm k) = (u.composeReport.calm k).driveLines := by
    refine finish_of_unchanged (fun p => engineDiffers_eq_false ?_) ?_ ?_ ?_ ?_
    · rw [State.engine_of_claim (t := u.composeReport.calm k) (s := s) (by rw [State.calm_claim, hslots]; exact hcl)]
    · rw [State.calm_bio, hslots, hb]
    · refine (alarmSummaryDiffers_eq_false_iff).mpr ?_
      have halarms : u.composeReport.stats.alarms = s.stats.alarms := (u.composeReports_alarms 1).trans ha
      have halarm : (u.composeReport.calm k).alarmCondition = s.alarmCondition := by
        rw [State.alarmCondition_calm]
        simp only [State.alarmCondition, halarms]
      refine ⟨halarm, ?_⟩
      rw [State.faultSummary, State.faultSummary, hfault, State.calm_meas, State.calm_feed, hslots, hm, hf]
    · rw [hfault]
      exact id
    · refine State.nameLast_of_group Counter.towerLine (fun k hk hne d hd => ?_)
      have hnumber : ∀ k ∈ Counter.groups, k ≠ Counter.towerLine → ∀ d ∈ k, ∀ c ∈ Counter.towerLine,
          d.number ≠ c.number := by
        decide
      refine (u.composeReports_counter 1 (hnumber k hk hne d hd .reportsSuperseded (by decide))).trans ?_
      rw [← s.stats.count_counter_of_ne 1 (hnumber k hk hne d hd c hc)]
      simp only [Stats.counter, Stats.counterAt, hn]
  rw [hend, State.told, State.composeReport_calm]

/-- Settles O28, by the frame delivered and the station state. -/
theorem deliveryAdvancesTheNumber : Obligations.DeliveryAdvancesTheNumber := by
  unfold Obligations.DeliveryAdvancesTheNumber
  intro straps o s hl ho hs a u
  have hexec := exec_delivery_of_delivered (a := a) hl.1 ho hs (echoCheck_delivered o.bytes)
  have hu : ({ s with line := { s.line with rxMode := .ownEcho } } : State).deliverFrame.moveUp = u :=
    State.deliverFrame_moveUp _
  have hdelivers : s.attemptDelivers o a.straps = (u.deliveryNotice).leavingFinished o.frame.kind straps := by
    rw [← hu]
    rfl
  have hstation : u.station = s.station := rfl
  have halarms : u.stats.alarms = s.stats.alarms := State.count_alarms _ _ _
  rw [hdelivers] at hexec
  refine ⟨fun hk hi => ?_, fun hk hi => ?_, fun hk hlen => ?_⟩
  · have hnotice : u.deliveryNotice = u := if_neg (by rw [hstation]; simpa using hi)
    rw [hexec, hk, hnotice]
    exact congrArg Host.Outcome.next (finish_of_towerCount (c := .reportsDelivered) (by decide) rfl rfl halarms rfl rfl rfl)
  · have hnotice : u.deliveryNotice = u.enterListen := if_pos (by rw [hstation, hi]; rfl)
    rw [hexec, hk, hnotice, State.enterListen_of_isolated (by rw [hstation]; exact hi)]
    refine congrArg Host.Outcome.next (Eq.trans (finish_of_listened (c := .reportsDelivered) (by decide) .isolated rfl rfl
      halarms rfl rfl rfl) (congrArg State.told ?_))
    simp only [State.calm, halarms]
    rfl
  · rw [hexec, hk]
    obtain ⟨h1, h2, h3, h4, h5, h6⟩ := finish_warmRestart s u.deliveryNotice straps (c := .reportsDelivered) (by decide)
    refine ⟨_, rfl, h1, h2, h3, h4, h5, h6.trans ?_⟩
    rw [State.deliveryNotice_counter u (by decide)]
    exact Stats.count_counter_self (t := s.stats) hlen

/-! ## LINE RESTART (R102) -/

/-- A posted command passes the tests of R189. -/
theorem Posted.awaits {c : PanelCommand} (h : Posted s c) : s.awaits c = true := by
  obtain ⟨h1, h2, -, h4⟩ := h
  simp [State.awaits, h1, h2, h4]

theorem Posted.takeCommand {c : PanelCommand} (h : Posted s c) (refused : Bool) (body : State → State) :
    s.takeCommand refused body = if refused then s.conclude .notNow else (body s).conclude .ok := by
  have hgood : badArgument s.port.mailbox.code s.port.mailbox.argument = false := by
    simp [badArgument, h.2.2.1]
  simp only [State.takeCommand, hgood, Bool.false_eq_true, if_false]

/-- R102: the emptied line, its receiver collecting again from the next frame end. -/
def Line.emptied (l : Line) : Line :=
  { l with nextSlot := none, rxQueue := [], rxMode := .skip, rxChars := [], rxTooLong := false }

theorem State.lineRestart_eq (s : State) :
    s.lineRestart = ({ s.dropOnLine with line := s.dropOnLine.line.emptied } : State).composeReport := rfl

/-- An event of the line that answers a command and composes one report. -/
theorem finish_of_answered {c : Counter} (hc : c ∈ Counter.towerLine) (r : MailResult) (hcl : u.claim = s.claim)
    (hb : u.bio = s.bio) (ha : u.stats.alarms = s.stats.alarms)
    (hn : u.stats.counters = s.stats.counters ∨ u.stats.counters = (s.stats.count c 1).counters)
    (hm : u.meas = s.meas) (hf : u.feed = s.feed) :
    State.finish s (u.composeReport.conclude r) = (u.done r).told := by
  have hslots := u.composeReport_slotsOnly
  unfold SlotsOnly at hslots
  have hend : State.finish s (u.composeReport.conclude r) = (u.composeReport.conclude r).driveLines := by
    refine finish_of_same ?_ ?_ ?_ ?_ ?_ ?_ ?_
    · rw [hslots]; exact hcl
    · rw [hslots]; exact hb
    · exact (u.composeReports_alarms 1).trans ha
    · rw [hslots]; exact hm
    · rw [hslots]; exact congrArg Feed.mismatch hf
    · rw [hslots]; exact congrArg Feed.backlog hf
    · refine State.nameLast_of_group Counter.towerLine (fun k hk hne d hd => ?_)
      have hnumber : ∀ k ∈ Counter.groups, k ≠ Counter.towerLine → ∀ d ∈ k, ∀ c ∈ Counter.towerLine,
          d.number ≠ c.number := by
        decide
      refine (u.composeReports_counter 1 (hnumber k hk hne d hd .reportsSuperseded (by decide))).trans ?_
      rcases hn with hn | hn
      · simp only [Stats.counter, Stats.counterAt, hn]
      · rw [← s.stats.count_counter_of_ne 1 (hnumber k hk hne d hd c hc)]
        simp only [Stats.counter, Stats.counterAt, hn]
  rw [hend, State.told, ← State.conclude_eq_done, State.composeReport_conclude]

/-- Settles O46, by whether a frame is on line. -/
theorem lineRestartEmptiesTheLine : Obligations.LineRestartEmptiesTheLine := by
  unfold Obligations.LineRestartEmptiesTheLine
  intro s hl hp hs
  have hns : (s.station.state == .start) = false := by simpa using hs
  have hexec : exec .lineRestart s = .next (State.finish s (s.lineRestart.conclude .ok)) := by
    rw [exec_lineRestart, event_of_due hl.1 hp.awaits, hp.takeCommand, hns, if_neg (by decide)]
  rw [hexec, State.lineRestart_eq]
  refine ⟨fun ho => ?_, fun ho => ?_⟩
  · have hdrop : s.dropOnLine = s := if_neg (by rw [ho]; decide)
    rw [hdrop]
    refine congrArg Host.Outcome.next (Eq.trans (finish_of_answered (c := .reportsLost) (by decide) .ok rfl rfl rfl (.inl rfl)
      rfl rfl) (congrArg (fun v : State => (v.done .ok).told) ?_))
    simp only [Line.emptied]
  · have hdrop : s.dropOnLine = s.loseFrame := if_pos ho
    rw [hdrop]
    refine congrArg Host.Outcome.next (Eq.trans (finish_of_answered (c := .reportsLost) (by decide) .ok rfl rfl
      (State.count_alarms _ _ _) (.inr rfl) rfl rfl) (congrArg (fun v : State => (v.done .ok).told) ?_))
    rfl

end

end Sys2Proof.Machine
end

section
/-! SUPPORT. The sequence number (R98): which commands advance it, and which set it to 0. -/

namespace Sys2Proof.Machine
open Sys2Proof

set_option Elab.async false

section
variable {b s t u : State}

/-! ## Operations that keep the number -/

/-- The sequence number as it was. -/
def SeqKept (s t : State) : Prop := t.line.seq = s.line.seq

theorem SeqKept.trans (h : SeqKept s t) (k : SeqKept t u) : SeqKept s u := Eq.trans k h

theorem Acted.seqKept (h : Acted s t) : SeqKept s t := congrArg Line.seq h.line

theorem SeqKept.of_line (h : t.line.seq = s.line.seq := by rfl) : SeqKept s t := h

theorem SlotsOnly.seqKept (h : SlotsOnly s t) : SeqKept s t := by
  unfold SlotsOnly at h
  rw [SeqKept, h]

theorem State.composeReport_seqKept (s : State) : SeqKept s s.composeReport := s.composeReport_slotsOnly.seqKept

theorem State.changeState_seqKept (s : State) (st : StationState) (l : Option Nat) : SeqKept s (s.changeState st l) :=
  SeqKept.trans (t := { s with station := { s.station with state := st, listen := l } }) .of_line
    (State.composeReport_seqKept _)

theorem State.enterRun_seqKept (s : State) : SeqKept s s.enterRun :=
  (s.changeState_seqKept .run none).trans (((State.askFromRest_acted _ _).trans ((State.askFromRest_acted _ _).trans
    (State.askFromRest_acted _ _))).seqKept)

theorem State.enterHold_seqKept (s : State) : SeqKept s s.enterHold :=
  (s.changeState_seqKept .hold none).trans (((State.calmIsolated_acted _ _).trans ((State.abortIfRunning_acted _).trans
    (State.releaseAll_acted _))).seqKept)

theorem State.enterIsolated_seqKept (s : State) : SeqKept s s.enterIsolated :=
  (s.changeState_seqKept .isolated none).trans (((State.isolatedAlarms_acted _).trans (State.releaseAll_acted _)).seqKept)

theorem State.enterListen_seqKept (s : State) : SeqKept s s.enterListen :=
  SeqKept.trans (t := { s with line := { s.line with deliveryTimer := some 0 } }) .of_line
    ((State.changeState_seqKept _ .listen (some Config.listenPeriod)).trans
      (((State.calmIsolated_acted _ _).trans (State.feedResumed_acted _ _)).seqKept))

theorem State.enterQuiet_seqKept (s : State) : SeqKept s s.enterQuiet :=
  SeqKept.trans (t := s.quieted) .of_line s.enterQuiet_acted.seqKept

theorem State.tableNotice_seqKept (s : State) : SeqKept s s.tableNotice :=
  SeqKept.trans (t := s.recomputeCaps) .of_line (State.evaluateAll_acted _).seqKept

theorem State.receivesFrom_seqKept (s : State) (r : Reception) : SeqKept s (s.receivesFrom r) := by
  have hqueue (u : State) (bytes : List Byte) : SeqKept u (u.queueFrame bytes) := by
    simp only [State.queueFrame]
    split <;> exact .of_line
  have hears (cs : List RxChar) : SeqKept s (s.hears cs) := by
    simp only [State.hears]
    split <;> exact .of_line
  have hends (u : State) : SeqKept u u.frameEnds := by
    simp only [State.frameEnds]
    cases u.line.rxMode with
    | off | skip | ownEcho | ownDamaged => exact .of_line
    | collect =>
      simp only [State.judgeFrame]
      (repeat' split)
      · exact .of_line
      · exact .of_line
      · exact .of_line
      · exact SeqKept.trans (t := u.collectAnew) .of_line (hqueue _ _)
  simp only [State.receivesFrom]
  split
  · exact (hears _).trans (hends _)
  · exact hears _

/-- R163: the load and the entry to LISTEN. -/
theorem State.enterListenFromStart_seqKept (s : State) (bytes : List Byte) (i : StartInputs) :
    SeqKept s (s.enterListenFromStart bytes i) := by
  have hload (u : State) (c : EffConfig) : SeqKept u (((u.load c i).startValve .blowdown).startValve .makeup) :=
    SeqKept.trans (t := u.load c i) .of_line
      (congrArg Line.seq (((u.load c i).startValve_framed .blowdown).trans (State.startValve_framed _ .makeup)).line)
  have hrest (u : State) (n : Nat) : SeqKept u
      (((((u.cycleNotice).renewSuppression).keptAlarms.feedResumed .start).takeScan i.codes).scanDemand.composeReport.composeReports
        n) :=
    ((u.cycleNotice_acted.trans ((State.renewSuppression_acted _).trans ((State.keptAlarms_acted _).trans
      ((State.feedResumed_acted _ _).trans ((State.takeScan_acted _ _).trans (State.scanDemand_acted _)))))).seqKept).trans
      ((State.composeReport_seqKept _).trans (State.composeReports_slotsOnly _ _).seqKept)
  unfold State.enterListenFromStart
  dsimp only
  split
  · exact SeqKept.trans (t := s.raise .configClamped) .of_line ((hload _ _).trans (hrest _ _))
  · exact (hload _ _).trans (hrest _ _)

theorem State.attemptEnds_seqKept (s : State) (n : Nat) (m : MemoryAnswer) (i : StartInputs) :
    SeqKept s (s.attemptEnds n m i) := by
  unfold State.attemptEnds
  dsimp only
  split
  · simp only [State.attemptFails]
    split <;> exact .of_line
  · exact SeqKept.trans (t := { s with station := { s.station with bus := imageTransaction m } }) .of_line
      (State.enterListenFromStart_seqKept _ _ i)

theorem State.nextAttempt_seqKept (s : State) : SeqKept s s.nextAttempt := by
  simp only [State.nextAttempt]
  split <;> exact .of_line

theorem State.readRecord_seqKept (s : State) (rec idx : Nat) : SeqKept s (s.readRecord rec idx) := by
  simp only [State.readRecord, State.clearOnRead]
  (repeat' split) <;> exact .of_line

theorem State.takeCommand_seqKept {refused : Bool} {body : State → State} (h : SeqKept s (body s)) :
    SeqKept s (s.takeCommand refused body) := by
  simp only [State.takeCommand]
  (repeat' split)
  · exact .of_line
  · exact .of_line
  · exact h.trans .of_line

theorem State.takeClear_seqKept (s : State) : SeqKept s s.takeClear := by
  have hpart (o : ClearOwner) : (s.clearPart o).line.seq = s.line.seq := by cases o <;> rfl
  simp only [State.takeClear]
  split
  · exact State.takeCommand_seqKept (hpart _)
  · exact hpart _

/-! ## What a command makes of the number -/

/-- The number kept, or 0 in START or CONFIG FAULT. -/
def SeqKeptOrReset (s t : State) : Prop :=
  SeqKept s t ∨ (t.line.seq = 0 ∧ (t.station.state = .start ∨ t.station.state = .configFault))

theorem SeqKept.orReset (h : SeqKept s t) : SeqKeptOrReset s t := .inl h

theorem State.warmRestart_seq (s u : State) (straps : BitVec 5) : SeqKeptOrReset s (u.warmRestart straps) :=
  .inr ⟨(u.warmRestart_line_counters straps).1, (u.warmRestart_station straps).1⟩

/-- The number advanced by one, kept, or 0. -/
def SeqAdvancedOrReset (s t : State) : Prop := SeqKeptOrReset s t ∨ t.line.seq = s.line.seq + 1

theorem finish_seq (b s : State) : (State.finish b s).line.seq = s.line.seq := by
  have ht : SeqKept s (s.tested b) := by
    simp only [State.tested]
    split
    · exact s.closingTest_acted.seqKept
    · exact .of_line
  rw [finish_eq]
  exact ht

theorem finish_station (b s : State) : (State.finish b s).station = s.station := by
  obtain ⟨-, -, h, -⟩ := State.finish_steady b s
  exact h

theorem event_seq {due : Bool} {body : State → State} (h : event due body s = .next t)
    (hb : SeqKeptOrReset s (body s)) : SeqKeptOrReset s t := by
  obtain hn | ⟨-, -, hn⟩ := event_next due body s
  · cases h.symm.trans hn
    exact .inl rfl
  · cases h.symm.trans hn
    rw [SeqKeptOrReset, SeqKept, finish_seq, finish_station]
    exact hb

theorem event_seqAdvanced {due : Bool} {body : State → State} (h : event due body s = .next t)
    (hb : SeqAdvancedOrReset s (body s)) : SeqAdvancedOrReset s t := by
  obtain hn | ⟨-, -, hn⟩ := event_next due body s
  · cases h.symm.trans hn
    exact .inl (.inl rfl)
  · cases h.symm.trans hn
    rw [SeqAdvancedOrReset, SeqKeptOrReset, SeqKept, finish_seq, finish_station]
    exact hb

theorem event_seqKept {due : Bool} {body : State → State} (h : event due body s = .next t) (hb : SeqKept s (body s)) :
    SeqKeptOrReset s t := event_seq h (.inl hb)

theorem event_seqActed {due : Bool} {body : State → State} (h : event due body s = .next t)
    (hb : due = true → Acted s (body s)) : SeqKeptOrReset s t := by
  obtain hn | ⟨hh, hd, hn⟩ := event_next due body s
  · cases h.symm.trans hn
    exact .inl rfl
  · refine event_seqKept (due := due) (body := body) h ?_
    exact (hb hd).seqKept

theorem State.takeFrame_seq {process : State → List Byte → State} (straps : BitVec 5)
    (hp : ∀ u b, SeqKept u (process u b)) : SeqKeptOrReset s (s.takeFrame straps process) := by
  have hduplicate (u : State) (hu : SeqKept s u) : SeqKeptOrReset s (u.duplicate straps) := by
    rw [State.duplicate_eq]
    split
    · exact s.warmRestart_seq _ straps
    · exact .inl (hu.trans (SeqKept.trans (t := (u.raise .duplicateStation).occur .duplicateStation) .of_line
        (State.enterQuiet_seqKept _)))
  have hdequeue : SeqKept s s.dequeue := .of_line
  simp only [State.takeFrame]
  (repeat' split)
  · exact .inl .of_line
  · exact .inl .of_line
  · exact hduplicate _ hdequeue
  · exact .inl (hdequeue.trans (hp _ _))

theorem State.takeReport_seqKept (s : State) (f : List Byte) : SeqKept s (s.takeReport f) := by
  rw [State.takeReport_eq]
  refine SeqKept.trans ?_ (State.tableNotice_seqKept _)
  rw [SeqKept, State.reported_eq]

theorem State.deletePeer_seqKept (s : State) (n : Nat) : SeqKept s (s.deletePeer n) :=
  SeqKept.trans (t := s.dropped n) .of_line (State.tableNotice_seqKept _)

theorem State.takeLeaving_seqKept (s : State) (f : List Byte) : SeqKept s (s.takeLeaving f) := by
  simp only [State.takeLeaving]
  split
  · exact s.deletePeer_seqKept _
  · exact .of_line

theorem State.restartCommand_seq (s : State) (straps : BitVec 5) : SeqKeptOrReset s (s.restartCommand straps) := by
  have hleaving (u : State) : SeqKept u u.composeLeaving := (u.placeFrame_slotsOnly u.leavingFrame).seqKept
  simp only [State.restartCommand, State.takeRestart]
  (repeat' split)
  · exact .inl .of_line
  · exact .inl .of_line
  · exact s.warmRestart_seq s straps
  · exact .inl (SeqKept.trans (t := { s with station := { s.station with restartPending := true } }) .of_line (hleaving _))

/-! ## The three commands that advance it -/

theorem State.attemptMisses_seq (s : State) (o : OnLine) (straps : BitVec 5) :
    SeqAdvancedOrReset s (s.attemptMisses o straps) := by
  have hretry (u : State) (n : Nat) : SeqKept u (u.retry o n) := by
    simp only [State.retry]
    split <;> exact .of_line
  simp only [State.attemptMisses]
  split
  · exact .inl (.inl (SeqKept.trans (t := { s with line := { s.line with rxMode := .ownDamaged } }) .of_line (hretry _ _)))
  · simp only [State.leavingFinished]
    split
    · exact .inl (s.warmRestart_seq _ straps)
    · refine .inr ?_
      rw [State.loseFrame_moveUp]
      rfl

theorem State.attemptDelivers_seq (s : State) (o : OnLine) (straps : BitVec 5) :
    SeqAdvancedOrReset s (s.attemptDelivers o straps) := by
  have hnotice (u : State) : SeqKept u u.deliveryNotice := by
    simp only [State.deliveryNotice]
    split
    · exact u.enterListen_seqKept
    · exact .of_line
  simp only [State.attemptDelivers, State.leavingFinished]
  split
  · exact .inl (s.warmRestart_seq _ straps)
  · refine .inr (Eq.trans (hnotice _) ?_)
    rw [State.deliverFrame_moveUp]
    rfl

theorem State.lineRestart_seq (s : State) : SeqAdvancedOrReset s s.lineRestart := by
  have hcompose (u : State) : u.composeReport.line.seq = u.line.seq := u.composeReport_seqKept
  rw [State.lineRestart_eq]
  simp only [State.dropOnLine]
  split
  · exact .inr ((hcompose _).trans rfl)
  · exact .inl (.inl ((hcompose _).trans rfl))

/-- R98: every command but three keeps the number or sets it to 0. -/
theorem exec_seq {c : Instr} (h : exec c s = .next t) : SeqKeptOrReset s t ∨ (t.line.seq = s.line.seq + 1 ∧
    (c = .lineRestart ∨ ∃ a, c = .delivery a ∨ c = .echoMismatch a)) := by
  cases c with
  | coldReset cause straps =>
    cases h
    refine .inl (.inr ?_)
    simp only [State.driveLines_line, State.driveLines_station, State.coldReset, State.readStraps]
    split
    · exact ⟨rfl, .inr rfl⟩
    · exact ⟨rfl, .inl rfl⟩
  | heldInReset cause =>
    cases h
    exact .inl (.inl rfl)
  | configAttempt answer i =>
    rw [exec_configAttempt] at h
    obtain hn | ⟨-, -, hn⟩ := quietEvent_next s.attempt.isSome (fun s => s.attemptEnds (s.attempt.getD 0) answer i) s
    · cases h.symm.trans hn
      exact .inl (.inl rfl)
    · cases h.symm.trans hn
      refine .inl (.inl ?_)
      rw [SeqKept, State.driveLines_line, State.nameLast_line]
      exact s.attemptEnds_seqKept _ answer i
  | configRetryDelay =>
    rw [exec_configRetryDelay] at h
    exact .inl (event_seqKept h s.nextAttempt_seqKept)
  | scan k =>
    rw [exec_scan] at h
    exact .inl (event_seqKept h ((s.takeScan_acted k).trans ((State.scanDemand_acted _).trans
      (State.prebleedTest_acted _))).seqKept)
  | holdTimerExpiry c =>
    rw [exec_holdTimerExpiry] at h
    exact .inl (event_seqKept h (s.probeFails_acted c).seqKept)
  | hhTimerExpiry =>
    rw [exec_hhTimerExpiry] at h
    exact .inl (event_seqKept h .of_line)
  | llTimerExpiry =>
    rw [exec_llTimerExpiry] at h
    exact .inl (event_seqKept h .of_line)
  | askWindowExpiry p =>
    rw [exec_askWindowExpiry] at h
    exact .inl (event_seqKept h (s.askExpires_acted p).seqKept)
  | confirmPeriodExpiry p =>
    rw [exec_confirmPeriodExpiry] at h
    exact .inl (event_seqActed h (fun hd => State.confirmExpires_acted (confirming_of_over hd)))
  | ageingStep p =>
    rw [exec_ageingStep] at h
    exact .inl (event_seqKept h (by simp [SeqKept]))
  | minimumRunEnd p =>
    rw [exec_minimumRunEnd] at h
    exact .inl (event_seqKept h (s.deferredRelease_acted p).seqKept)
  | maxRunExpiry p =>
    rw [exec_maxRunExpiry] at h
    exact .inl (event_seqKept h (s.maxRunRelease_acted p).seqKept)
  | reportProcessed straps =>
    rw [exec_reportProcessed] at h
    exact .inl (event_seq h (State.takeFrame_seq straps State.takeReport_seqKept))
  | leavingProcessed straps =>
    rw [exec_leavingProcessed] at h
    exact .inl (event_seq h (State.takeFrame_seq straps State.takeLeaving_seqKept))
  | peerStale n =>
    rw [exec_peerStale] at h
    exact .inl (event_seqKept h (SeqKept.trans (t := (s.makeStale n).raise .peerStale) .of_line
      (State.tableNotice_seqKept _)))
  | peerDropped n =>
    rw [exec_peerDropped] at h
    exact .inl (event_seqKept h (s.deletePeer_seqKept n))
  | frameEnd r =>
    rw [exec_frameEnd] at h
    exact .inl (event_seqKept h (s.receivesFrom_seqKept r))
  | reportTimer =>
    rw [exec_reportTimer] at h
    refine .inl (event_seqKept h (SeqKept.trans (t := s.reportTimed.composeReport) ?_ ?_))
    · exact SeqKept.trans (t := s.reportTimed) .of_line (State.composeReport_seqKept _)
    · exact congrArg Line.seq (State.periodicNotice_same _).2.2.2.1
  | attemptStart n =>
    rw [exec_attemptStart] at h
    exact .inl (event_seqKept h .of_line)
  | echoMismatch a =>
    rw [exec_echoMismatch] at h
    have hadv := event_seqAdvanced h (by
      split
      · next o _ => exact s.attemptMisses_seq o a.straps
      · exact .inl (.inl rfl))
    exact hadv.imp id (fun h => ⟨h, .inr ⟨a, .inr rfl⟩⟩)
  | delivery a =>
    rw [exec_delivery] at h
    have hadv := event_seqAdvanced h (by
      split
      · next o _ => exact s.attemptDelivers_seq o a.straps
      · exact .inl (.inl rfl))
    exact hadv.imp id (fun h => ⟨h, .inr ⟨a, .inl rfl⟩⟩)
  | deliveryTimerExpiry =>
    rw [exec_deliveryTimerExpiry] at h
    exact .inl (event_seqKept h s.enterIsolated_seqKept)
  | listenTimerExpiry =>
    rw [exec_listenTimerExpiry] at h
    exact .inl (event_seqKept h s.enterRun_seqKept)
  | feedbackSettled v i =>
    rw [exec_feedbackSettled] at h
    exact .inl (event_seqActed h (fun hd => State.feedbackSettles_acted (feedback_of_changes hd) i.level))
  | openCheckExpiry k =>
    rw [exec_openCheckExpiry] at h
    exact .inl (event_seqActed h (fun hd => State.openFails_acted (check_of_over hd) k.openHeldFor))
  | closeCheckExpiry v =>
    rw [exec_closeCheckExpiry] at h
    exact .inl (event_seqActed h (fun hd => State.closeCheckEnds_acted (check_of_over hd)))
  | strokePulseEnd =>
    rw [exec_strokePulseEnd] at h
    exact .inl (event_seqKept h .of_line)
  | meterSettled m i =>
    rw [exec_meterSettled] at h
    exact .inl (event_seqKept h (s.meterSettles_acted m i.level).seqKept)
  | slotBoundary =>
    rw [exec_slotBoundary] at h
    exact .inl (event_seqKept h s.slotTurns_acted.seqKept)
  | noFlowHoldTime =>
    rw [exec_noFlowHoldTime] at h
    exact .inl (event_seqKept h s.firstNoFlowTest_acted.seqKept)
  | strokeClockExpiry =>
    rw [exec_strokeClockExpiry] at h
    exact .inl (event_seqKept h s.strokeIntervalPasses_acted.seqKept)
  | intervalTimerExpiry =>
    rw [exec_intervalTimerExpiry] at h
    exact .inl (event_seqKept h s.enterDue_acted.seqKept)
  | prebleedShort =>
    rw [exec_prebleedShort] at h
    exact .inl (event_seqKept h ((s.raise_acted .prebleedShort).trans (State.enterClosing_acted _)).seqKept)
  | doseTimeExpiry =>
    rw [exec_doseTimeExpiry] at h
    exact .inl (event_seqKept h s.endDose_acted.seqKept)
  | contactTimeExpiry =>
    rw [exec_contactTimeExpiry] at h
    exact .inl (event_seqKept h s.endContact_acted.seqKept)
  | readStation | readMeasure | readPool | readPeer | readCounter | readHistogram | readEvents | readBalance
  | readBiocide | readConfig | readResetCause | outOfRange =>
    cases h
    exact .inl (.inl (s.readRecord_seqKept _ _))
  | unknownTransaction | readMailbox =>
    cases h
    exact .inl (.inl rfl)
  | postCommand code argument =>
    rw [exec_postCommand] at h
    exact .inl (event_seqKept h ((s.respond_acted []).trans (State.arrive_acted _ code argument)).seqKept)
  | acknowledge =>
    rw [exec_acknowledge] at h
    exact .inl (event_seqKept h (State.takeCommand_seqKept s.acknowledge_acted.seqKept))
  | biocideNow =>
    rw [exec_biocideNow] at h
    exact .inl (event_seqKept h (State.takeCommand_seqKept s.enterDue_acted.seqKept))
  | hold =>
    rw [exec_hold] at h
    refine .inl (event_seqKept h (State.takeCommand_seqKept ?_))
    simp only [State.takeHold]
    split
    · exact .of_line
    · exact s.enterHold_seqKept
  | resume =>
    rw [exec_resume] at h
    exact .inl (event_seqKept h (State.takeCommand_seqKept s.enterListen_seqKept))
  | clearCounters =>
    rw [exec_clearCounters] at h
    exact .inl (event_seqKept h s.takeClear_seqKept)
  | setMask =>
    rw [exec_setMask] at h
    exact .inl (event_seqKept h (State.takeCommand_seqKept .of_line))
  | lineRestart =>
    rw [exec_lineRestart] at h
    have hadv := event_seqAdvanced h (by
      simp only [State.takeCommand]
      (repeat' split)
      · exact .inl (.inl rfl)
      · exact .inl (.inl rfl)
      · exact s.lineRestart_seq)
    exact hadv.imp id (fun h => ⟨h, .inl rfl⟩)
  | restart straps =>
    rw [exec_restart] at h
    exact .inl (event_seq h (s.restartCommand_seq straps))

end

/-- Settles O29, by the walk over the commands. -/
theorem sequenceNumberAdvancesByOne : Obligations.SequenceNumberAdvancesByOne := by
  unfold Obligations.SequenceNumberAdvancesByOne
  intro s t hstep
  obtain ⟨c, rest, hp, hexec⟩ | ⟨-, rfl⟩ := step_cases hstep
  · rcases exec_seq hexec with (h | h) | ⟨h, hc⟩
    · exact .inl h
    · exact .inr (.inr h)
    · refine .inr (.inl ⟨h, ?_⟩)
      rw [hp]
      rcases hc with rfl | ⟨a, rfl | rfl⟩
      · exact .inl rfl
      · exact .inr ⟨a, .inl rfl⟩
      · exact .inr ⟨a, .inr rfl⟩
  · refine .inl ?_
    cases hh : s.held with
    | none => rw [State.tick_of_free hh]; rfl
    | some c => rw [State.tick_of_held (by rw [hh]; nofun)]

end Sys2Proof.Machine
end

section
/-! SUPPORT. Meters, feed and balance (chapter 7). -/

namespace Sys2Proof.Machine
open Sys2Proof

set_option Elab.async false

section
variable {b s t u : State}

/-! ## The end of an event of the meter and feed unit -/

/-- A count of one counter names none of two groups (R173). -/
theorem State.nameLast_of_count {c : Counter} {n : Nat} (h : t.stats.counters = (b.stats.count c n).counters) :
    t.nameLast b = t := by
  have hgroup : ∃ g ∈ Counter.groups, c ∈ g := by
    cases c with
    | grants p | withdrawals p | yields p => cases p <;> decide
    | _ => decide
  obtain ⟨g, hg, hc⟩ := hgroup
  have hnumber : ∀ g ∈ Counter.groups, ∀ k ∈ Counter.groups, k ≠ g → ∀ d ∈ k, ∀ c ∈ g, d.number ≠ c.number := by decide
  refine State.nameLast_of_group g (fun k hk hne d hd => ?_)
  rw [← b.stats.count_counter_of_ne n (hnumber g hg k hk hne d hd c hc)]
  simp only [Stats.counter, Stats.counterAt, h]

/-- An event that changes the feed's record but for its two marks, and counts one counter or none. -/
theorem finish_of_feed (hcl : t.claim = s.claim) (hb : t.bio = s.bio) (ha : t.stats.alarms = s.stats.alarms)
    (hm : t.meas = s.meas) (hf : t.feed.mismatch = s.feed.mismatch) (hg : t.feed.backlog = s.feed.backlog)
    (hn : t.stats.counters = s.stats.counters ∨ ∃ c n, t.stats.counters = (s.stats.count c n).counters) :
    State.finish s t = t.driveLines := by
  refine finish_of_same hcl hb ha hm hf hg ?_
  rcases hn with hn | ⟨c, n, hn⟩
  · exact State.nameLast_of_same hn
  · exact State.nameLast_of_count hn

/-- The same where nothing is told. -/
theorem finish_of_feed_alone (hl : LinesFollow s) {f : Feed} (hf : f.mismatch = s.feed.mismatch)
    (hg : f.backlog = s.feed.backlog) : State.finish s { s with feed := f } = { s with feed := f } := by
  have hlines : LinesFollow { s with feed := f } := hl.of_same rfl rfl rfl rfl rfl
  rw [finish_of_feed (s := s) (t := { s with feed := f }) rfl rfl rfl rfl hf hg (.inl rfl)]
  exact driveLines_of_linesFollow hlines

/-! ## Meters (R119 to R122) -/

theorem Feed.setLevel_marks (f : Feed) (m : Meter) (high : Bool) :
    (f.setLevel m high).mismatch = f.mismatch ∧ (f.setLevel m high).backlog = f.backlog := by
  cases m <;> exact ⟨rfl, rfl⟩

/-- Settles O35, by the debounce time and the edge mode. -/
theorem blowdownPulseCounts : Obligations.BlowdownPulseCounts := by
  unfold Obligations.BlowdownPulseCounts
  intro m high h s hl hw hne i
  have hdue (hd : s.station.cfg.debounce ≤ h) : s.meterChanges m i = true := by
    simp [State.meterChanges, hw, i, hd, hne]
  refine ⟨fun hd => ?_, fun hd hedge => ?_, fun hd hm hedge => ?_⟩
  · have hno : s.meterChanges m i = false := by
      simp [State.meterChanges, i, Nat.not_le.mpr hd]
    rw [exec_meterSettled, hno, event_of_not_due]
  · obtain ⟨h1, h2⟩ := s.feed.setLevel_marks m high
    rw [exec_meterSettled, event_of_due hl.1 (hdue hd)]
    simp only [State.meterSettles, i, hedge, Bool.false_eq_true, if_false]
    exact congrArg Host.Outcome.next (finish_of_feed_alone hl.2 h1 h2)
  · subst hm
    rw [exec_meterSettled, event_of_due hl.1 (hdue hd)]
    have hsettles : s.meterSettles .blowdown high =
        ({ s with feed := s.feed.setLevel .blowdown high } : State).blowdownPulse := if_pos hedge
    simp only [i, hsettles]
    exact congrArg Host.Outcome.next (finish_of_feed rfl rfl (State.count_alarms _ _ _) rfl rfl rfl
      (.inr ⟨.blowdownLitres, s.station.cfg.kB, rfl⟩))

/-! ## The no-flow test (R123, R125) -/

theorem flowEstimate_eq_zero (ring : List Nat) : flowEstimate ring = 0 ↔ ring.sum = 0 := by
  simp only [flowEstimate]
  omega

theorem State.noFlowTest_of_watch {w : NoFlowWatch} (h : s.feed.noFlow = some w) : s.noFlowTest =
    if s.feed.blowdownRing.sum = 0 ∧ w.raised = false then
      { s with feed := { s.feed with noFlow := some { w with raised := true } } }.raise .noFlow else s := by
  simp only [State.noFlowTest, h, flowEstimate_eq_zero]

/-- R123: both rings turned and the clock started again. -/
def State.turned (s : State) : State :=
  { s with feed := { s.feed with makeupRing := s.feed.makeupRing.drop 1 ++ [0],
                                 blowdownRing := s.feed.blowdownRing.drop 1 ++ [0], slotClock := some 0 } }

theorem State.slotTurns_of_none (h : s.feed.noFlow = none) : s.slotTurns = s.turned := by
  have hmatch : s.slotTurns = s.feed.noFlow.elim s.turned (fun w => if w.tested then s.turned.noFlowTest else s.turned) := by
    cases hn : s.feed.noFlow <;> simp only [State.slotTurns, hn, Option.elim] <;> simp only [State.turned, turnRing, hn]
  rw [hmatch, h]
  rfl

theorem State.slotTurns_of_watch {w : NoFlowWatch} (h : s.feed.noFlow = some w) :
    s.slotTurns = if w.tested then s.turned.noFlowTest else s.turned := by
  have hmatch : s.slotTurns = s.feed.noFlow.elim s.turned (fun w => if w.tested then s.turned.noFlowTest else s.turned) := by
    cases hn : s.feed.noFlow <;> simp only [State.slotTurns, hn, Option.elim] <;> simp only [State.turned, turnRing, hn]
  rw [hmatch, h]
  rfl

/-! ## Strokes (R116, R126 to R128) -/

/-- R127, R128, R116: a stroke given, counted and begun. -/
theorem State.stroke_eq (s : State) : s.stroke =
    ({ s with feed := { s.feed with owed := s.feed.owed - 1, strokeClock := some 0, strokePassed := false,
                                    backlog := s.feed.backlog && s.feed.owed - 1 != 0 },
              out := { s.out with inhibitorPulse := some 0 } } : State).count .inhibitorStrokes 1 := rfl

theorem feedRuns_iff {st : StationState} (h : st.working = true) : st.feedRuns = true ↔ st ≠ .hold := by
  cases st with
  | start => cases h
  | configFault => cases h
  | hold => exact ⟨nofun, fun h => absurd rfl h⟩
  | listen => exact ⟨fun _ => nofun, fun _ => rfl⟩
  | run => exact ⟨fun _ => nofun, fun _ => rfl⟩
  | isolated => exact ⟨fun _ => nofun, fun _ => rfl⟩
  | quiet => exact ⟨fun _ => nofun, fun _ => rfl⟩

/-- R127, R128, R116: the state with a stroke given, counted and begun. -/
def State.strokeGiven (s : State) : State :=
  { s with feed := { s.feed with owed := s.feed.owed - 1, strokeClock := some 0, strokePassed := false,
                                 backlog := s.feed.backlog && s.feed.owed != 1 },
           out := { s.out with inhibitorPulse := some 0 } }.count .inhibitorStrokes 1

/-- A stroke at the end of an event: it is told where it works off a backlog. -/
theorem finish_stroke (s : State) (ho : 0 < s.feed.owed) :
    State.finish s ({ s with feed := { s.feed with strokePassed := true } } : State).stroke =
      if s.feed.backlog = true ∧ s.feed.owed = 1 then s.strokeGiven.toldAfter s 1 else s.strokeGiven.driveLines := by
  generalize hug : s.strokeGiven = u
  have hu : ({ s with feed := { s.feed with strokePassed := true } } : State).stroke = u := by
    have hlast : (s.feed.owed - 1 != 0) = (s.feed.owed != 1) := by
      rw [Bool.eq_iff_iff, bne_iff_ne, bne_iff_ne]
      omega
    simp only [State.stroke_eq, hlast, ← hug, State.strokeGiven]
  have hb : u.feed.backlog = (s.feed.backlog && s.feed.owed != 1) := by rw [← hug]; rfl
  have hcl : u.claim = s.claim := by rw [← hug]; rfl
  have hbio : u.bio = s.bio := by rw [← hug]; rfl
  have hm : u.meas = s.meas := by rw [← hug]; rfl
  have hf : u.feed.mismatch = s.feed.mismatch := by rw [← hug]; rfl
  have hn : u.stats.counters = (s.stats.count .inhibitorStrokes 1).counters := by rw [← hug]; rfl
  have ha : u.stats.alarms = s.stats.alarms := by rw [← hug]; exact State.count_alarms _ _ _
  rw [hu]
  split
  · next h =>
    have hdiff : alarmSummaryDiffers s u = true := by
      refine Bool.not_eq_false _ |>.mp fun hno => ?_
      have hsummary := congrArg FaultSummary.backlog (alarmSummaryDiffers_eq_false_iff.mp hno).2
      simp [State.faultSummary, hb, h.1, h.2] at hsummary
    have htriggers : reportTriggers s u = 1 := by
      rw [reportTriggers_of_pool .discharge (fun q _ => by rw [State.engine_of_claim hcl]),
        engineDiffers_eq_false (by rw [State.engine_of_claim hcl]), hdiff]
      simp [hbio]
    have hdue : closingTestDue s u = false :=
      closingTestDue_of_same (by rw [hbio]) (by rw [State.engine_of_claim hcl])
    have hfault : u.valveFault = s.valveFault := State.valveFault_of_engines fun p => by rw [State.engine_of_claim hcl]
    rw [finish_eq_toldAfter (fun hd => by cases hdue.symm.trans hd) (fun hv => hfault.trans hv), htriggers]
  · next h =>
    refine finish_of_feed hcl hbio ha hm hf ?_ (.inr ⟨.inhibitorStrokes, 1, hn⟩)
    rw [hb]
    cases hback : s.feed.backlog
    · rfl
    · simp only [Bool.true_and, bne_iff_ne]
      exact fun h1 => h ⟨hback, h1⟩

/-- Settles O37, clock by clock. -/
theorem feedClocksRun : Obligations.FeedClocksRun := by
  unfold Obligations.FeedClocksRun
  refine fun w s hl => ⟨fun hr => ?_, fun hw ht hu => ?_, fun hp => ?_, fun hw hr hp => ?_, fun hr => ?_⟩
  · intro u
    have hexec : exec .slotBoundary s = .next (State.finish s s.slotTurns) :=
      (exec_slotBoundary s).trans (event_of_due hl.1 hr)
    have hsame : State.finish s u = u := finish_of_feed_alone hl.2 rfl rfl
    have hnoFlow : u.feed.noFlow = s.feed.noFlow := rfl
    rw [hexec]
    refine ⟨fun hn => ?_, fun hn hno => ?_, fun hn ht hra hz => ?_⟩
    · have hturns : s.slotTurns = u := State.slotTurns_of_none hn
      rw [hturns, hsame]
    · have hturns : s.slotTurns = u := by
        have hs : s.slotTurns = if w.tested then u.noFlowTest else u := State.slotTurns_of_watch hn
        rw [hs]
        split
        · next ht =>
          rw [State.noFlowTest_of_watch (hnoFlow.trans hn), if_neg]
          rintro ⟨hz, hra⟩
          rcases hno with h | h | h
          · cases h.symm.trans ht
          · cases hra.symm.trans h
          · exact h hz
        · rfl
      rw [hturns, hsame]
    · have hturns : s.slotTurns =
          ({ u with feed := { u.feed with noFlow := some { w with raised := true } } } : State).raise .noFlow := by
        have hs : s.slotTurns = if w.tested then u.noFlowTest else u := State.slotTurns_of_watch hn
        rw [hs, if_pos ht, State.noFlowTest_of_watch (hnoFlow.trans hn), if_pos ⟨hz, hra⟩]
      rw [hturns]
      exact congrArg Host.Outcome.next (finish_of_feed rfl rfl rfl rfl rfl rfl (.inl rfl))
  · have hd : s.noFlowDue = true := by simp [State.noFlowDue, hw, hu, Config.noFlowTime, ht]
    have hexec : exec .noFlowHoldTime s = .next (State.finish s s.firstNoFlowTest) :=
      (exec_noFlowHoldTime s).trans (event_of_due hl.1 hd)
    have htest : s.firstNoFlowTest = if s.feed.blowdownRing.sum = 0 ∧ w.raised = false then
        ({ s with feed := { s.feed with noFlow := some { w with tested := true, raised := true } } } : State).raise .noFlow
        else { s with feed := { s.feed with noFlow := some { w with tested := true } } } := by
      have hmap : s.feed.noFlow.map (fun (v : NoFlowWatch) => { v with tested := true }) = some { w with tested := true } := by
        rw [hw]
        rfl
      rw [State.firstNoFlowTest, hmap, State.noFlowTest_of_watch rfl]
    rw [hexec, htest]
    refine ⟨fun hz hra => ?_, fun hno => ?_⟩
    · rw [if_pos ⟨hz, hra⟩]
      exact congrArg Host.Outcome.next (finish_of_feed rfl rfl rfl rfl rfl rfl (.inl rfl))
    · rw [if_neg (by rintro ⟨hz, hra⟩; exact hno.elim (fun h => h hz) (fun h => by cases hra.symm.trans h))]
      exact congrArg Host.Outcome.next (finish_of_feed_alone hl.2 rfl rfl)
  · have hno : s.strokeClockOver = false := by simp [State.strokeClockOver, hp]
    rw [exec_strokeClockExpiry, hno, event_of_not_due]
  · have hd : s.strokeClockOver = true := by
      simp only [State.strokeClockOver, hw, hp, Bool.not_false, Bool.and_true, Bool.true_and]
      exact hr
    have hexec : exec .strokeClockExpiry s = .next (State.finish s s.strokeIntervalPasses) :=
      (exec_strokeClockExpiry s).trans (event_of_due hl.1 hd)
    rw [hexec, State.strokeIntervalPasses_eq]
    refine ⟨fun ho hs => ?_, fun hno => ?_⟩
    · rw [if_pos ⟨ho, (feedRuns_iff hw).mpr hs⟩]
      exact congrArg Host.Outcome.next (finish_stroke s ho)
    · rw [if_neg]
      · exact congrArg Host.Outcome.next (finish_of_feed_alone hl.2 rfl rfl)
      · rintro ⟨h1, h2⟩
        rcases hno with h | h
        · omega
        · exact (feedRuns_iff hw).mp h2 h
  · have hexec : exec .strokePulseEnd s = .next (State.finish s s.endPulse) :=
      (exec_strokePulseEnd s).trans (event_of_due hl.1 hr)
    have hlines : LinesFollow s.endPulse := hl.2.of_same rfl rfl rfl rfl rfl
    rw [hexec, finish_of_feed (s := s) (t := s.endPulse) rfl rfl rfl rfl rfl rfl (.inl rfl), driveLines_of_linesFollow hlines]
    rfl

end

end Sys2Proof.Machine
end

section
/-! SUPPORT. The makeup pulse (R121, R126 to R131): what it earns, what it gives and how it ends a balance interval. -/

namespace Sys2Proof.Machine
open Sys2Proof

set_option Elab.async false

section
variable {b s t u : State}

/-! ## Flags at the end of an event -/

/-- A count marks its own crossing alone. -/
theorem Stats.count_flag_of_ne {e : Event} (hh : e ≠ .counterHalf) (hw : e ≠ .counterWrap) (r : Stats) (c : Counter) (n : Nat) :
    (r.count c n).flag e = r.flag e := by
  have hr (v : Stats) (f : Event) (hf : e ≠ f) : (v.raise f).flag e = v.flag e := by
    rw [Stats.raise_flag, beq_false_of_ne (Ne.symm hf), Bool.or_false]
  simp only [Stats.count]
  split
  · exact hr { r with counters := _ } .counterWrap hw
  · split
    · exact hr { r with counters := _ } .counterHalf hh
    · rfl

theorem State.composeReports_flag_of_ne {e : Event} (hh : e ≠ .counterHalf) (hw : e ≠ .counterWrap) (s : State) (n : Nat) :
    (s.composeReports n).stats.flag e = s.stats.flag e := by
  induction n generalizing s with
  | zero => rfl
  | succ n ih =>
    rw [State.composeReports_succ, ih]
    simp only [State.composeReport, State.placeFrame]
    (repeat' split)
    · exact Stats.count_flag_of_ne hh hw _ _ _
    · rfl
    · rfl

/-- The end of an event marks no event but those of the closing test and of its own counts. -/
theorem finish_flag_of_ne {e : Event} (hh : e ≠ .counterHalf) (hw : e ≠ .counterWrap) (b s : State) :
    (State.finish b s).stats.flag e = (s.tested b).stats.flag e := by
  have hf : State.finish b s = ((s.tested b).calmValveFault b).toldAfter b (reportTriggers b ((s.tested b).calmValveFault b)) :=
    rfl
  have htold (v : State) (n : Nat) : (v.toldAfter b n).stats.flag e = v.stats.flag e := by
    have hlast (x : State) : (x.nameLast b).driveLines.stats.flag e = x.stats.flag e := by
      have hflags : (x.nameLast b).driveLines.stats.flags = x.stats.flags := by
        simp only [State.nameLast]
        split <;> rfl
      simp only [Stats.flag, hflags]
    exact (hlast _).trans (v.composeReports_flag_of_ne hh hw n)
  rw [hf, htold, State.calmValveFault_eq]
  rfl

theorem finish_flag_of_not_due {e : Event} (hh : e ≠ .counterHalf) (hw : e ≠ .counterWrap)
    (hdue : closingTestDue b s = false) : (State.finish b s).stats.flag e = s.stats.flag e := by
  rw [finish_flag_of_ne hh hw, State.tested_of_not_due hdue]

/-! ## Earning (R126) -/

theorem Feed.earn_eq (f : Feed) (milli : Nat) : f.earn milli =
    { f with owed := (f.earn milli).owed, remainder := (f.earn milli).remainder, backlog := (f.earn milli).backlog } := rfl

theorem Feed.earn_of_fits {f : Feed} {milli : Nat} (h : f.owed + (f.remainder + milli) / 1000 ≤ 250) : f.earn milli =
    { f with owed := f.owed + (f.remainder + milli) / 1000, remainder := (f.remainder + milli) % 1000,
             backlog := f.backlog || f.owed + (f.remainder + milli) / 1000 == 250 } := by
  have hmin : min ((f.remainder + milli) / 1000) (Config.owedMax - f.owed) = (f.remainder + milli) / 1000 :=
    Nat.min_eq_left (Nat.le_sub_of_add_le (by rw [Nat.add_comm]; exact h))
  have hrest : f.remainder + milli - 1000 * ((f.remainder + milli) / 1000) = (f.remainder + milli) % 1000 :=
    (Nat.mod_eq_sub_mul_div ..).symm
  have hfull : decide (Config.owedMax ≤ f.owed + (f.remainder + milli) / 1000) =
      (f.owed + (f.remainder + milli) / 1000 == 250) := by
    rw [Bool.eq_iff_iff, decide_eq_true_eq, beq_iff_eq]
    simp only [Config.owedMax]
    omega
  simp only [Feed.earn, hmin, hrest, hfull, if_neg (Nat.not_le.mpr (Nat.mod_lt _ (by decide : 1000 > 0)))]

theorem Feed.earn_of_over {f : Feed} {milli : Nat} (ho : f.owed ≤ 250) (h : 250 < f.owed + (f.remainder + milli) / 1000) :
    f.earn milli = { f with owed := 250, remainder := 999, backlog := true } := by
  have hmin : min ((f.remainder + milli) / 1000) (250 - f.owed) = 250 - f.owed := Nat.min_eq_right (by omega)
  have hsum : f.owed + (250 - f.owed) = 250 := Nat.add_sub_cancel' ho
  have hrest : 1000 ≤ f.remainder + milli - 1000 * (250 - f.owed) := by omega
  simp only [Feed.earn, hmin, hsum, if_pos hrest, Config.owedMax, Nat.le_refl, decide_true, Bool.or_true]

/-! ## The feed at a makeup pulse (R126 to R128) -/

/-- What has been earned, with INHIBITOR BACKLOG where the mark becomes set. -/
def State.earned (s : State) (milli : Nat) : State :=
  if (s.feed.earn milli).backlog && !s.feed.backlog then ({ s with feed := s.feed.earn milli } : State).raise .inhibitorBacklog
  else { s with feed := s.feed.earn milli }

theorem State.earned_eq (s : State) (milli : Nat) : s.earned milli =
    { s with feed := s.feed.earn milli, stats := { s.stats with flags := (s.earned milli).stats.flags } } := by
  simp only [State.earned]
  split <;> rfl

theorem State.earned_backlog_flag (s : State) (milli : Nat) : (s.earned milli).stats.flag .inhibitorBacklog =
    (s.stats.flag .inhibitorBacklog || ((s.feed.earn milli).backlog && !s.feed.backlog)) := by
  simp only [State.earned]
  split
  · next h => rw [h, Bool.or_true]; exact State.raise_flag_self _ _
  · next h => rw [Bool.not_eq_true _ |>.mp h, Bool.or_false]

/-- R127: a stroke is given at once: strokes rose, the feed runs, and no interval is being waited for. -/
def State.givesAtOnce (s : State) (milli : Nat) : Bool :=
  decide (s.feed.owed < (s.feed.earn milli).owed) && s.station.state.feedRuns &&
    (s.feed.strokeClock.isNone || s.feed.strokePassed)

theorem State.givesAtOnce_iff (s : State) (milli : Nat) : s.givesAtOnce milli = true ↔
    s.feed.owed < (s.feed.earn milli).owed ∧ s.station.state.feedRuns = true ∧
      (s.feed.strokeClock = none ∨ s.feed.strokePassed = true) := by
  simp only [State.givesAtOnce, Bool.and_eq_true, Bool.or_eq_true, decide_eq_true_eq, Option.isNone_iff_eq_none, and_assoc]

theorem State.earnStrokes_eq (s : State) (milli : Nat) :
    s.earnStrokes milli = if s.givesAtOnce milli then (s.earned milli).stroke else s.earned milli := by
  have hf : (s.earned milli).feed = s.feed.earn milli := by rw [State.earned_eq]
  have hst : (s.earned milli).station = s.station := by rw [State.earned_eq]
  have hearn : s.earnStrokes milli =
      if s.feed.owed < (s.feed.earn milli).owed then (s.earned milli).strokeTest else s.earned milli := rfl
  have hdue (h : s.feed.owed < (s.feed.earn milli).owed) : (s.earned milli).strokeDue = s.givesAtOnce milli := by
    have hpos : 0 < (s.feed.earn milli).owed := Nat.zero_lt_of_lt h
    have hclock : (s.feed.earn milli).strokeClock = s.feed.strokeClock := rfl
    have hpassed : (s.feed.earn milli).strokePassed = s.feed.strokePassed := rfl
    simp only [State.strokeDue, Feed.paced, hf, hst, hpos, hclock, hpassed, State.givesAtOnce, h]
  rw [hearn]
  by_cases h : s.feed.owed < (s.feed.earn milli).owed
  · rw [if_pos h, State.strokeTest, hdue h]
  · have hno : s.givesAtOnce milli = false := by simp only [State.givesAtOnce, h, decide_false, Bool.false_and]
    rw [if_neg h, hno]
    rfl

/-- What the feed has earned and given at a makeup pulse, `t`, from the state `s` before. -/
structure Fed (milli : Nat) (s t : State) : Prop where
  owed : t.feed.owed = if s.givesAtOnce milli then (s.feed.earn milli).owed - 1 else (s.feed.earn milli).owed
  pulse : t.out = { s.out with inhibitorPulse := if s.givesAtOnce milli then some 0 else s.out.inhibitorPulse }
  clock : t.feed.strokeClock = if s.givesAtOnce milli then some 0 else s.feed.strokeClock
  passed : t.feed.strokePassed = if s.givesAtOnce milli then false else s.feed.strokePassed
  backlog : t.feed.backlog =
    ((s.feed.earn milli).backlog && !(s.givesAtOnce milli && (s.feed.earn milli).owed == 1))
  rest : t.feed = { s.feed with
    owed := t.feed.owed, strokeClock := t.feed.strokeClock, strokePassed := t.feed.strokePassed
    backlog := t.feed.backlog, remainder := (s.feed.earn milli).remainder }
  flag : t.stats.flag .inhibitorBacklog =
    (s.stats.flag .inhibitorBacklog || ((s.feed.earn milli).backlog && !s.feed.backlog))
  strokes : s.stats.counters.length = 20 → t.stats.counter .inhibitorStrokes =
    s.stats.counter .inhibitorStrokes + if s.givesAtOnce milli then 1 else 0
  length : t.stats.counters.length = s.stats.counters.length
  kept : CountersKept s t [.inhibitorStrokes]
  others : t = { s with feed := t.feed, out := t.out, stats := t.stats }

theorem State.earnStrokes_fed (s : State) (milli : Nat) : Fed milli s (s.earnStrokes milli) := by
  have hflag : (s.earned milli).stats.flag .inhibitorBacklog = _ := s.earned_backlog_flag milli
  have heq := s.earned_eq milli
  rw [State.earnStrokes_eq]
  generalize s.earned milli = e at hflag heq
  have hcounters : e.stats.counters = s.stats.counters := by rw [heq]
  cases hg : s.givesAtOnce milli with
  | true =>
    have hpos : 0 < (s.feed.earn milli).owed := Nat.zero_lt_of_lt ((s.givesAtOnce_iff milli).mp hg).1
    rw [if_pos rfl, State.stroke_eq]
    refine { owed := ?_, pulse := ?_, clock := ?_, passed := ?_, backlog := ?_, rest := ?_, flag := ?_, strokes := ?_,
             length := ?_, kept := ?_, others := ?_ }
    · rw [heq, hg]; rfl
    · rw [heq, hg]; rfl
    · rw [heq, hg]; rfl
    · rw [heq, hg]; rfl
    · have hlast : ((s.feed.earn milli).owed - 1 != 0) = !((s.feed.earn milli).owed == 1) := by
        rw [← bne, Bool.eq_iff_iff, bne_iff_ne, bne_iff_ne]
        omega
      rw [heq, hg, Bool.true_and, ← hlast]
      rfl
    · rw [heq]; rfl
    · rw [← hflag]
      exact Stats.count_flag_of_ne (e := .inhibitorBacklog) nofun nofun _ _ _
    · intro hlen
      have hself : (e.stats.count .inhibitorStrokes 1).counter .inhibitorStrokes = e.stats.counter .inhibitorStrokes + 1 :=
        Stats.count_counter_self (by rw [hcounters, hlen])
      rw [hg, if_pos rfl]
      refine hself.trans ?_
      simp only [Stats.counter, Stats.counterAt, hcounters]
    · exact (congrArg List.length (Stats.count_counters _ _ _)).trans (by rw [List.length_set, hcounters])
    · exact (CountersKept.of_counters (t := e) hcounters).trans (State.count_countersKept _ _ (List.mem_singleton_self _))
    · rw [heq]; rfl
  | false =>
    rw [if_neg Bool.false_ne_true]
    refine { owed := ?_, pulse := ?_, clock := ?_, passed := ?_, backlog := ?_, rest := ?_, flag := ?_, strokes := ?_,
             length := ?_, kept := ?_, others := ?_ }
    · rw [heq, hg]; rfl
    · rw [heq, hg]; rfl
    · rw [heq, hg]; rfl
    · rw [heq, hg]; rfl
    · rw [heq, hg, Bool.false_and, Bool.not_false, Bool.and_true]
    · rw [heq]; rfl
    · exact hflag
    · intro _
      have hsame : e.stats.counter .inhibitorStrokes = s.stats.counter .inhibitorStrokes := by
        simp only [Stats.counter, Stats.counterAt, hcounters]
      rw [hg, if_neg Bool.false_ne_true, hsame]
      exact (BitVec.add_zero _).symm
    · rw [hcounters]
    · exact .of_counters hcounters
    · rw [heq]

/-! ## The balance interval (R129 to R131) -/

/-- Litres that do not bring M_i to the balance interval only join it. -/
theorem State.accumulateMakeup_of_short {k : Nat} (h : s.feed.makeupAcc + k < s.station.cfg.balanceInterval * 100) :
    s.accumulateMakeup k = { s with feed := { s.feed with makeupAcc := s.feed.makeupAcc + k } } :=
  if_neg (Nat.not_le.mpr h)

theorem State.accumulateMakeup_of_full {k : Nat} (h : s.station.cfg.balanceInterval * 100 ≤ s.feed.makeupAcc + k) :
    s.accumulateMakeup k = ({ s with feed := { s.feed with makeupAcc := s.feed.makeupAcc + k } } : State).endBalance :=
  if_pos h

theorem State.balanceOutcome_eq (s : State) (r : BalanceResult) : s.balanceOutcome r =
    { s with
      feed := { s.feed with mismatch := (s.balanceOutcome r).feed.mismatch }
      stats := { s.stats with flags := (s.balanceOutcome r).stats.flags, alarms := (s.balanceOutcome r).stats.alarms } } := by
  cases r with
  | ok =>
    simp only [State.balanceOutcome]
    split <;> rfl
  | none | uncompared | mismatch | skipped => rfl

/-- What an interval's end marks. -/
theorem State.balanceOutcome_backlog_flag (s : State) (r : BalanceResult) :
    (s.balanceOutcome r).stats.flag .inhibitorBacklog = s.stats.flag .inhibitorBacklog := by
  have hr (x : Stats) (f : Event) (hf : f ≠ .inhibitorBacklog) : (x.raise f).flag .inhibitorBacklog = x.flag .inhibitorBacklog := by
    rw [Stats.raise_flag, beq_false_of_ne hf, Bool.or_false]
  cases r with
  | none | uncompared => rfl
  | mismatch => exact hr s.stats .balanceMismatch nofun
  | skipped => exact hr s.stats .balanceSkipped nofun
  | ok =>
    simp only [State.balanceOutcome]
    split <;> rfl

/-- What the accumulation of a makeup pulse leaves. -/
theorem State.accumulateMakeup_eq (s : State) (k : Nat) : s.accumulateMakeup k =
    { s with
      feed := { s.feed with
        makeupAcc := (s.accumulateMakeup k).feed.makeupAcc, blowdownAcc := (s.accumulateMakeup k).feed.blowdownAcc
        balance := (s.accumulateMakeup k).feed.balance, mismatch := (s.accumulateMakeup k).feed.mismatch }
      stats := { s.stats with
        flags := (s.accumulateMakeup k).stats.flags, alarms := (s.accumulateMakeup k).stats.alarms } } := by
  rcases Nat.lt_or_ge (s.feed.makeupAcc + k) (s.station.cfg.balanceInterval * 100) with h | h
  · rw [State.accumulateMakeup_of_short h]
  · rw [State.accumulateMakeup_of_full h, State.endBalance, State.balanceOutcome_eq]

theorem State.accumulateMakeup_backlog_flag (s : State) (k : Nat) :
    (s.accumulateMakeup k).stats.flag .inhibitorBacklog = s.stats.flag .inhibitorBacklog := by
  rcases Nat.lt_or_ge (s.feed.makeupAcc + k) (s.station.cfg.balanceInterval * 100) with h | h
  · rw [State.accumulateMakeup_of_short h]
  · rw [State.accumulateMakeup_of_full h, State.endBalance, State.balanceOutcome_backlog_flag]

/-- R129, R130: the last balance record and the two accumulators after an interval's end. -/
theorem State.accumulateMakeup_record {k : Nat} (h : s.station.cfg.balanceInterval * 100 ≤ s.feed.makeupAcc + k) :
    (s.accumulateMakeup k).feed.makeupAcc = 0 ∧ (s.accumulateMakeup k).feed.blowdownAcc = 0 ∧
    (s.accumulateMakeup k).feed.balance =
      ({ s with feed := { s.feed with makeupAcc := s.feed.makeupAcc + k } } : State).balanceRecord := by
  rw [State.accumulateMakeup_of_full h, State.endBalance, State.balanceOutcome_eq]
  exact ⟨rfl, rfl, rfl⟩

theorem State.endBalance_of_skipped (h : s.balanceRecord.result = .skipped) :
    s.endBalance.feed.mismatch = s.feed.mismatch ∧ s.endBalance.stats.flag .balanceSkipped = true := by
  rw [State.endBalance, h]
  exact ⟨rfl, State.raise_flag_self _ _⟩

theorem State.endBalance_of_uncompared (h : s.balanceRecord.result = .uncompared) :
    s.endBalance.feed.mismatch = s.feed.mismatch := by
  rw [State.endBalance, h]
  rfl

theorem State.endBalance_of_mismatch (h : s.balanceRecord.result = .mismatch) : s.endBalance.feed.mismatch = true ∧
    s.endBalance.stats.flag .balanceMismatch = true ∧ Latched .balanceMismatch s.endBalance := by
  rw [State.endBalance, h]
  exact ⟨rfl, State.raise_flag_self { s with feed := _ } _, State.occur_latched _ _⟩

theorem State.endBalance_of_ok (h : s.balanceRecord.result = .ok) : s.endBalance.feed.mismatch = false := by
  rw [State.endBalance, h]
  simp only [State.balanceOutcome]
  split
  · rfl
  · next hm => exact Bool.not_eq_true _ |>.mp hm

/-- What the litres of a makeup pulse make of the interval: `v`, from the state `e` before. -/
structure Accumulated (k : Nat) (e v : State) : Prop where
  short : e.feed.makeupAcc + k < e.station.cfg.balanceInterval * 100 →
    v.feed = { e.feed with makeupAcc := e.feed.makeupAcc + k }
  full : e.station.cfg.balanceInterval * 100 ≤ e.feed.makeupAcc + k → v.feed.makeupAcc = 0 ∧ v.feed.blowdownAcc = 0 ∧
    v.feed.balance =
      { makeupLitres := e.feed.makeupAcc + k, blowdownLitres := e.feed.blowdownAcc
        metered := if e.feed.blowdownAcc = 0 then 0 else meteredCycles (e.feed.makeupAcc + k) e.feed.blowdownAcc
        measured := e.meas.derived.coc.getD 0
        result := balanceResult e.station.cfg.tolerance (e.feed.makeupAcc + k) e.feed.blowdownAcc e.meas.derived.coc }
  skipped : e.station.cfg.balanceInterval * 100 ≤ e.feed.makeupAcc + k → v.feed.balance.result = .skipped →
    v.feed.mismatch = e.feed.mismatch ∧ v.stats.flag .balanceSkipped = true
  uncompared : e.station.cfg.balanceInterval * 100 ≤ e.feed.makeupAcc + k → v.feed.balance.result = .uncompared →
    v.feed.mismatch = e.feed.mismatch
  mismatch : e.station.cfg.balanceInterval * 100 ≤ e.feed.makeupAcc + k → v.feed.balance.result = .mismatch →
    v.feed.mismatch = true ∧ v.stats.flag .balanceMismatch = true ∧ Latched .balanceMismatch v
  ok : e.station.cfg.balanceInterval * 100 ≤ e.feed.makeupAcc + k → v.feed.balance.result = .ok → v.feed.mismatch = false

theorem State.makeupAccumulated (e : State) (k : Nat) : Accumulated k e (e.accumulateMakeup k) where
  short h := by rw [State.accumulateMakeup_of_short h]
  full h := e.accumulateMakeup_record h
  skipped h hr := by
    rw [(e.accumulateMakeup_record h).2.2] at hr
    rw [State.accumulateMakeup_of_full h]
    exact State.endBalance_of_skipped hr
  uncompared h hr := by
    rw [(e.accumulateMakeup_record h).2.2] at hr
    rw [State.accumulateMakeup_of_full h]
    exact State.endBalance_of_uncompared hr
  mismatch h hr := by
    rw [(e.accumulateMakeup_record h).2.2] at hr
    rw [State.accumulateMakeup_of_full h]
    exact State.endBalance_of_mismatch hr
  ok h hr := by
    rw [(e.accumulateMakeup_record h).2.2] at hr
    rw [State.accumulateMakeup_of_full h]
    exact State.endBalance_of_ok hr

/-! ## The makeup pulse (R121) -/

/-- R121: the litres of a makeup pulse counted and joined to the current slot. -/
def State.makeupCounted (s : State) (high : Bool) : State :=
  { s with
    feed := { s.feed with makeupLevel := high, makeupRing := addToRing s.feed.makeupRing s.station.cfg.kM }
    stats := s.stats.count .makeupLitres s.station.cfg.kM }

theorem State.meterSettles_makeup {high : Bool} (h : edgePulse s.station.cfg.edgeMakeup high = true) :
    s.meterSettles .makeup high =
      ((s.makeupCounted high).earnStrokes (s.station.cfg.kM * s.station.cfg.milliPerLitre)).accumulateMakeup
        s.station.cfg.kM := if_pos h

/-- The end of an event of the meter and feed unit (R90, R145) leaves its feed, its pulse and what it has marked. -/
theorem finish_of_metered (hcl : t.claim = s.claim) (hb : t.bio = s.bio) : (State.finish s t).claim = s.claim ∧
    (State.finish s t).bio = s.bio ∧ (State.finish s t).demand = t.demand ∧ (State.finish s t).feed = t.feed ∧
    (State.finish s t).out.inhibitorPulse = t.out.inhibitorPulse ∧
    (State.finish s t).stats.flag .inhibitorBacklog = t.stats.flag .inhibitorBacklog := by
  have hdue : closingTestDue s t = false := closingTestDue_of_same (by rw [hb]) (by rw [State.engine_of_claim hcl])
  have htest : t.tested s = t := State.tested_of_not_due hdue
  exact ⟨by rw [finish_claim, htest, hcl], by rw [finish_bio, htest, hb], by rw [finish_demand, htest],
    by rw [finish_feed, htest], by rw [finish_inhibitorPulse, htest],
    finish_flag_of_not_due (e := .inhibitorBacklog) nofun nofun hdue⟩

/-- Settles O36: the pulse is counted, earns and gives, joins M_i and may end its interval; and the milli-strokes, by
whether more than 250 strokes would be owed. -/
theorem makeupPulseCountsFeedsAndBalances : Obligations.MakeupPulseCountsFeedsAndBalances := by
  unfold Obligations.MakeupPulseCountsFeedsAndBalances
  refine ⟨fun high h s hh hw hne hd hedge hlen => ?_,
    fun f milli ho => ⟨fun hfit => Feed.earn_of_fits hfit, fun hover => Feed.earn_of_over ho hover⟩⟩
  have hdue : s.meterChanges .makeup { level := high, heldFor := h } = true := by
    simp [State.meterChanges, hw, hd, Feed.level, hne]
  have hexec : exec (.meterSettled .makeup { level := high, heldFor := h }) s =
      .next (State.finish s (s.meterSettles .makeup high)) := (exec_meterSettled _ _ _).trans (event_of_due hh hdue)
  refine ⟨_, hexec, linesFollow_finish _ _, ?_⟩
  rw [State.meterSettles_makeup hedge]
  have hfed := (s.makeupCounted high).earnStrokes_fed (s.station.cfg.kM * s.station.cfg.milliPerLitre)
  have hgives : (s.makeupCounted high).givesAtOnce (s.station.cfg.kM * s.station.cfg.milliPerLitre) = true ↔
      s.feed.owed < (s.feed.earn (s.station.cfg.kM * s.station.cfg.milliPerLitre)).owed ∧
      s.station.state.feedRuns = true ∧ (s.feed.strokeClock = none ∨ s.feed.strokePassed = true) :=
    State.givesAtOnce_iff _ _
  generalize hc : s.makeupCounted high = c at hfed hgives ⊢
  generalize s.station.cfg.kM * s.station.cfg.milliPerLitre = milli at hfed hgives ⊢
  have hcearn : c.feed.earn milli =
      { s.feed.earn milli with makeupLevel := high, makeupRing := addToRing s.feed.makeupRing s.station.cfg.kM } := by
    rw [← hc]
    rfl
  have hcs : c = { s with feed := c.feed, stats := c.stats } := by rw [← hc]; rfl
  have hcstats : c.stats = s.stats.count .makeupLitres s.station.cfg.kM := by rw [← hc]; rfl
  have hcf : c.feed =
      { s.feed with makeupLevel := high, makeupRing := addToRing s.feed.makeupRing s.station.cfg.kM } := by rw [← hc]; rfl
  generalize c.earnStrokes milli = e at hfed ⊢
  have hv := e.accumulateMakeup_eq s.station.cfg.kM
  have hes : e = { s with feed := e.feed, out := e.out, stats := e.stats } := by
    rw [hfed.others, hcs]
  have hvs : e.accumulateMakeup s.station.cfg.kM = { s with
      feed := (e.accumulateMakeup s.station.cfg.kM).feed, out := e.out
      stats := (e.accumulateMakeup s.station.cfg.kM).stats } := by
    rw [hv, hes]
  have hvf : (e.accumulateMakeup s.station.cfg.kM).feed = { e.feed with
      makeupAcc := (e.accumulateMakeup s.station.cfg.kM).feed.makeupAcc
      blowdownAcc := (e.accumulateMakeup s.station.cfg.kM).feed.blowdownAcc
      balance := (e.accumulateMakeup s.station.cfg.kM).feed.balance
      mismatch := (e.accumulateMakeup s.station.cfg.kM).feed.mismatch } := congrArg State.feed hv
  have hvcounters : (e.accumulateMakeup s.station.cfg.kM).stats.counters = e.stats.counters := by rw [hv]
  have hvflag : (e.accumulateMakeup s.station.cfg.kM).stats.flag .inhibitorBacklog = e.stats.flag .inhibitorBacklog :=
    e.accumulateMakeup_backlog_flag _
  have hmade := e.makeupAccumulated s.station.cfg.kM
  generalize e.accumulateMakeup s.station.cfg.kM = v at hvs hvf hvcounters hvflag hmade ⊢
  obtain ⟨hcl, hbio, hdem, hfeed, hpulse, hflag⟩ :=
    finish_of_metered (s := s) (t := v) (by rw [hvs]) (by rw [hvs])
  obtain ⟨-, -, hst, hme, hpe, -⟩ := State.finish_steady s v
  have hcounter (d : Counter) (hd : d.number ≠ Counter.reportsSuperseded.number) :
      (State.finish s v).stats.counter d = e.stats.counter d := by
    rw [finish_counter s v hd, State.tested_of_not_due (closingTestDue_of_same (by rw [hvs]) (by rw [hvs]; rfl))]
    simp only [Stats.counter, Stats.counterAt, hvcounters]
  have hef := hfed.rest
  have howed : v.feed.owed = e.feed.owed := by rw [hvf]
  have hclock : v.feed.strokeClock = e.feed.strokeClock := by rw [hvf]
  have hpassed : v.feed.strokePassed = e.feed.strokePassed := by rw [hvf]
  have hback : v.feed.backlog = e.feed.backlog := by rw [hvf]
  have hvout : v.out = e.out := by rw [hvs]
  have hmakeup : e.feed.makeupAcc = s.feed.makeupAcc := by rw [hef, hcf]
  have hblow : e.feed.blowdownAcc = s.feed.blowdownAcc := by rw [hef, hcf]
  have hmark : e.feed.mismatch = s.feed.mismatch := by rw [hef, hcf]
  have hest : e.station = s.station := by rw [hes]
  have hemeas : e.meas = s.meas := by rw [hes]
  rw [hfeed, hpulse, hflag, hvflag, howed, hclock, hpassed, hback, hvout]
  refine ⟨?_, ?_, ?_, ?_, ?_, ?_, ?_, ?_, ?_, fun hshort => ?_, fun hfull => ?_, hst.trans (by rw [hvs]),
    hme.trans (by rw [hvs]), hcl, hdem.trans ?_, hpe.trans (by rw [hvs]), hbio, ?_⟩
  · rw [hvf, hef, hcf]
  · rw [hvf, hef, hcf]
  · rw [hvf, hef, hcf]
    rfl
  · rw [hvf, hef, hcf]
  · rw [hvf, hef, hcearn]
  · rw [hvf, hef, hcf]
  · rw [hvf, hef, hcf]
  · have hcount : e.stats.counter .makeupLitres = c.stats.counter .makeupLitres := hfed.kept 0 (by decide) (by decide)
    rw [hcounter .makeupLitres (by decide), hcount, hcstats]
    exact Stats.count_counter_self hlen
  · intro earned full given
    have hclen : c.stats.counters.length = 20 := by
      rw [hcstats]
      exact (congrArg List.length (Stats.count_counters _ _ _)).trans (by rw [List.length_set, hlen])
    have hcstrokes : c.stats.counter .inhibitorStrokes = s.stats.counter .inhibitorStrokes := by
      rw [hcstats]
      exact Stats.count_counter_of_ne _ _ (by decide)
    have hcflag : c.stats.flag .inhibitorBacklog = s.stats.flag .inhibitorBacklog := by
      rw [hcstats]
      exact Stats.count_flag_of_ne (e := .inhibitorBacklog) nofun nofun _ _ _
    have hearned : (c.feed.earn milli).owed = earned := by rw [hcearn]
    have hfull : (c.feed.earn milli).backlog = full := by rw [hcearn]
    have hout : c.out = s.out := by rw [hcs]
    have hcclock : c.feed.strokeClock = s.feed.strokeClock := by rw [hcf]
    have hcpassed : c.feed.strokePassed = s.feed.strokePassed := by rw [hcf]
    have hcback : c.feed.backlog = s.feed.backlog := by rw [hcf]
    rw [hcounter .inhibitorStrokes (by decide), hfed.strokes hclen, hfed.owed, hfed.pulse, hfed.clock, hfed.passed,
      hfed.backlog, hfed.flag, hearned, hfull, hcstrokes, hcflag, hout, hcclock, hcpassed, hcback]
    by_cases hg : given
    · rw [hgives.mpr hg]
      simp only [if_true, Bool.true_and, hg, true_and]
      refine ⟨?_, trivial⟩
      by_cases h1 : earned = 1 <;> simp [h1]
    · rw [Bool.not_eq_true _ |>.mp (fun h => hg (hgives.mp h))]
      simp [hg]
  · have hshort' : e.feed.makeupAcc + s.station.cfg.kM < e.station.cfg.balanceInterval * 100 := by
      rw [hmakeup, hest]
      exact hshort
    rw [hmade.short hshort', hmakeup, hblow, hmark]
    exact ⟨rfl, rfl, by rw [hef, hcf], rfl⟩
  · have hfull : e.station.cfg.balanceInterval * 100 ≤ e.feed.makeupAcc + s.station.cfg.kM := by
      rw [hmakeup, hest]
      exact hfull
    obtain ⟨h0, h1, hrec⟩ := hmade.full hfull
    have hskip := hmade.skipped hfull
    have huncompared := hmade.uncompared hfull
    have hmismatch := hmade.mismatch hfull
    have hok := hmade.ok hfull
    rw [hmakeup, hblow, hest, hemeas] at hrec
    rw [hmark] at hskip huncompared
    have hkept (f : Event) (hf : v.stats.flag f = true) : (State.finish s v).stats.flag f = true :=
      finish_flagsKept s v f hf
    generalize s.feed.makeupAcc + s.station.cfg.kM = made at hrec ⊢
    refine ⟨h0, h1, by rw [hrec], by rw [hrec], by rw [hrec], fun hz => ?_, fun hpos => ?_⟩
    · have hresult : v.feed.balance.result = .skipped := by rw [hrec]; exact if_pos hz
      obtain ⟨hm, hf⟩ := hskip hresult
      exact ⟨by rw [hrec]; exact if_pos hz, hresult, hkept _ hf, hm⟩
    · have hz : s.feed.blowdownAcc ≠ 0 := Nat.pos_iff_ne_zero.mp hpos
      have hmetered : v.feed.balance.metered = meteredCycles made s.feed.blowdownAcc := by rw [hrec]; exact if_neg hz
      refine ⟨hmetered, fun hno => ?_, fun x hx => ⟨fun hover => ?_, fun hwithin => ?_⟩⟩
      · have hresult : v.feed.balance.result = .uncompared := by
          rw [hrec, hno]
          exact if_neg hz
        exact ⟨hresult, huncompared hresult⟩
      · have hresult : v.feed.balance.result = .mismatch := by
          rw [hmetered] at hover
          rw [hrec, Option.mem_def.mp hx]
          exact (if_neg hz).trans (if_pos hover)
        obtain ⟨hm, hf, hl⟩ := hmismatch hresult
        exact ⟨hresult, hm, hkept _ hf, hl.finish s nofun⟩
      · have hresult : v.feed.balance.result = .ok := by
          rw [hmetered] at hwithin
          rw [hrec, Option.mem_def.mp hx]
          exact (if_neg hz).trans (if_neg (Nat.not_lt.mpr hwithin))
        exact ⟨hresult, hok hresult⟩
  · rw [hvs]
  · have hcount : CountersKept s c [.makeupLitres, .inhibitorStrokes, .reportsSuperseded] :=
      .of_counter (fun d hd => by
        rw [hcstats]
        exact Stats.count_counter_of_ne _ _ (fun he => hd (by rw [he]; decide)))
    have hstroke : CountersKept c e [.makeupLitres, .inhibitorStrokes, .reportsSuperseded] := fun n hn hno =>
      hfed.kept n hn (fun hmem => hno (List.mem_cons_of_mem _ (List.mem_cons.mpr (.inl (List.mem_singleton.mp hmem)))))
    exact (hcount.trans hstroke).trans
      ((CountersKept.of_counters (t := v) hvcounters).trans (finish_countersKept s v (by decide)))

end

end Sys2Proof.Machine
end

section
/-! SUPPORT. The phases of the biocide cycle that begin and end with a timer (chapter 8). -/

namespace Sys2Proof.Machine
open Sys2Proof

set_option Elab.async false

section
variable {b s t u : State}

/-! ## The end of an event of the cycle -/

/-- An event that changes the cycle's state and BIOCIDE's engine, and no alarm: a report for each that changes. -/
theorem finish_of_cycle (he : ∀ p, p ≠ .biocide → t.engine p = s.engine p) (hc : t.bio.cycle ≠ .closing)
    (ha : t.stats.alarms = s.stats.alarms) (hm : t.meas = s.meas) (hf : t.feed.mismatch = s.feed.mismatch)
    (hb : t.feed.backlog = s.feed.backlog) : State.finish s t =
      t.toldAfter s ((engineDiffers s t .biocide).toNat + (s.bio.cycle != t.bio.cycle).toNat) := by
  have hd : t.claim.discharge = s.claim.discharge := he .discharge (by decide)
  have hs : t.claim.supply = s.claim.supply := he .supply (by decide)
  have hv : t.valveFault = s.valveFault := by simp only [State.valveFault, hd, hs]
  have hdue : closingTestDue s t = false := closingTestDue_of_not_closing hc
  rw [finish_eq_toldAfter (fun h => by cases hdue.symm.trans h) (fun h => hv.trans h),
    reportTriggers_of_pool .biocide (fun q hq => by rw [he q hq]), alarmSummaryDiffers_of_same ha hv (by rw [hm]) hf hb]
  rfl

/-! ## The notice of the cycle's state (R136) -/

/-- A notice that leaves BIOCIDE's need sets its base alone. -/
theorem State.cycleNotice_of_same (h : (s.engine .biocide).need = (s.bio.cycle == .due)) : s.cycleNotice =
    { s with demand := { s.demand with bBase := biocideBase s.bio } }.setEngine .biocide
      { s.engine .biocide with base := biocideBase s.bio } := by
  have hneed (e : Engine) (k : Nat) (n : Bool) (hn : e.need = n) : { e with need := n, base := k } = { e with base := k } := by
    rw [← hn]
  refine (State.needNotice_of_same (s := { s with demand := { s.demand with bBase := biocideBase s.bio } })
    (p := .biocide) _ h).trans ?_
  exact congrArg _ (hneed _ _ _ h)

/-- R40: a need that turns true on an engine in REST. -/
theorem State.needNotice_of_rest {p : Pool} (hr : (s.engine p).state = .rest) (hn : (s.engine p).need = false) (k : Nat) :
    s.needNotice p true k = s.setEngine p
      (if s.inRun then { s.engine p with need := true, base := k }.justAsking s.now
       else { s.engine p with need := true, base := k }) := by
  simp only [State.needNotice, hn, Bool.not_false, Bool.and_true, if_true, State.needRises, State.engine_setEngine, hr,
    State.askFromRest, State.inRun_setEngine, beq_self_eq_true, Bool.true_and]
  split
  · rw [State.setEngine_setEngine, State.setEngine_now]
    rfl
  · rfl

/-- R137, R138, R31, R139: the cycle fallen due, with BIOCIDE's engine in REST before. -/
def State.due (s : State) : State :=
  { s with bio := { s.bio with cycle := .due, interval := none, overdue := some 0 }
           demand := { s.demand with bBase := 100 } }.setEngine .biocide
    (if s.inRun then { s.engine .biocide with need := true, base := 100 }.justAsking s.now
     else { s.engine .biocide with need := true, base := 100 })

theorem State.enterDue_eq (hr : (s.engine .biocide).state = .rest) (hn : (s.engine .biocide).need = false) :
    s.enterDue = s.due := by
  have hbase : biocideBase { s.bio with cycle := .due, interval := none, overdue := some 0 } = 100 := by
    simp [biocideBase, roundDiv]
  simp only [State.enterDue, State.cycleNotice, hbase, beq_self_eq_true]
  exact State.needNotice_of_rest (s := { s with
    bio := { s.bio with cycle := .due, interval := none, overdue := some 0 }
    demand := { s.demand with bBase := 100 } }) (p := .biocide) hr hn 100

/-- What the end of the event in which the cycle falls due composes: a report for the cycle, and in RUN one for the engine. -/
theorem finish_due (hr : (s.engine .biocide).state = .rest) (hc : s.bio.cycle = .idle) (r : State)
    (hclaim : r.claim = s.due.claim) (hbio : r.bio = s.due.bio) (hst : r.stats.counters = s.stats.counters)
    (ha : r.stats.alarms = s.stats.alarms) (hm : r.meas = s.meas) (hf : r.feed = s.feed) :
    State.finish s r = r.toldTimes (if s.inRun = true then 2 else 1) := by
  have hcycle : r.bio.cycle = .due := by rw [hbio]; simp [State.due]
  have hengine : (r.engine .biocide).state = if s.inRun then .asking else .rest := by
    rw [State.engine_of_claim hclaim, State.due, State.engine_setEngine]
    split
    · rfl
    · exact hr
  rw [finish_of_cycle (fun p hp => ?_) (by rw [hcycle]; nofun) ha hm (by rw [hf]) (by rw [hf]),
    State.toldAfter_of_same hst, hc, hcycle, engineDiffers, hengine, hr]
  · cases s.inRun <;> rfl
  · rw [State.engine_of_claim hclaim, State.due, State.engine_setEngine_ne _ _ hp]
    cases p <;> rfl

/-- Settles O38, by how the cycle falls due. -/
theorem cycleFallsDue : Obligations.CycleFallsDue := by
  unfold Obligations.CycleFallsDue
  refine ⟨fun s hl hc hr hn => ?_, fun s hl hp hno => ?_⟩
  · intro e u
    have hu : s.enterDue = u := State.enterDue_eq hr hn
    have hdue : s.due = u := rfl
    refine ⟨fun hw hi => ?_, fun hp hrun => ?_⟩
    · have hover : s.intervalOver = true := by simp [State.intervalOver, hw, hc, hi, ranOut]
      rw [exec_intervalTimerExpiry, event_of_due hl.1 hover, hu]
      refine congrArg Host.Outcome.next (finish_due hr hc u (by rw [hdue]) (by rw [hdue]) ?_ ?_ ?_ ?_)
      all_goals simp [u]
    · have hrefused : s.biocideNowRefused = false := by simp [State.biocideNowRefused, hc, hrun]
      rw [exec_biocideNow, event_of_due hl.1 hp.awaits, hp.takeCommand, hrefused, if_neg Bool.false_ne_true, hu,
        State.conclude_eq_done]
      have hend := finish_due hr hc (u.done .ok) (by rw [hdue]; rfl) (by rw [hdue]; rfl) (by simp [u, State.done])
        (by simp [u, State.done]) (by simp [u, State.done]) (by simp [u, State.done])
      rw [hrun, if_pos rfl] at hend
      exact congrArg Host.Outcome.next hend
  · have hrefused : s.biocideNowRefused = true := by
      simp only [State.biocideNowRefused, State.inRun, Bool.not_eq_true', Bool.and_eq_false_iff, beq_eq_false_iff_ne]
      exact hno
    rw [exec_biocideNow, event_of_due hl.1 hp.awaits, hp.takeCommand, hrefused, if_pos rfl, State.conclude_eq_done]
    refine congrArg Host.Outcome.next (finish_of_same (b := s) rfl rfl rfl rfl rfl rfl ?_)
    exact State.nameLast_of_same rfl

/-- R146, R60: the dose ended, with BIOCIDE's engine in HOLDING before and its need over. -/
def State.doseEnded (s : State) : State :=
  ({ s with bio := { s.bio with cycle := .contact, overdue := none, phase := some (s.station.cfg.contactTime * 1000) }
            out := { s.out with biocidePump := false }
            demand := { s.demand with bBase := 0 } }.setEngine .biocide
    { (s.engine .biocide).atRest with base := 0, holdStart := none, maxRun := none, releaseDeferred := false }).count
      .biocideDoses 1

theorem State.endDose_eq (hh : (s.engine .biocide).state = .holding) (hn : (s.engine .biocide).need = false) :
    s.endDose = s.doseEnded := by
  have hrelease : (s.pump false).releaseBiocide =
      (s.pump false).setEngine .biocide (s.engine .biocide).endHold.atRest := by
    have hs : ((s.pump false).engine .biocide) = s.engine .biocide := rfl
    rw [State.releaseBiocide, hs, hh, if_pos (beq_self_eq_true _), State.biocideToRest_eq, State.biocideToRest_biocide, hs, hn,
      Bool.and_false, if_neg Bool.false_ne_true]
  simp only [State.endDose]
  rw [hrelease, State.cycleNotice_of_same]
  · rfl
  · exact hn

/-- Settles O40: BIOCIDE's engine rests, the dose is counted, and the cycle is in CONTACT. -/
theorem doseEndsInContact : Obligations.DoseEndsInContact := by
  unfold Obligations.DoseEndsInContact
  intro s hl hw hc hp hh hn
  have hover : s.phaseOver .dosing = true := by simp [State.phaseOver, hw, hc, hp, ranOut]
  rw [exec_doseTimeExpiry, event_of_due hl.1 hover, State.endDose_eq hh hn]
  have hcycle : s.doseEnded.bio.cycle = .contact := rfl
  have hstate : (s.doseEnded.engine .biocide).state = .rest := rfl
  have hend := finish_of_cycle (s := s) (t := s.doseEnded) (fun p hp => by cases p <;> first | rfl | exact absurd rfl hp)
    (by rw [hcycle]; nofun) (State.count_alarms _ _ _) rfl rfl rfl
  rw [hcycle, hc, engineDiffers, hstate, hh] at hend
  exact congrArg Host.Outcome.next hend

/-! ## A recomputation with no demand before (R27, R32) -/

/-- The alarms at the end of an event that ends no valve fault and in which the closing test is not due. -/
theorem finish_alarms (hdue : closingTestDue b s = false) (hv : b.valveFault = true → s.valveFault = true) :
    (State.finish b s).stats.alarms = s.stats.alarms := by
  have hlast (x : State) : (x.nameLast b).driveLines.stats.alarms = x.stats.alarms := by
    simp only [State.nameLast]
    split <;> rfl
  rw [finish_eq_toldAfter (fun h => by cases hdue.symm.trans h) hv]
  exact (hlast _).trans (s.composeReports_alarms _)

/-- R40, R49, R52: an engine with no need takes a notice of its pool in its own record alone. -/
theorem State.needNotice_of_no_need {p : Pool} (hn : (s.engine p).need = false) (n : Bool) (k : Nat) :
    ∃ e : Engine, s.needNotice p n k = s.setEngine p e ∧ e.need = n ∧ e.base = k ∧
      e.valveFault = (s.engine p).valveFault ∧
      ((s.engine p).state = .rest → e.state = if s.inRun ∧ n = true then .asking else .rest) := by
  cases n with
  | false =>
    refine ⟨_, State.needNotice_of_same (s := s) (p := p) k hn, rfl, rfl, rfl, fun hr => ?_⟩
    rw [if_neg (fun h => Bool.false_ne_true h.2)]
    exact hr
  | true =>
    have hrises : s.needNotice p true k = (s.setEngine p { s.engine p with need := true, base := k }).needRises p := by
      simp only [State.needNotice, hn, Bool.not_false, Bool.and_true, if_true]
    cases hs : (s.engine p).state with
    | rest =>
      refine ⟨_, State.needNotice_of_rest hs hn k, ?_, ?_, ?_, fun _ => ?_⟩
      · split <;> rfl
      · split <;> rfl
      · have h0 : (s.engine p).valveFault = false := by simp [Engine.valveFault, hs]
        rw [h0]
        split
        · rfl
        · exact h0
      · cases s.inRun
        · exact hs
        · rfl
    | holding =>
      refine ⟨{ s.engine p with need := true, base := k, releaseDeferred := false }, ?_, rfl, rfl, rfl, nofun⟩
      rw [hrises, State.needRises, State.engine_setEngine]
      simp only [hs, State.setEngine_setEngine]
    | releasing =>
      refine ⟨{ s.engine p with need := true, base := k, reask := !(s.engine p).lock }, ?_, rfl, rfl, rfl, nofun⟩
      rw [hrises, State.needRises, State.engine_setEngine]
      simp only [hs, State.setEngine_setEngine]
    | asking | confirming | stuck | locked =>
      refine ⟨{ s.engine p with need := true, base := k }, ?_, rfl, rfl, rfl, nofun⟩
      rw [hrises, State.needRises, State.engine_setEngine]
      simp only [hs]

/-- A recomputation of DISCHARGE where its demand was false and known to its engine. -/
theorem State.recomputeDischarge_of_no_need (hn : (s.engine .discharge).need = s.demand.dDemand) (hd : s.demand.dDemand = false) :
    ∃ e : Engine, s.recomputeDischarge = ({ s with demand := { s.demand with
        dDemand := (dischargeDemand s.station.cfg s.meas.derived s.demand).1
        dBase := (dischargeDemand s.station.cfg s.meas.derived s.demand).2 } } : State).setEngine .discharge e ∧
      e.need = (dischargeDemand s.station.cfg s.meas.derived s.demand).1 ∧
      e.valveFault = (s.engine .discharge).valveFault ∧
      ((s.engine .discharge).state = .rest → e.state =
        if s.inRun ∧ (dischargeDemand s.station.cfg s.meas.derived s.demand).1 = true then .asking else .rest) := by
  generalize hr : dischargeDemand s.station.cfg s.meas.derived s.demand = r
  simp only [State.recomputeDischarge, hr]
  split
  · next h =>
    rw [Bool.and_eq_true, beq_iff_eq, beq_iff_eq] at h
    obtain ⟨h1, h2⟩ := h
    have h0 : r.1 = false := h1.trans hd
    refine ⟨s.engine .discharge, ?_, hn.trans h1.symm, rfl, fun hs => ?_⟩
    · rw [h1, h2]
      rfl
    · rw [h0, if_neg (fun h => Bool.false_ne_true h.2), hs]
  · obtain ⟨e, h1, h2, -, h4, h5⟩ := State.needNotice_of_no_need (p := .discharge)
      (s := { s with demand := { s.demand with dDemand := r.1, dBase := r.2 } }) (hn.trans hd) r.1 r.2
    exact ⟨e, h1, h2, h4, h5⟩

/-! ## The end of the contact time (R147, R150) -/

/-- R147, R150: the cycle ended, from the state `u` after the recomputation of DISCHARGE. -/
def State.contactEnded (u : State) : State :=
  { u with
    bio := { u.bio with cycle := .idle, interval := some (u.station.cfg.biocideInterval * 3600000), phase := none,
                        abortMark := false }
    stats := { u.stats.raise .biocideComplete with
      alarms := if u.bio.abortMark then calmAlarm u.stats.alarms .biocideAborted else u.stats.alarms } }

theorem State.endContact_eq (s : State) : s.endContact = (s.request s.demand.force false).contactEnded.cycleNotice := by
  simp only [State.endContact]
  generalize s.request s.demand.force false = u
  have hmark : (u.raise .biocideComplete).bio.abortMark = u.bio.abortMark := rfl
  simp only [State.contactEnded, hmark]
  cases u.bio.abortMark with
  | true => rfl
  | false => rfl

/-- Settles O41: DISCHARGE is recomputed without the suppression request, and the cycle is in IDLE. -/
theorem contactEndsTheCycle : Obligations.ContactEndsTheCycle := by
  unfold Obligations.ContactEndsTheCycle
  intro s hh hw hc hp hn hd
  have hover : s.phaseOver .contact = true := by simp [State.phaseOver, hw, hc, hp, ranOut]
  have hexec : exec .contactTimeExpiry s = .next (State.finish s s.endContact) :=
    (exec_contactTimeExpiry s).trans (event_of_due hh hover)
  refine ⟨_, hexec, linesFollow_finish _ _, ?_⟩
  obtain ⟨e, hu, hneed, hfault, hstate⟩ := State.recomputeDischarge_of_no_need
    (s := { s with demand := { s.demand with force := s.demand.force, suppress := false } }) hn hd
  generalize hr : dischargeDemand s.station.cfg s.meas.derived { s.demand with force := s.demand.force, suppress := false } = r
    at hu hneed hstate
  obtain ⟨eb, hx⟩ : ∃ eb, s.endContact = ({ (s.request s.demand.force false).contactEnded with
      demand := { (s.request s.demand.force false).demand with
        bBase := biocideBase (s.request s.demand.force false).contactEnded.bio } } : State).setEngine .biocide eb :=
    ⟨_, s.endContact_eq.trans (State.cycleNotice_eq _)⟩
  have hrequest : s.request s.demand.force false = _ := hu
  rw [hrequest] at hx
  have hcycle : s.endContact.bio.cycle = .idle := by rw [hx]; rfl
  have hdue : closingTestDue s s.endContact = false := closingTestDue_of_not_closing (by rw [hcycle]; nofun)
  have htest : s.endContact.tested s = s.endContact := State.tested_of_not_due hdue
  have hvalve : s.endContact.valveFault = s.valveFault := by
    have hd : s.endContact.claim.discharge.valveFault = s.claim.discharge.valveFault := by rw [hx]; exact hfault
    have hs : s.endContact.claim.supply = s.claim.supply := by rw [hx]; rfl
    simp only [State.valveFault, hd, hs]
  obtain ⟨-, -, hst, hme, hpe, -⟩ := State.finish_steady s s.endContact
  have hout : (State.finish s s.endContact).out = { s.endContact.out with relay := (State.finish s s.endContact).out.relay } := by
    rw [finish_eq, htest]
  rw [finish_bio, finish_demand, finish_engine, finish_feed, finish_claim, htest, hst, hme, hpe,
    finish_alarms hdue (fun h => hvalve.trans h)]
  refine ⟨?_, ?_, ?_, ?_, ?_, fun hrest => ?_, finish_flagsKept _ _ _ ?_, ?_, ?_, ?_, ?_, ?_, hout.trans ?_, ?_,
    (CountersKept.of_counters ?_).trans (finish_countersKept s _ (by decide))⟩
  all_goals rw [hx]
  all_goals try rfl
  · exact hr.symm
  · exact hneed
  · exact hstate hrest
  · exact State.raise_flag_self s .biocideComplete

end

end Sys2Proof.Machine
end

section
/-! SUPPORT. What a need notice makes of a valve pool's engine, case by case (R40, R48, R49, R52), and a forced release
(R61). -/

namespace Sys2Proof.Machine
open Sys2Proof

set_option Elab.async false

section
variable {b s t u : State} {v : Valve} {k : Nat}

/-- The engine with the need and the base of a notice (R32). -/
def Engine.noticed (e : Engine) (need : Bool) (base : Nat) : Engine := { e with need := need, base := base }

/-! ## A need that turns true -/

theorem State.needNotice_of_rises {p : Pool} (hn : (s.engine p).need = false) (k : Nat) :
    s.needNotice p true k = (s.setEngine p ((s.engine p).noticed true k)).needRises p := by
  simp only [State.needNotice, hn, Bool.not_false, Bool.and_true, if_true]
  rfl

theorem State.needNotice_rises_holding {p : Pool} (hs : (s.engine p).state = .holding) (hn : (s.engine p).need = false) :
    s.needNotice p true k = s.setEngine p { (s.engine p).noticed true k with releaseDeferred := false } := by
  have hs' : ((s.engine p).noticed true k).state = .holding := hs
  rw [State.needNotice_of_rises hn, State.needRises]
  simp only [State.engine_setEngine, hs', State.setEngine_setEngine]

theorem State.needNotice_rises_releasing {p : Pool} (hs : (s.engine p).state = .releasing) (hn : (s.engine p).need = false) :
    s.needNotice p true k = s.setEngine p { (s.engine p).noticed true k with reask := !(s.engine p).lock } := by
  have hs' : ((s.engine p).noticed true k).state = .releasing := hs
  rw [State.needNotice_of_rises hn, State.needRises]
  simp only [State.engine_setEngine, hs', State.setEngine_setEngine]
  rfl

theorem State.needNotice_rises_other {p : Pool} (hs : (s.engine p).state = .asking ∨ (s.engine p).state = .confirming ∨
    (s.engine p).state = .stuck ∨ (s.engine p).state = .locked) (hn : (s.engine p).need = false) :
    s.needNotice p true k = s.setEngine p ((s.engine p).noticed true k) := by
  have hs' : ((s.engine p).noticed true k).state = (s.engine p).state := rfl
  rw [State.needNotice_of_rises hn, State.needRises]
  simp only [State.engine_setEngine, hs']
  rcases hs with h | h | h | h <;> rw [h]

/-! ## A need that turns false -/

theorem State.needNotice_of_falls {p : Pool} (hn : (s.engine p).need = true) (k : Nat) :
    s.needNotice p false k = (s.setEngine p ((s.engine p).noticed false k)).needFalls p := by
  simp only [State.needNotice, hn, Bool.not_false, Bool.and_true, Bool.false_and, Bool.not_true, Bool.false_eq_true,
    if_false, if_true]
  rfl

theorem State.needNotice_falls_waiting {p : Pool} (hs : (s.engine p).state = .asking ∨ (s.engine p).state = .confirming)
    (hn : (s.engine p).need = true) :
    s.needNotice p false k = s.setEngine p { ((s.engine p).noticed false k).atRest with grantWait := none } := by
  have hs' : ((s.engine p).noticed false k).state = (s.engine p).state := rfl
  have hneed : ((s.engine p).noticed false k).need = false := rfl
  have hgive : (s.setEngine p ((s.engine p).noticed false k)).giveUpWaiting p =
      s.setEngine p { ((s.engine p).noticed false k).atRest with grantWait := none } := by
    rw [State.giveUpWaiting_eq, State.engine_setEngine, hneed, Bool.and_false, if_neg Bool.false_ne_true,
      State.setEngine_setEngine]
    rfl
  rw [State.needNotice_of_falls hn, State.needFalls]
  simp only [State.engine_setEngine, hs']
  rcases hs with h | h <;> rw [h] <;> exact hgive

theorem State.needNotice_falls_releasing {p : Pool} (hs : (s.engine p).state = .releasing) (hn : (s.engine p).need = true) :
    s.needNotice p false k = s.setEngine p { (s.engine p).noticed false k with reask := false } := by
  have hs' : ((s.engine p).noticed false k).state = .releasing := hs
  rw [State.needNotice_of_falls hn, State.needFalls]
  simp only [State.engine_setEngine, hs', State.setEngine_setEngine]

theorem State.needNotice_falls_idle {p : Pool} (hs : (s.engine p).state = .rest ∨ (s.engine p).state = .stuck ∨
    (s.engine p).state = .locked) (hn : (s.engine p).need = true) :
    s.needNotice p false k = s.setEngine p ((s.engine p).noticed false k) := by
  have hs' : ((s.engine p).noticed false k).state = (s.engine p).state := rfl
  rw [State.needNotice_of_falls hn, State.needFalls]
  simp only [State.engine_setEngine, hs']
  rcases hs with h | h | h <;> rw [h]

theorem State.needNotice_falls_deferred (hs : (s.engine v.pool).state = .holding) (hn : (s.engine v.pool).need = true)
    (hm : s.minimumRunOver (s.engine v.pool) = false) :
    s.needNotice v.pool false k = s.setEngine v.pool { (s.engine v.pool).noticed false k with releaseDeferred := true } := by
  have hs' : ((s.engine v.pool).noticed false k).state = .holding := hs
  have hm' : (s.setEngine v.pool ((s.engine v.pool).noticed false k)).minimumRunOver ((s.engine v.pool).noticed false k) =
      false := by
    refine Eq.trans ?_ hm
    simp only [State.minimumRunOver, State.setEngine_now]
    rfl
  rw [State.needNotice_of_falls hn, State.needFalls]
  simp only [State.engine_setEngine, hs', Valve.pool_valve, hm', Bool.false_eq_true, if_false, State.setEngine_setEngine]

/-- The state with a valve pool's engine let go, its valve shut or its close check begun, and the watch over (R51, R109). -/
def State.letGoTo (s : State) (v : Valve) (e : Engine) : State :=
  ((s.setEngine v.pool (if (s.valve v).seenClosed then e.atRest else e)).endNoFlow v).setValve v
    (if (s.valve v).seenClosed then (s.valve v).shut else (s.valve v).closing)

/-- R53: an engine with no need goes to REST from a release that is no yield. -/
theorem Engine.letGo_released_of_no_need {e : Engine} (hn : e.need = false) (s : State) :
    (e.letGo false).released s = (e.letGo false).atRest := by
  have h1 : (e.letGo false).lock = false := rfl
  have h2 : (e.letGo false).reask = false := rfl
  have h3 : (e.letGo false).need = false := hn
  simp only [Engine.released, h1, h2, h3, Bool.false_and, Bool.and_false, Bool.false_eq_true, if_false]

theorem State.release_of_no_need (hn : (s.engine v.pool).need = false) :
    s.release v false false false = s.letGoTo v ((s.engine v.pool).letGo false) := by
  rw [State.release_letGo, State.letGoTo, Engine.letGo_released_of_no_need hn]
  split <;> rfl

theorem State.needNotice_falls_released (hs : (s.engine v.pool).state = .holding) (hn : (s.engine v.pool).need = true)
    (hm : s.minimumRunOver (s.engine v.pool) = true) :
    s.needNotice v.pool false k = s.letGoTo v (((s.engine v.pool).noticed false k).letGo false) := by
  have hs' : ((s.engine v.pool).noticed false k).state = .holding := hs
  have hm' : (s.setEngine v.pool ((s.engine v.pool).noticed false k)).minimumRunOver ((s.engine v.pool).noticed false k) =
      true := by
    refine Eq.trans ?_ hm
    simp only [State.minimumRunOver, State.setEngine_now]
    rfl
  rw [State.needNotice_of_falls hn, State.needFalls]
  simp only [State.engine_setEngine, hs', Valve.pool_valve, hm', if_true]
  rw [State.release_of_no_need (by rw [State.engine_setEngine]; rfl), State.engine_setEngine, State.letGoTo, State.letGoTo,
    State.setEngine_setEngine, State.valve_setEngine]

/-! ## Forced release (R61) -/

theorem State.forcedRelease_of_passive {p : Pool} (h : (s.engine p).state.passive = true) : s.forcedRelease p = s := by
  simp only [State.forcedRelease]
  cases hs : (s.engine p).state with
  | rest | releasing | stuck | locked => rfl
  | asking | confirming | holding => rw [hs] at h; cases h

theorem State.forcedRelease_of_waiting {p : Pool} (h : (s.engine p).state = .asking ∨ (s.engine p).state = .confirming) :
    s.forcedRelease p = s.giveUpWaiting p := by
  simp only [State.forcedRelease]
  rcases h with h | h <;> rw [h]

theorem State.forcedRelease_of_holding (h : (s.engine v.pool).state = .holding) :
    s.forcedRelease v.pool = s.release v false false false := by
  simp only [State.forcedRelease, h, Valve.pool_valve]

end

end Sys2Proof.Machine
end

section
/-! SUPPORT. The entry to CLOSING (R144, R145, R27, R61): what it makes of DISCHARGE, in either order of its two notices. -/

namespace Sys2Proof.Machine
open Sys2Proof

set_option Elab.async false

section
variable {b s t u : State} {v : Valve} {e e' : Engine} {k : Nat}

/-! ## What the entry makes of the engine -/

/-- R27, R61, R144: what the entry to CLOSING makes of the DISCHARGE engine, its valve seen closed or not. -/
structure EngineClosed (seen : Bool) (e e' : Engine) : Prop where
  need : e'.need = false
  idle : e.state = .rest ∨ e.state = .asking ∨ e.state = .confirming ∨ (e.state = .holding ∧ seen = true) → e'.state = .rest
  locked : e.state = .locked → e'.state = .locked
  stuck : e.state = .stuck → e'.state = .stuck
  releasing : e.state = .releasing → e'.state = .releasing ∧ e'.reask = (e.reask && !e.need) ∧ e'.lock = e.lock ∧
    e'.ageing = e.ageing
  letGo : e.state = .holding → seen = false → e'.state = .releasing ∧ e'.reask = false ∧ e'.lock = false ∧ e'.ageing = 0

/-- The same of an engine that may have taken a notice in the event before: what is left of its re-ask mark. -/
structure EngineEnded (seen : Bool) (e e' : Engine) : Prop where
  need : e'.need = false
  idle : e.state = .rest ∨ e.state = .asking ∨ e.state = .confirming ∨ (e.state = .holding ∧ seen = true) → e'.state = .rest
  locked : e.state = .locked → e'.state = .locked
  stuck : e.state = .stuck → e'.state = .stuck
  releasing : e.state = .releasing → e'.state = .releasing ∧ (e'.reask = true → e.reask = true ∧ e.need = false)
  letGo : e.state = .holding → seen = false → e'.state = .releasing ∧ e'.reask = false ∧ e'.lock = false ∧ e'.ageing = 0

theorem EngineClosed.ended {seen : Bool} (h : EngineClosed seen e e') : EngineEnded seen e e' where
  need := h.need
  idle := h.idle
  locked := h.locked
  stuck := h.stuck
  releasing hs := by
    obtain ⟨h1, h2, -⟩ := h.releasing hs
    refine ⟨h1, fun hr => ?_⟩
    rw [h2, Bool.and_eq_true, Bool.not_eq_true'] at hr
    exact hr
  letGo := h.letGo

/-- The state with a valve pool's engine out of HOLDING, its valve shut or its close check begun, and the watch over. -/
def State.heldTo (s : State) (v : Valve) (e : Engine) : State :=
  ((s.setEngine v.pool e).endNoFlow v).setValve v (if (s.valve v).seenClosed then (s.valve v).shut else (s.valve v).closing)

theorem State.letGoTo_eq (s : State) (v : Valve) (e : Engine) :
    s.letGoTo v e = s.heldTo v (if (s.valve v).seenClosed then e.atRest else e) := rfl

theorem State.heldTo_setEngine (s : State) (v : Valve) (e f : Engine) : (s.heldTo v e).setEngine v.pool f = s.heldTo v f := by
  cases v <;> rfl

theorem State.engine_heldTo (s : State) (v : Valve) (e : Engine) : (s.heldTo v e).engine v.pool = e := by
  cases v <;> rfl

theorem State.setEngine_heldTo (s : State) (v : Valve) (e f : Engine) : (s.setEngine v.pool f).heldTo v e = s.heldTo v e := by
  cases v <;> rfl

/-- DISCHARGE with its demand false and its base 0 (R27). -/
def State.undemanded (s : State) : State := { s with demand := { s.demand with dDemand := false, dBase := 0 } }

/-- DISCHARGE as the entry leaves it, its demand false with base 0. -/
def State.closedTo (s : State) (e : Engine) : State :=
  if (s.engine .discharge).state = .holding then
    s.undemanded.heldTo .blowdown e
  else s.undemanded.setEngine .discharge e

/-! ## The notice that the need has ended -/

/-- R32: a suppressed DISCHARGE is handed on as a need that has ended. -/
theorem State.recomputeDischarge_of_suppress (hs : s.demand.suppress = true) (hn : NeedShown s) :
    ∃ k, s.recomputeDischarge = s.undemanded.needNotice .discharge false k := by
  have hd : dischargeDemand s.station.cfg s.meas.derived s.demand = (false, 0) := dischargeDemand_suppressed hs
  simp only [State.recomputeDischarge, hd]
  split
  · next h =>
    rw [Bool.and_eq_true, beq_iff_eq, beq_iff_eq] at h
    obtain ⟨h1, h2⟩ := h
    have hneed : (s.engine .discharge).need = false := hn.trans h1.symm
    refine ⟨(s.engine .discharge).base, ?_⟩
    have hsame : s.undemanded = s := by
      rw [State.undemanded, h1, h2]
    have hengine : { s.engine .discharge with need := false, base := (s.engine .discharge).base } = s.engine .discharge := by
      rw [← hneed]
    rw [hsame, State.needNotice_of_same (p := .discharge) _ hneed, hengine, State.setEngine_engine]
  · exact ⟨0, rfl⟩

/-- An engine in REST, RELEASING, STUCK or LOCKED takes the end of its need in its own record alone. -/
theorem State.needNotice_ends_passive (seen : Bool) (h : (s.engine .discharge).state.passive = true) (k : Nat) :
    ∃ e', EngineClosed seen (s.engine .discharge) e' ∧ s.needNotice .discharge false k = s.setEngine .discharge e' := by
  generalize he : s.engine .discharge = e at h
  cases hn : e.need with
  | false =>
    refine ⟨e.noticed false k, ?_, (State.needNotice_of_same (s := s) (p := .discharge) k (he ▸ hn)).trans (he ▸ rfl)⟩
    refine { need := rfl, idle := fun hs => ?_, locked := id, stuck := id,
             releasing := fun hs => ⟨hs, by simp [Engine.noticed, hn], rfl, rfl⟩
             letGo := fun hs => by rw [hs] at h; cases h }
    rcases hs with hs | hs | hs | ⟨hs, -⟩
    · exact hs
    all_goals rw [hs] at h; cases h
  | true =>
    cases hs : e.state with
    | asking | confirming | holding => rw [hs] at h; cases h
    | releasing =>
      refine ⟨{ e.noticed false k with reask := false }, ?_, by
        rw [State.needNotice_falls_releasing (by rw [he, hs]) (by rw [he, hn]), he]⟩
      exact { need := rfl
              idle := fun h => by simp [hs] at h
              locked := fun h => by cases hs.symm.trans h
              stuck := fun h => by cases hs.symm.trans h
              releasing := fun _ => ⟨hs, by simp [hn], rfl, rfl⟩
              letGo := fun h => by cases hs.symm.trans h }
    | rest | stuck | locked =>
      refine ⟨e.noticed false k, ?_, by
        rw [State.needNotice_falls_idle (by rw [he, hs]; simp) (by rw [he, hn]), he]⟩
      exact { need := rfl
              idle := fun h => by simp_all [Engine.noticed]
              locked := id
              stuck := id
              releasing := fun h => by cases hs.symm.trans h
              letGo := fun h => by cases hs.symm.trans h }

/-- R48, R61: an engine that gives up a wait goes to REST once its need has ended. -/
theorem EngineClosed.of_waiting {seen : Bool} (hs : e.state = .asking ∨ e.state = .confirming) (hr : e'.state = .rest)
    (hn : e'.need = false) : EngineClosed seen e e' where
  need := hn
  idle _ := hr
  locked h := by rcases hs with hs | hs <;> cases hs.symm.trans h
  stuck h := by rcases hs with hs | hs <;> cases hs.symm.trans h
  releasing h := by rcases hs with hs | hs <;> cases hs.symm.trans h
  letGo h := by rcases hs with hs | hs <;> cases hs.symm.trans h

/-- R51, R53, R61: an engine let go, its need ended. -/
theorem EngineClosed.of_holding {seen : Bool} (hs : e.state = .holding) (hn : e'.need = false)
    (hseen : seen = true → e'.state = .rest)
    (hlet : seen = false → e'.state = .releasing ∧ e'.reask = false ∧ e'.lock = false ∧ e'.ageing = 0) :
    EngineClosed seen e e' where
  need := hn
  idle h := hseen (by rcases h with h | h | h | ⟨-, h⟩ <;> first | exact h | cases hs.symm.trans h)
  locked h := by cases hs.symm.trans h
  stuck h := by cases hs.symm.trans h
  releasing h := by cases hs.symm.trans h
  letGo _ := hlet

/-! ## The two orders of R144 -/

/-- The engine the entry leaves asks for nothing. -/
theorem EngineClosed.passive {seen : Bool} (h : EngineClosed seen e e') : e'.state.passive = true := by
  cases hs : e.state with
  | rest => rw [h.idle (.inl hs)]; rfl
  | asking => rw [h.idle (.inr (.inl hs))]; rfl
  | confirming => rw [h.idle (.inr (.inr (.inl hs)))]; rfl
  | locked => rw [h.locked hs]; rfl
  | stuck => rw [h.stuck hs]; rfl
  | releasing => rw [(h.releasing hs).1]; rfl
  | holding =>
    cases seen with
    | true => rw [h.idle (.inr (.inr (.inr ⟨hs, rfl⟩)))]; rfl
    | false => rw [(h.letGo hs rfl).1]; rfl

theorem State.closedTo_of_holding (h : (s.engine .discharge).state = .holding) :
    s.closedTo e = s.undemanded.heldTo .blowdown e := if_pos h

theorem State.closedTo_of_not_holding (h : (s.engine .discharge).state ≠ .holding) :
    s.closedTo e = s.undemanded.setEngine .discharge e := if_neg h

/-- R48: an engine that rests, or asks by its need, rests once the need has ended. -/
theorem State.needNotice_ends_resting (h : (s.engine .discharge).state = .rest ∨
    ((s.engine .discharge).state = .asking ∧ (s.engine .discharge).need = true)) (k : Nat) :
    ∃ e' : Engine, e'.state = .rest ∧ e'.need = false ∧ s.needNotice .discharge false k = s.setEngine .discharge e' := by
  rcases h with hs | ⟨hs, hn⟩
  · obtain ⟨e', hc, he⟩ := s.needNotice_ends_passive false (by rw [hs]; rfl) k
    exact ⟨e', hc.idle (.inl hs), hc.need, he⟩
  · exact ⟨_, rfl, rfl, State.needNotice_falls_waiting (.inl hs) hn⟩

/-- R53: where a release that is no yield ends at once, its engine rests or asks by its need. -/
theorem Engine.letGo_released_resting (e : Engine) (s : State) : ((e.letGo false).released s).state = .rest ∨
    (((e.letGo false).released s).state = .asking ∧ ((e.letGo false).released s).need = true) := by
  rw [Engine.letGo_released_state, Engine.released_need]
  split
  · next h => exact .inr ⟨rfl, (Bool.and_eq_true _ _ ▸ h).2⟩
  · exact .inl rfl

theorem State.release_letGo_heldTo (s : State) (v : Valve) : s.release v false false false = s.heldTo v
    (if (s.valve v).seenClosed then ((s.engine v.pool).letGo false).released s else (s.engine v.pool).letGo false) := by
  rw [State.release_letGo, State.heldTo]
  split <;> rfl

theorem EngineState.passive_or (st : EngineState) :
    st.passive = true ∨ (st = .asking ∨ st = .confirming) ∨ st = .holding := by cases st <;> decide

/-- The forced release first, then the end of the need. -/
theorem State.close_release_first (hs : s.demand.suppress = true) (hn : NeedShown s) :
    ∃ e', EngineClosed (s.valve .blowdown).seenClosed (s.engine .discharge) e' ∧
      (s.forcedRelease .discharge).recomputeDischarge = s.closedTo e' := by
  have ha : Aside s (s.forcedRelease .discharge) := State.forcedRelease_aside (by decide)
  obtain ⟨k, hk⟩ := State.recomputeDischarge_of_suppress (ha.suppress.trans hs) (hn.aside ha)
  rw [hk]
  rcases (s.engine .discharge).state.passive_or with hp | hw | hh
  · have hne : (s.engine .discharge).state ≠ .holding := fun h => by rw [h] at hp; cases hp
    obtain ⟨e', hc, he⟩ := State.needNotice_ends_passive (s := s.undemanded) (s.valve .blowdown).seenClosed hp k
    refine ⟨e', hc, Eq.trans ?_ (State.closedTo_of_not_holding hne).symm⟩
    rw [State.forcedRelease_of_passive hp]
    exact he
  · have hne : (s.engine .discharge).state ≠ .holding := fun h => by rw [h] at hw; rcases hw with hw | hw <;> cases hw
    rw [State.forcedRelease_of_waiting hw, State.giveUpWaiting_eq]
    generalize hf : (if s.inRun && (s.engine .discharge).need then _ else _ : Engine) = f
    have hresting : f.state = .rest ∨ (f.state = .asking ∧ f.need = true) := by
      rw [← hf]
      split
      · next h => exact .inr ⟨rfl, (Bool.and_eq_true _ _ ▸ h).2⟩
      · exact .inl rfl
    obtain ⟨e', hr, hneed, he⟩ := State.needNotice_ends_resting (s := s.undemanded.setEngine .discharge f) hresting k
    exact ⟨e', .of_waiting hw hr hneed, he.trans (State.closedTo_of_not_holding hne).symm⟩
  · have hrelease : s.forcedRelease .discharge = s.release .blowdown false false false :=
      State.forcedRelease_of_holding (v := .blowdown) hh
    rw [hrelease, State.release_letGo_heldTo]
    generalize hf : (if (s.valve .blowdown).seenClosed then _ else _ : Engine) = f
    have hset (e' : Engine) : ((s.heldTo .blowdown f).undemanded).setEngine .discharge e' = s.closedTo e' :=
      (State.closedTo_of_holding hh).symm
    have hengine : ((s.heldTo .blowdown f).undemanded).engine .discharge = f := rfl
    cases hseen : (s.valve .blowdown).seenClosed with
    | true =>
      rw [hseen, if_pos rfl] at hf
      have hresting : f.state = .rest ∨ (f.state = .asking ∧ f.need = true) := by
        rw [← hf]
        exact Engine.letGo_released_resting _ s
      obtain ⟨e', hr, hneed, he⟩ := State.needNotice_ends_resting (s := (s.heldTo .blowdown f).undemanded) hresting k
      exact ⟨e', .of_holding hh hneed (fun _ => hr) nofun, he.trans (hset e')⟩
    | false =>
      rw [hseen, if_neg Bool.false_ne_true] at hf
      have hreleasing : f.state = .releasing := by rw [← hf]; rfl
      obtain ⟨e', hc, he⟩ := State.needNotice_ends_passive (s := (s.heldTo .blowdown f).undemanded) false
        (by rw [hengine, hreleasing]; rfl) k
      rw [hengine] at hc
      obtain ⟨h1, h2, h3, h4⟩ := hc.releasing hreleasing
      refine ⟨e', .of_holding hh hc.need nofun (fun _ => ⟨h1, ?_, ?_, ?_⟩), he.trans (hset e')⟩
      · rw [h2, ← hf]; rfl
      · rw [h3, ← hf]; rfl
      · rw [h4, ← hf]; rfl

/-- An idle engine with no need is as the entry leaves it. -/
theorem EngineClosed.refl_of_passive (seen : Bool) (hp : e.state.passive = true) (hn : e.need = false) : EngineClosed seen e e where
  need := hn
  idle h := by rcases h with h | h | h | ⟨h, -⟩ <;> first | exact h | (rw [h] at hp; cases hp)
  locked := id
  stuck := id
  releasing h := ⟨h, by rw [hn, Bool.not_false, Bool.and_true], rfl, rfl⟩
  letGo h := by rw [h] at hp; cases hp

theorem EngineClosed.congr {seen : Bool} {f : Engine} (h : EngineClosed seen f e') (hs : f.state = e.state)
    (hr : e.state = .releasing → (f.reask && !f.need) = (e.reask && !e.need) ∧ f.lock = e.lock ∧ f.ageing = e.ageing) :
    EngineClosed seen e e' where
  need := h.need
  idle := by rw [← hs]; exact h.idle
  locked := by rw [← hs]; exact h.locked
  stuck := by rw [← hs]; exact h.stuck
  releasing k := by
    obtain ⟨h1, h2, h3, h4⟩ := h.releasing (hs.trans k)
    obtain ⟨k1, k2, k3⟩ := hr k
    exact ⟨h1, h2.trans k1, h3.trans k2, h4.trans k3⟩
  letGo := by rw [← hs]; exact h.letGo

/-- R61: the forced release of an engine with no need. -/
theorem State.forcedRelease_of_no_need (hn : (s.engine .discharge).need = false) :
    ∃ e', EngineClosed (s.valve .blowdown).seenClosed (s.engine .discharge) e' ∧ s.forcedRelease .discharge =
      if (s.engine .discharge).state = .holding then s.heldTo .blowdown e' else s.setEngine .discharge e' := by
  rcases (s.engine .discharge).state.passive_or with hp | hw | hh
  · have hne : (s.engine .discharge).state ≠ .holding := fun h => by rw [h] at hp; cases hp
    refine ⟨_, .refl_of_passive _ hp hn, ?_⟩
    rw [State.forcedRelease_of_passive hp, if_neg hne, State.setEngine_engine]
  · have hne : (s.engine .discharge).state ≠ .holding := fun h => by rw [h] at hw; rcases hw with hw | hw <;> cases hw
    refine ⟨{ s.engine .discharge with grantWait := none }.atRest, .of_waiting hw rfl hn, ?_⟩
    rw [State.forcedRelease_of_waiting hw, State.giveUpWaiting_eq, hn, Bool.and_false, if_neg Bool.false_ne_true, if_neg hne]
  · have hrelease : s.forcedRelease .discharge = s.letGoTo .blowdown ((s.engine .discharge).letGo false) :=
      (State.forcedRelease_of_holding (v := .blowdown) hh).trans (State.release_of_no_need (v := .blowdown) hn)
    rw [hrelease, State.letGoTo_eq]
    refine ⟨_, ?_, (if_pos hh).symm⟩
    cases (s.valve .blowdown).seenClosed with
    | true => exact .of_holding hh hn (fun _ => rfl) nofun
    | false => exact .of_holding hh hn nofun (fun _ => ⟨rfl, rfl, rfl, rfl⟩)

/-- The end of the need first, then the forced release. -/
theorem State.close_need_first (hs : s.demand.suppress = true) (hn : NeedShown s) :
    ∃ e', EngineClosed (s.valve .blowdown).seenClosed (s.engine .discharge) e' ∧
      s.recomputeDischarge.forcedRelease .discharge = s.closedTo e' := by
  obtain ⟨k, hk⟩ := State.recomputeDischarge_of_suppress hs hn
  rw [hk]
  have hforced (f : Engine) (hf : f.need = false) (hst : f.state = (s.engine .discharge).state)
      (hr : (s.engine .discharge).state = .releasing →
        (f.reask && !f.need) = ((s.engine .discharge).reask && !(s.engine .discharge).need) ∧
          f.lock = (s.engine .discharge).lock ∧ f.ageing = (s.engine .discharge).ageing) :
      ∃ e', EngineClosed (s.valve .blowdown).seenClosed (s.engine .discharge) e' ∧
        (s.undemanded.setEngine .discharge f).forcedRelease .discharge = s.closedTo e' := by
    obtain ⟨e', hc, he⟩ := State.forcedRelease_of_no_need (s := s.undemanded.setEngine .discharge f) hf
    refine ⟨e', EngineClosed.congr (f := f) hc hst hr, ?_⟩
    rw [he]
    by_cases hh : (s.engine .discharge).state = .holding
    · exact (if_pos (hst.trans hh)).trans
        ((State.setEngine_heldTo s.undemanded .blowdown e' f).trans (State.closedTo_of_holding hh).symm)
    · exact (if_neg (fun h => hh (hst.symm.trans h))).trans (State.closedTo_of_not_holding hh).symm
  have hkept (f : Engine) (hc : EngineClosed (s.valve .blowdown).seenClosed (s.engine .discharge) f)
      (hne : (s.engine .discharge).state ≠ .holding) :
      ∃ e', EngineClosed (s.valve .blowdown).seenClosed (s.engine .discharge) e' ∧
        (s.undemanded.setEngine .discharge f).forcedRelease .discharge = s.closedTo e' :=
    ⟨f, hc, (State.forcedRelease_of_passive (s := s.undemanded.setEngine .discharge f) (p := .discharge) hc.passive).trans
      (State.closedTo_of_not_holding hne).symm⟩
  cases hneed : (s.engine .discharge).need with
  | false =>
    rw [State.needNotice_of_same (s := s.undemanded) (p := .discharge) k hneed]
    exact hforced _ rfl rfl (fun _ => ⟨by rw [hneed]; rfl, rfl, rfl⟩)
  | true =>
    rcases (s.engine .discharge).state.passive_or with hp | hw | hh
    · obtain ⟨f, hc, he⟩ := State.needNotice_ends_passive (s := s.undemanded) (s.valve .blowdown).seenClosed hp k
      rw [he]
      exact hkept f hc (fun h => by rw [h] at hp; cases hp)
    · rw [State.needNotice_falls_waiting (s := s.undemanded) (p := .discharge) hw hneed]
      exact hkept _ (.of_waiting hw rfl rfl) (fun h => by rw [h] at hw; rcases hw with hw | hw <;> cases hw)
    · cases hm : s.undemanded.minimumRunOver (s.undemanded.engine .discharge) with
      | false =>
        have hdeferred := State.needNotice_falls_deferred (s := s.undemanded) (v := .blowdown) (k := k) hh hneed hm
        rw [show s.undemanded.needNotice .discharge false k = _ from hdeferred]
        exact hforced _ rfl rfl (fun h => by cases hh.symm.trans h)
      | true =>
        have hreleased := State.needNotice_falls_released (s := s.undemanded) (v := .blowdown) (k := k) hh hneed hm
        rw [show s.undemanded.needNotice .discharge false k = _ from hreleased, State.letGoTo_eq]
        have hseen : (s.undemanded.valve .blowdown).seenClosed = (s.valve .blowdown).seenClosed := rfl
        rw [hseen]
        generalize hf : (if (s.valve .blowdown).seenClosed then _ else _ : Engine) = f
        have hc : EngineClosed (s.valve .blowdown).seenClosed (s.engine .discharge) f := by
          rw [← hf]
          cases (s.valve .blowdown).seenClosed with
          | true => exact .of_holding hh rfl (fun _ => rfl) nofun
          | false => exact .of_holding hh rfl nofun (fun _ => ⟨rfl, rfl, rfl, rfl⟩)
        exact ⟨f, hc, (State.forcedRelease_of_passive (s := s.undemanded.heldTo .blowdown f) (p := .discharge) hc.passive).trans
          (State.closedTo_of_holding hh).symm⟩

/-! ## The entry to CLOSING -/

/-- R144, R27: CLOSING begun and told to BIOCIDE's engine, which is then `e`; DISCHARGE not yet recomputed nor released. -/
def State.closingBegun (s : State) (k : Nat) (e : Engine) : State :=
  { s with
    bio := { s.bio with cycle := .closing, phase := none }
    freeIx := s.freeIx + 1
    demand := { s.demand with force := false, suppress := true, bBase := k } }.setEngine .biocide e

/-- R60: what the notice of CLOSING makes of BIOCIDE's engine. -/
theorem State.needNotice_ends_biocide (s : State) (k : Nat) : ∃ e : Engine,
    s.needNotice .biocide false k = s.setEngine .biocide e ∧ e.need = false ∧
      ((s.engine .biocide).state = .holding → e = (s.engine .biocide).noticed false k) := by
  refine ⟨_, s.needNotice_biocide false k, State.needNotice_need _ _ _ _, fun hh => ?_⟩
  cases hn : (s.engine .biocide).need with
  | false =>
    rw [State.needNotice_of_same (p := .biocide) _ hn, State.engine_setEngine]
    rfl
  | true =>
    have hnoticed : ((s.engine .biocide).noticed false k).state = .holding := hh
    rw [State.needNotice_of_falls hn, State.needFalls]
    simp only [State.engine_setEngine, hnoticed, Pool.valve]

/-- R144: the entry, in the order the free value chooses. -/
theorem State.enterClosing_eq (s : State) : ∃ k e, s.enterClosing =
    (if Config.releaseBeforeNeed s.freeIx then ((s.closingBegun k e).forcedRelease .discharge).recomputeDischarge
     else (s.closingBegun k e).recomputeDischarge.forcedRelease .discharge) ∧ e.need = false ∧
    ((s.engine .biocide).state = .holding → e = (s.engine .biocide).noticed false k) ∧
    k = biocideBase { s.bio with cycle := .closing, phase := none } := by
  generalize hk : biocideBase { s.bio with cycle := .closing, phase := none } = k
  obtain ⟨e, he, hneed, hkeeps⟩ := State.needNotice_ends_biocide
    { s with bio := { s.bio with cycle := .closing, phase := none }, freeIx := s.freeIx + 1
             demand := { s.demand with bBase := k } } k
  refine ⟨k, e, ?_, hneed, hkeeps, rfl⟩
  have hnotice : ({ s with bio := { s.bio with cycle := .closing, phase := none }, freeIx := s.freeIx + 1 } : State).cycleNotice =
      ({ s with bio := { s.bio with cycle := .closing, phase := none }, freeIx := s.freeIx + 1
                demand := { s.demand with bBase := k } } : State).setEngine .biocide e := by
    rw [← he, State.cycleNotice, hk]
    rfl
  simp only [State.enterClosing]
  rw [hnotice]
  rfl

/-- The entry to CLOSING: DISCHARGE is left as R27, R61 and R144 say, whichever notice came first. -/
theorem State.enterClosing_closed (hn : NeedShown s) : ∃ k eb e',
    EngineClosed s.out.blowdown.seenClosed (s.engine .discharge) e' ∧ s.enterClosing = (s.closingBegun k eb).closedTo e' ∧
      eb.need = false ∧ ((s.engine .biocide).state = .holding → eb = (s.engine .biocide).noticed false k) := by
  obtain ⟨k, eb, he, hneed, hkeeps, -⟩ := s.enterClosing_eq
  have hshown : NeedShown (s.closingBegun k eb) := hn
  rw [he]
  split
  · obtain ⟨e', hc, hc'⟩ := State.close_release_first (s := s.closingBegun k eb) rfl hshown
    exact ⟨k, eb, e', hc, hc', hneed, hkeeps⟩
  · obtain ⟨e', hc, hc'⟩ := State.close_need_first (s := s.closingBegun k eb) rfl hshown
    exact ⟨k, eb, e', hc, hc', hneed, hkeeps⟩

/-- What an entry to CLOSING has made of DISCHARGE and of the cycle, `t`, from the state `s` before. -/
structure ClosingCore (s t : State) : Prop where
  engine : EngineEnded s.out.blowdown.seenClosed (s.engine .discharge) (t.engine .discharge)
  requests : t.demand.force = false ∧ t.demand.suppress = true ∧ t.demand.dDemand = false ∧ t.demand.dBase = 0
  bio : t.bio = { s.bio with cycle := .closing, phase := none }
  pump : t.out.biocidePump = s.out.biocidePump
  released : (s.engine .discharge).state = .holding → s.out.blowdown.seenClosed = false →
    t.out.blowdown = s.out.blowdown.closing ∧ t.feed = { s.feed with noFlow := none }
  station : t.station = s.station

/-- What the entry to CLOSING alone has made of the machine, `t`, from the state `s` before. -/
structure ClosingMade (s t : State) : Prop extends ClosingCore s t where
  closed : EngineClosed s.out.blowdown.seenClosed (s.engine .discharge) (t.engine .discharge)
  kept : (s.engine .discharge).state ≠ .holding → t.out.blowdown = s.out.blowdown ∧ t.feed = s.feed
  makeup : t.out.makeup = s.out.makeup
  supply : t.claim.supply = s.claim.supply
  biocideNeed : (t.engine .biocide).need = false
  biocide : (s.engine .biocide).state = .holding → ∃ k, t.engine .biocide = (s.engine .biocide).noticed false k
  same : t.station = s.station ∧ t.meas = s.meas ∧ t.peers = s.peers ∧ t.stats = s.stats

theorem State.enterClosing_made (hn : NeedShown s) : ClosingMade s s.enterClosing := by
  obtain ⟨k, eb, e', hc, he, hneed, hkeeps⟩ := State.enterClosing_closed hn
  by_cases hh : (s.engine .discharge).state = .holding
  · rw [he, State.closedTo_of_holding (s := s.closingBegun k eb) hh]
    refine ⟨⟨hc.ended, ⟨rfl, rfl, rfl, rfl⟩, rfl, rfl, fun _ hseen => ⟨if_neg ?_, rfl⟩, rfl⟩, hc, fun hne => absurd hh hne,
      rfl, rfl, hneed, fun hk => ⟨k, hkeeps hk⟩, ⟨rfl, rfl, rfl, rfl⟩⟩
    exact fun h => Bool.false_ne_true (hseen.symm.trans h)
  · rw [he, State.closedTo_of_not_holding (s := s.closingBegun k eb) hh]
    exact ⟨⟨hc.ended, ⟨rfl, rfl, rfl, rfl⟩, rfl, rfl, fun h => absurd h hh, rfl⟩, hc, fun _ => ⟨rfl, rfl⟩, rfl, rfl, hneed,
      fun hk => ⟨k, hkeeps hk⟩, ⟨rfl, rfl, rfl, rfl⟩⟩

/-! ## The end of the event (R145) -/

/-- R146: the entry to DOSING. -/
theorem State.enterDosing_eq (s : State) : ∃ k e, s.enterDosing =
    ({ s with bio := { s.bio with cycle := .dosing, phase := some (s.station.cfg.doseTime * 1000) }
              out := { s.out with biocidePump := true }
              demand := { s.demand with bBase := k } } : State).setEngine .biocide e ∧ e.need = false ∧
    ((s.engine .biocide).state = .holding → e = (s.engine .biocide).noticed false k) ∧
    k = biocideBase { s.bio with cycle := .dosing, phase := some (s.station.cfg.doseTime * 1000) } := by
  generalize hk : biocideBase { s.bio with cycle := .dosing, phase := some (s.station.cfg.doseTime * 1000) } = k
  obtain ⟨e, he, hneed, hkeeps⟩ := State.needNotice_ends_biocide
    { s with bio := { s.bio with cycle := .dosing, phase := some (s.station.cfg.doseTime * 1000) }
             demand := { s.demand with bBase := k } } k
  refine ⟨k, e, ?_, hneed, hkeeps, rfl⟩
  have hnotice : ({ s with bio := { s.bio with cycle := .dosing, phase := some (s.station.cfg.doseTime * 1000) } } : State).cycleNotice =
      ({ s with bio := { s.bio with cycle := .dosing, phase := some (s.station.cfg.doseTime * 1000) }
                demand := { s.demand with bBase := k } } : State).setEngine .biocide e := by
    rw [← he, State.cycleNotice, hk]
    rfl
  rw [State.enterDosing, hnotice]
  rfl

/-- The end of an event clears no flag that the closing test leaves set. -/
theorem finish_flag_of_tested {f : Event} (h : (t.tested b).stats.flag f = true) : (State.finish b t).stats.flag f = true := by
  have hf : State.finish b t = ((t.tested b).calmValveFault b).toldAfter b (reportTriggers b ((t.tested b).calmValveFault b)) :=
    rfl
  have hcalm : ((t.tested b).calmValveFault b).stats.flag f = true := by
    rw [State.calmValveFault_eq]
    exact h
  have htold := State.composeReports_flagsKept _ (reportTriggers b ((t.tested b).calmValveFault b)) f hcalm
  rw [hf, State.toldAfter, State.driveLines_stats, State.nameLast_eq]
  exact htold

/-- R145: the closing test leaves SUPPLY's engine and valve. -/
theorem State.tested_supply (t b : State) :
    (t.tested b).claim.supply = t.claim.supply ∧ (t.tested b).out.makeup = t.out.makeup := by
  simp only [State.tested]
  split
  · simp only [State.closingTest]
    have hdose : t.enterDosing.claim.supply = t.claim.supply ∧ t.enterDosing.out.makeup = t.out.makeup := by
      obtain ⟨k, e, he, -⟩ := t.enterDosing_eq
      rw [he]
      exact ⟨rfl, rfl⟩
    have habort := t.abortCycle_spared (p := .supply) (by decide) (by decide)
    cases (t.engine .discharge).state with
    | rest | locked => exact hdose
    | stuck => exact ⟨habort.engine, habort.valve .makeup rfl⟩
    | asking | confirming | holding | releasing => exact ⟨rfl, rfl⟩
  · exact ⟨rfl, rfl⟩

theorem finish_supply (b t : State) : (State.finish b t).claim.supply = t.claim.supply ∧
    (State.finish b t).out.makeup = t.out.makeup := by
  obtain ⟨h1, h2⟩ := t.tested_supply b
  have hm : (State.finish b t).out.makeup = (t.tested b).out.makeup := finish_valve b t .makeup
  exact ⟨by rw [finish_claim, h1], hm.trans h2⟩

/-- R145: what the test at the event's end makes of an entry to CLOSING. -/
theorem ClosingCore.tested_cases (h : ClosingCore s t) (hb : b.bio.cycle ≠ .closing) :
    ((t.engine .discharge).state = .releasing → t.tested b = t) ∧
    ((t.engine .discharge).state = .rest ∨ (t.engine .discharge).state = .locked → t.tested b = t.enterDosing) ∧
    ((t.engine .discharge).state = .stuck → t.tested b = t.abortCycle) := by
  have hc : t.bio.cycle = .closing := by rw [h.bio]
  have hdue : closingTestDue b t = true := by simp [closingTestDue, hc, hb]
  rw [State.tested_of_due hdue, State.closingTest]
  refine ⟨fun hs => by rw [hs], fun hs => ?_, fun hs => by rw [hs]⟩
  rcases hs with hs | hs <;> rw [hs]

/-- R145: the dose begins within the event in which CLOSING is entered. -/
theorem ClosingCore.dosed (h : ClosingCore s t) (hb : b.bio.cycle ≠ .closing)
    (hs : (t.engine .discharge).state = .rest ∨ (t.engine .discharge).state = .locked) :
    (State.finish b t).demand.force = false ∧ (State.finish b t).demand.suppress = true ∧
      (State.finish b t).demand.dDemand = false ∧ (State.finish b t).demand.dBase = 0 ∧
      (State.finish b t).engine .discharge = t.engine .discharge ∧
      (State.finish b t).bio = { s.bio with cycle := .dosing, phase := some (s.station.cfg.doseTime * 1000) } ∧
      (State.finish b t).out.biocidePump = true := by
  obtain ⟨k, e, he, -⟩ := t.enterDosing_eq
  obtain ⟨hforce, hsuppress, hdem, hbase⟩ := h.requests
  rw [finish_demand, finish_engine, finish_bio, finish_pump, (h.tested_cases hb).2.1 hs, he]
  refine ⟨hforce, hsuppress, hdem, hbase, rfl, ?_, rfl⟩
  show { t.bio with cycle := Cycle.dosing, phase := some (t.station.cfg.doseTime * 1000) } = _
  rw [h.bio, h.station]

/-- R144: CLOSING waits for the release of DISCHARGE. -/
theorem ClosingCore.waits (h : ClosingCore s t) (hb : b.bio.cycle ≠ .closing) (hs : (t.engine .discharge).state = .releasing) :
    (State.finish b t).demand.force = false ∧ (State.finish b t).demand.suppress = true ∧
      (State.finish b t).demand.dDemand = false ∧ (State.finish b t).demand.dBase = 0 ∧
      (State.finish b t).engine .discharge = t.engine .discharge ∧
      (State.finish b t).bio = { s.bio with cycle := .closing, phase := none } := by
  obtain ⟨hforce, hsuppress, hdem, hbase⟩ := h.requests
  rw [finish_demand, finish_engine, finish_bio, (h.tested_cases hb).1 hs]
  exact ⟨hforce, hsuppress, hdem, hbase, rfl, h.bio⟩

/-- R149: an abort ends the cycle. -/
theorem State.abortCycle_bio (s : State) : s.abortCycle.bio =
    { s.bio with cycle := .idle, interval := some 3600000, overdue := none, phase := none, abortMark := true } := by
  rw [State.abortCycle_eq, State.aborted_bio, (State.releaseBiocide_claimOnly _).2.2.1]
  split <;> rfl

/-- R27: where the cycle is not aborted, the suppressed DISCHARGE has no demand and its engine no need. -/
theorem ClosingCore.suppressed (h : ClosingCore s t) (hb : b.bio.cycle ≠ .closing)
    (hs : (t.engine .discharge).state = .rest ∨ (t.engine .discharge).state = .locked ∨
      (t.engine .discharge).state = .releasing) :
    (State.finish b t).demand.force = false ∧ (State.finish b t).demand.suppress = true ∧
      (State.finish b t).demand.dDemand = false ∧ (State.finish b t).demand.dBase = 0 ∧
      ((State.finish b t).engine .discharge).need = false := by
  have hneed := h.engine.need
  rcases hs with hs | hs | hs
  · obtain ⟨h1, h2, h3, h4, h5, -⟩ := h.dosed hb (.inl hs)
    exact ⟨h1, h2, h3, h4, by rw [h5]; exact hneed⟩
  · obtain ⟨h1, h2, h3, h4, h5, -⟩ := h.dosed hb (.inr hs)
    exact ⟨h1, h2, h3, h4, by rw [h5]; exact hneed⟩
  · obtain ⟨h1, h2, h3, h4, h5, -⟩ := h.waits hb hs
    exact ⟨h1, h2, h3, h4, by rw [h5]; exact hneed⟩

/-- R27, R61, R144, R145: what the event in which the cycle enters CLOSING makes of DISCHARGE and of the cycle. -/
theorem ClosingCore.entered (h : ClosingCore s t) (hb : b.bio.cycle ≠ .closing) : ClosingEntered s (State.finish b t) := by
  have hcl := h.engine
  refine ⟨fun hne => h.suppressed hb ?_, fun hs hseen => ?_, fun hs => ?_, fun hs => ?_, fun hs => ?_⟩
  · cases hs : (s.engine .discharge).state with
    | rest => exact .inl (hcl.idle (.inl hs))
    | asking => exact .inl (hcl.idle (.inr (.inl hs)))
    | confirming => exact .inl (hcl.idle (.inr (.inr (.inl hs))))
    | locked => exact .inr (.inl (hcl.locked hs))
    | releasing => exact .inr (.inr (hcl.releasing hs).1)
    | stuck => exact absurd hs hne
    | holding =>
      cases hseen : s.out.blowdown.seenClosed with
      | true => exact .inl (hcl.idle (.inr (.inr (.inr ⟨hs, hseen⟩))))
      | false => exact .inr (.inr (hcl.letGo hs hseen).1)
  · obtain ⟨k1, k2, k3, k4⟩ := hcl.letGo hs hseen
    obtain ⟨-, -, -, -, h5, h6⟩ := h.waits hb k1
    obtain ⟨hblow, hfeed⟩ := h.released hs hseen
    have htest := (h.tested_cases hb).1 k1
    have hvalve : (State.finish b t).out.blowdown = (t.tested b).out.blowdown := finish_valve b t .blowdown
    rw [h5, h6, hvalve, finish_feed, finish_pump, htest]
    exact ⟨k1, k2, k3, k4, hblow, hfeed, rfl, h.pump⟩
  · obtain ⟨k1, k2⟩ := hcl.releasing hs
    obtain ⟨-, -, -, -, h5, h6⟩ := h.waits hb k1
    exact ⟨by rw [h5, k1], fun hr => k2 (by rw [← h5]; exact hr), h6⟩
  · by_cases hl : (s.engine .discharge).state = .locked
    · obtain ⟨-, -, -, -, h5, h6, h7⟩ := h.dosed hb (.inr (hcl.locked hl))
      exact ⟨by rw [h5, if_pos hl, hcl.locked hl], h6, h7⟩
    · have hrest := hcl.idle (by
        rcases hs with hs | hs | hs | hs | hs
        · exact .inl hs
        · exact .inr (.inl hs)
        · exact .inr (.inr (.inl hs))
        · exact absurd hs hl
        · exact .inr (.inr (.inr hs)))
      obtain ⟨-, -, -, -, h5, h6, h7⟩ := h.dosed hb (.inl hrest)
      exact ⟨by rw [h5, if_neg hl, hrest], h6, h7⟩
  · have htest := (h.tested_cases hb).2.2 (hcl.stuck hs)
    have hflag : t.abortCycle.stats.flag .biocideAborted = true := State.aborted_flag _
    rw [finish_bio, finish_demand, htest, State.abortCycle_bio]
    exact ⟨rfl, rfl, rfl, finish_flag_of_tested (by rw [htest]; exact hflag), (State.request_requests _ _ _).2⟩

/-- Settles O39: PREBLEED SHORT is raised and CLOSING entered. -/
theorem prebleedLimitClosesBlowdown : Obligations.PrebleedLimitClosesBlowdown := by
  unfold Obligations.PrebleedLimitClosesBlowdown
  intro s hh hw hc hp hn
  have hover : s.phaseOver .prebleed = true := by simp [State.phaseOver, hw, hc, hp, ranOut]
  have hexec : exec .prebleedShort s = .next (State.finish s s.prebleedRunsOut) :=
    (exec_prebleedShort s).trans (event_of_due hh hover)
  have hmade : ClosingMade (s.raise .prebleedShort) s.prebleedRunsOut := State.enterClosing_made (s := s.raise .prebleedShort) hn
  obtain ⟨hst, hme, hpe, hstats⟩ := hmade.same
  obtain ⟨-, -, kst, kme, kpe, -⟩ := State.finish_steady s s.prebleedRunsOut
  obtain ⟨hsupply, hmakeup⟩ := finish_supply s s.prebleedRunsOut
  refine ⟨_, hexec, linesFollow_finish _ _, finish_flagsKept _ _ _ ?_, kst.trans hst, kme.trans hme, kpe.trans hpe,
    hsupply.trans hmade.supply, hmakeup.trans hmade.makeup, hmade.entered (b := s) (by rw [hc]; nofun)⟩
  rw [hstats]
  exact State.raise_flag_self s .prebleedShort

end

end Sys2Proof.Machine
end

section
/-! SUPPORT. The grant of BIOCIDE (R46, R140, R141): what the sequencer answers to its engine's hold. -/

namespace Sys2Proof.Machine
open Sys2Proof

set_option Elab.async false

section
variable {b s t u : State} {k : Nat}

/-! ## The engine granted -/

/-- R46, R60: BIOCIDE's engine granted, counted and its wait recorded; the sequencer has not answered yet. -/
def State.biocideGranted (s : State) : State :=
  ((s.setEngine .biocide ((s.engine .biocide).granted s.now false)).count (.grants .biocide) 1).recordWait .biocide
    (roundDiv (s.now - (s.engine .biocide).grantWait.getD s.now) 1000)

theorem State.grant_biocide (s : State) : s.grant .biocide = s.biocideGranted.holdingNotice := rfl

theorem exec_confirmPeriodExpiry_biocide (hh : s.held = none) (hs : (s.engine .biocide).state = .confirming)
    (hr : reached 2500 (s.engine .biocide).phase = true) (hf : s.fits .biocide = true) :
    exec (.confirmPeriodExpiry .biocide) s = .next (State.finish s s.biocideGranted.holdingNotice) := by
  have hexpires : s.confirmExpires .biocide = s.biocideGranted.holdingNotice := by
    rw [State.confirmExpires, hf, if_pos rfl, State.grant_biocide]
  rw [exec_confirmPeriodExpiry, event_of_due hh (confirmOver_of hs hr), hexpires]

/-- The grant counted and recorded. -/
theorem State.biocideGranted_counted (hlen : s.stats.counters.length = 20) :
    s.biocideGranted.stats.counter (.grants .biocide) = s.stats.counter (.grants .biocide) + 1 ∧
      s.biocideGranted.stats.histogram = (s.recordWait .biocide
        (roundDiv (s.now - (s.engine .biocide).grantWait.getD s.now) 1000)).stats.histogram ∧
      s.biocideGranted.stats.flag .prebleedShort = s.stats.flag .prebleedShort := by
  have hstats : s.biocideGranted.stats = (s.stats.count (.grants .biocide) 1).grantWait .biocide
      (roundDiv (s.now - (s.engine .biocide).grantWait.getD s.now) 1000) := rfl
  have hself : (s.stats.count (.grants .biocide) 1).counter (.grants .biocide) = s.stats.counter (.grants .biocide) + 1 :=
    Stats.count_counter_self hlen
  have hhist : (s.stats.count (.grants .biocide) 1).histogram = s.stats.histogram := State.count_histogram s _ _
  rw [hstats]
  refine ⟨hself, ?_, Stats.count_flag_of_ne (e := .prebleedShort) nofun nofun _ _ _⟩
  simp only [Stats.grantWait, State.recordWait, hhist]

/-! ## What an abort makes of the engines (R149, R60) -/

theorem State.needNotice_stuck {p : Pool} (h : (s.engine p).state = .stuck) (n : Bool) (k : Nat) :
    ((s.needNotice p n k).engine p).state = .stuck := by
  by_cases hn : (s.engine p).need = n
  · rw [State.needNotice_of_same k hn, State.engine_setEngine]
    exact h
  · cases n with
    | true =>
      rw [State.needNotice_rises_other (.inr (.inr (.inl h))) (Bool.not_eq_true _ |>.mp hn), State.engine_setEngine]
      exact h
    | false =>
      rw [State.needNotice_falls_idle (.inr (.inl h)) (Bool.not_eq_false _ |>.mp hn), State.engine_setEngine]
      exact h

theorem State.recomputeDischarge_stuck (h : (s.engine .discharge).state = .stuck) :
    (s.recomputeDischarge.engine .discharge).state = .stuck := by
  simp only [State.recomputeDischarge]
  generalize dischargeDemand s.station.cfg s.meas.derived s.demand = r
  split
  · exact h
  · exact State.needNotice_stuck (p := .discharge)
      (s := { s with demand := { s.demand with dDemand := r.1, dBase := r.2 } }) h _ _

theorem State.request_stuck (h : (s.engine .discharge).state = .stuck) (a c : Bool) :
    ((s.request a c).engine .discharge).state = .stuck :=
  State.recomputeDischarge_stuck (s := { s with demand := { s.demand with force := a, suppress := c } }) h

theorem State.cycleNotice_biocide_need (s : State) : (s.cycleNotice.engine .biocide).need = (s.bio.cycle == .due) :=
  State.needNotice_need { s with demand := { s.demand with bBase := biocideBase s.bio } } _ _ _

/-- R149, R60: an abort takes BIOCIDE's engine from its hold to REST where it has no need, and leaves a STUCK engine. -/
theorem State.abortCycle_engines (hb : (s.engine .biocide).state = .holding) (hn : (s.engine .biocide).need = false) :
    (s.abortCycle.engine .biocide).state = .rest ∧ (s.abortCycle.engine .biocide).holdStart = none ∧
      (s.abortCycle.engine .biocide).need = false ∧
      ((s.engine .discharge).state = .stuck → (s.abortCycle.engine .discharge).state = .stuck) := by
  generalize hw : (if s.bio.cycle == .dosing then s.pump false else s : State) = w
  have hbiocide : w.engine .biocide = s.engine .biocide := by
    rw [← hw]
    split <;> rfl
  have hdischarge : w.engine .discharge = s.engine .discharge := by
    rw [← hw]
    split <;> rfl
  have hrelease : w.releaseBiocide.engine .biocide = (s.engine .biocide).endHold.atRest := by
    rw [State.releaseBiocide, hbiocide, hb, if_pos (beq_self_eq_true _), State.biocideToRest_biocide, hbiocide, hn,
      Bool.and_false, if_neg Bool.false_ne_true]
  obtain ⟨h1, h2, -⟩ := State.aborted_made w.releaseBiocide (.inl (by rw [hrelease]; rfl))
  rw [State.abortCycle_eq, hw]
  refine ⟨h1, by rw [h2, hrelease]; rfl, ?_, fun hs => ?_⟩
  · rw [State.aborted, State.request_biocide, State.cycleNotice_biocide_need]
    rfl
  · refine State.request_stuck ?_ _ _
    rw [State.cycleNotice_engine_ne _ (by decide)]
    show (w.releaseBiocide.engine .discharge).state = .stuck
    rw [State.releaseBiocide_discharge, hdischarge, hs]

/-! ## The first way: PREBLEED (R140, R141) -/

theorem State.recomputeDischarge_demand (s : State) : s.recomputeDischarge.demand = { s.demand with
    dDemand := (dischargeDemand s.station.cfg s.meas.derived s.demand).1
    dBase := (dischargeDemand s.station.cfg s.meas.derived s.demand).2 } := by
  simp only [State.recomputeDischarge]
  generalize dischargeDemand s.station.cfg s.meas.derived s.demand = r
  split
  · next h =>
    rw [Bool.and_eq_true, beq_iff_eq, beq_iff_eq] at h
    rw [h.1, h.2]
  · rw [(State.needNotice_claimOnly _ _ _ _).1]

/-- R26: a force request stands above the deadband. -/
theorem dischargeDemand_forced {c : EffConfig} {d : Derived} {q : Demand} (hs : q.suppress = false) (hf : q.force = true) :
    (dischargeDemand c d q).1 = true ∧ 120 ≤ (dischargeDemand c d q).2 := by
  simp only [dischargeDemand, hs, hf, if_true, Bool.false_eq_true, if_false]
  refine ⟨trivial, ?_⟩
  split
  · decide
  · exact Nat.le_max_left _ _

/-- R60, R136: a notice of a cycle state other than DUE. -/
theorem State.cycleNotice_ends (hc : s.bio.cycle ≠ .due) : ∃ e, s.cycleNotice =
    ({ s with demand := { s.demand with bBase := biocideBase s.bio } } : State).setEngine .biocide e ∧ e.need = false ∧
      ((s.engine .biocide).state = .holding → e = (s.engine .biocide).noticed false (biocideBase s.bio)) := by
  obtain ⟨e, he, hneed, hkeeps⟩ := State.needNotice_ends_biocide
    { s with demand := { s.demand with bBase := biocideBase s.bio } } (biocideBase s.bio)
  have hdue : (s.bio.cycle == .due) = false := beq_false_of_ne hc
  exact ⟨e, by rw [State.cycleNotice, hdue]; exact he, hneed, hkeeps⟩

/-- R141: PREBLEED begun. -/
theorem State.startPrebleed_parts (hh : (s.engine .biocide).state = .holding) :
    (∃ k, s.startPrebleed.engine .biocide = (s.engine .biocide).noticed false k) ∧
    s.startPrebleed.bio = { s.bio with cycle := .prebleed, phase := some (s.station.cfg.prebleedLimit * 1000) } ∧
    s.startPrebleed.demand.force = true ∧ s.startPrebleed.demand.suppress = s.demand.suppress ∧
    (s.demand.suppress = false → s.startPrebleed.demand.dDemand = true ∧ 120 ≤ s.startPrebleed.demand.dBase) ∧
    s.startPrebleed.stats = s.stats ∧ s.startPrebleed.claim.supply = s.claim.supply := by
  generalize hx : ({ s with bio := { s.bio with
    cycle := .prebleed, phase := some (s.station.cfg.prebleedLimit * 1000) } } : State) = x
  have hstart : s.startPrebleed = x.cycleNotice.request true s.demand.suppress := by rw [← hx]; rfl
  obtain ⟨e, he, -, hkeeps⟩ := State.cycleNotice_ends (s := x) (by rw [← hx]; nofun)
  obtain ⟨hforce, hsuppress⟩ := State.request_requests x.cycleNotice true s.demand.suppress
  have hsupply := (State.request_spared x.cycleNotice true s.demand.suppress (p := .supply) (by decide)).engine
  have hstats : (x.cycleNotice.request true s.demand.suppress).stats = x.cycleNotice.stats := State.recomputeDischarge_stats _
  rw [hstart, State.request_biocide, State.request_bio, hforce, hsuppress, hstats, State.cycleNotice_stats]
  refine ⟨⟨biocideBase x.bio, ?_⟩, ?_, rfl, rfl, fun hs => ?_, ?_, hsupply.trans ?_⟩
  · rw [he, State.engine_setEngine, hkeeps (by rw [← hx]; exact hh), ← hx]
    rfl
  · rw [he, ← hx]
    rfl
  · rw [State.request, State.recomputeDischarge_demand]
    exact dischargeDemand_forced (q := { x.cycleNotice.demand with force := true, suppress := s.demand.suppress }) hs rfl
  · rw [← hx]
  · rw [State.cycleNotice_engine_ne _ (by decide), ← hx]
    rfl

/-- R141: the state with a prebleed target set. -/
def State.withTarget (s : State) (n : Nat) : State := { s with bio := { s.bio with target := n } }

theorem State.targetReached_iff (s : State) : s.targetReached = true ↔ ∃ k ∈ s.meas.derived.k25B, k ≤ s.bio.target := by
  simp only [State.targetReached]
  cases s.meas.derived.k25B <;> simp

/-- R140: outside DUE the sequencer answers with a release. -/
theorem State.holdingNotice_of_not_due (hc : s.bio.cycle ≠ .due) : s.holdingNotice = s.releaseBiocide := by
  rw [State.holdingNotice, beq_false_of_ne hc, if_neg Bool.false_ne_true]

/-- R140, R141: in DUE a basin at the target, or one that needs no prebleed, leads straight to CLOSING. -/
theorem State.holdingNotice_of_reached (hc : s.bio.cycle = .due) (h : s.station.cfg.prebleedDrop = 0 ∨
    ∃ k ∈ s.meas.derived.k25B, k ≤ roundDiv (s.station.cfg.sp * (100 - s.station.cfg.prebleedDrop)) 100) :
    s.holdingNotice = (s.withTarget (if s.station.cfg.prebleedDrop = 0 then s.station.cfg.sp
      else roundDiv (s.station.cfg.sp * (100 - s.station.cfg.prebleedDrop)) 100)).enterClosing := by
  rw [State.holdingNotice, hc, if_pos (beq_self_eq_true _)]
  by_cases h0 : s.station.cfg.prebleedDrop = 0
  · rw [if_neg (by omega), if_pos h0]
    rfl
  · have hreached := (State.targetReached_iff (s.withTarget (prebleedTarget s.station.cfg))).mpr (h.resolve_left h0)
    rw [if_pos (by omega), if_neg h0, State.enterPrebleed]
    exact if_pos hreached

/-- R140, R141: in DUE a basin above the target begins PREBLEED. -/
theorem State.holdingNotice_of_above (hc : s.bio.cycle = .due) (hdrop : 0 < s.station.cfg.prebleedDrop)
    (h : ∀ k, s.meas.derived.k25B = some k → roundDiv (s.station.cfg.sp * (100 - s.station.cfg.prebleedDrop)) 100 < k) :
    s.holdingNotice = (s.withTarget (roundDiv (s.station.cfg.sp * (100 - s.station.cfg.prebleedDrop)) 100)).startPrebleed := by
  have hno : ¬ (s.withTarget (prebleedTarget s.station.cfg)).targetReached = true := by
    rw [State.targetReached_iff]
    rintro ⟨k, hk, hle⟩
    exact Nat.not_le.mpr (h k hk) hle
  rw [State.holdingNotice, hc, if_pos (beq_self_eq_true _), if_pos hdrop, State.enterPrebleed]
  exact if_neg hno

/-! ## The second way: straight to CLOSING -/

/-- R145: the three ends of an event in which CLOSING is entered. -/
theorem ClosingMade.tested_or (h : ClosingMade s t) (hb : b.bio.cycle ≠ .closing) :
    t.tested b = t ∨ t.tested b = t.enterDosing ∨ ((s.engine .discharge).state = .stuck ∧ t.tested b = t.abortCycle) := by
  obtain ⟨h1, h2, h3⟩ := h.tested_cases hb
  have hcl := h.engine
  cases hs : (s.engine .discharge).state with
  | rest => exact .inr (.inl (h2 (.inl (hcl.idle (.inl hs)))))
  | asking => exact .inr (.inl (h2 (.inl (hcl.idle (.inr (.inl hs))))))
  | confirming => exact .inr (.inl (h2 (.inl (hcl.idle (.inr (.inr (.inl hs)))))))
  | locked => exact .inr (.inl (h2 (.inr (hcl.locked hs))))
  | releasing => exact .inl (h1 (hcl.releasing hs).1)
  | stuck => exact .inr (.inr ⟨rfl, h3 (hcl.stuck hs)⟩)
  | holding =>
    cases hseen : s.out.blowdown.seenClosed with
    | true => exact .inr (.inl (h2 (.inl (hcl.idle (.inr (.inr (.inr ⟨hs, hseen⟩)))))))
    | false => exact .inl (h1 (hcl.letGo hs hseen).1)

/-- What the three ends leave: the target, BIOCIDE's hold where no abort ends it, and the statistics but for the abort's
event. -/
theorem ClosingMade.tested_leaves (h : ClosingMade s t) (hb : b.bio.cycle ≠ .closing) (hh : (s.engine .biocide).state = .holding) :
    (t.tested b).bio.target = s.bio.target ∧ ((t.tested b).engine .biocide).need = false ∧
    (t.tested b).stats.flag .prebleedShort = s.stats.flag .prebleedShort ∧
    (t.tested b).stats.histogram = s.stats.histogram ∧ (t.tested b).stats.counters = s.stats.counters ∧
    ((s.engine .discharge).state ≠ .stuck → ((t.tested b).engine .biocide).state = .holding ∧
      ((t.tested b).engine .biocide).holdStart = (s.engine .biocide).holdStart ∧
      ((t.tested b).engine .biocide).maxRun = (s.engine .biocide).maxRun) := by
  obtain ⟨k, hk⟩ := h.biocide hh
  obtain ⟨-, -, -, hstats⟩ := h.same
  have htarget : t.bio.target = s.bio.target := by rw [h.bio]
  have hhold : (t.engine .biocide).state = .holding := by rw [hk]; exact hh
  rcases h.tested_or hb with he | he | ⟨hs, he⟩
  · rw [he, htarget, hstats, hk]
    exact ⟨rfl, rfl, rfl, rfl, rfl, fun _ => ⟨hh, rfl, rfl⟩⟩
  · obtain ⟨base, e, hd, hneed, hkeeps, -⟩ := t.enterDosing_eq
    have hstats' : t.enterDosing.stats = s.stats := by rw [hd]; exact hstats
    have hengine : t.enterDosing.engine .biocide = e := by rw [hd, State.engine_setEngine]
    have hbio : t.enterDosing.bio.target = s.bio.target := by rw [hd]; exact htarget
    rw [he, hbio, hstats', hengine, hkeeps hhold, hk]
    exact ⟨rfl, rfl, rfl, rfl, rfl, fun _ => ⟨hh, rfl, rfl⟩⟩
  · obtain ⟨-, -, hneed, -⟩ := State.abortCycle_engines hhold h.biocideNeed
    have hflag : ((t.raise .biocideAborted).occur .biocideAborted).stats.flag .prebleedShort =
        t.stats.flag .prebleedShort :=
      (t.stats.raise_flag .biocideAborted .prebleedShort).trans (Bool.or_false _)
    rw [he, State.abortCycle_bio, State.abortCycle_stats, hflag, hstats]
    refine ⟨htarget, hneed, rfl, ?_, ?_, fun hne => absurd hs hne⟩
    · rw [← hstats]; rfl
    · rw [← hstats]; rfl

/-- Settles O17, by what the sequencer answers. -/
theorem biocideGrantStartsPrebleed : Obligations.BiocideGrantStartsPrebleed := by
  unfold Obligations.BiocideGrantStartsPrebleed
  intro s hh hlen hs hr hf
  have hexec := exec_confirmPeriodExpiry_biocide hh hs hr hf
  have hgranted : (s.biocideGranted.engine .biocide) = (s.engine .biocide).granted s.now false := rfl
  obtain ⟨hcount, hhist, hflag⟩ := s.biocideGranted_counted hlen
  refine ⟨fun hc hdrop habove => ?_, fun hc hneed hreach => ?_, fun hc => ?_⟩
  · rw [State.holdingNotice_of_above (s := s.biocideGranted) hc hdrop habove] at hexec
    refine ⟨_, hexec, linesFollow_finish _ _, ?_⟩
    generalize hx : s.biocideGranted.withTarget
      (roundDiv (s.biocideGranted.station.cfg.sp * (100 - s.biocideGranted.station.cfg.prebleedDrop)) 100) = x
    obtain ⟨⟨k, hk⟩, hbio, hforce, hsuppress, hdem, hstats, hsupply⟩ :=
      State.startPrebleed_parts (s := x) (by rw [← hx]; rfl)
    obtain ⟨hnow, hheld, hst, hme, hpe, -⟩ := State.startPrebleed_steady x
    obtain ⟨-, -, kst, kme, kpe, -⟩ := State.finish_steady s x.startPrebleed
    have hdue : closingTestDue s x.startPrebleed = false := closingTestDue_of_not_closing (by rw [hbio]; nofun)
    rw [finish_engine, finish_bio, finish_demand, finish_histogram, finish_counter _ _ (by decide), finish_claim,
      State.tested_of_not_due hdue, hk, hbio, hforce, hsuppress, hstats, hsupply, kst, kme, kpe, hst, hme, hpe]
    subst hx
    exact ⟨rfl, rfl, rfl, rfl, rfl, rfl, rfl, rfl, hdem, hcount, hhist, rfl, rfl, rfl, rfl⟩
  · rw [State.holdingNotice_of_reached (s := s.biocideGranted) hc hreach] at hexec
    intro target
    have hmade : ClosingMade (s.biocideGranted.withTarget target) (s.biocideGranted.withTarget target).enterClosing :=
      State.enterClosing_made (s := s.biocideGranted.withTarget target) hneed
    have hb : s.bio.cycle ≠ .closing := by rw [hc]; nofun
    have hentered : ClosingEntered (s.biocideGranted.withTarget target)
      (State.finish s (s.biocideGranted.withTarget target).enterClosing) := hmade.entered hb
    obtain ⟨htarget, hneedB, hshort, hhist', hcount', hhold⟩ := hmade.tested_leaves hb rfl
    obtain ⟨hst, hme, hpe, -⟩ := hmade.same
    obtain ⟨-, -, kst, kme, kpe, -⟩ := State.finish_steady s (s.biocideGranted.withTarget target).enterClosing
    obtain ⟨hsupply, hmakeup⟩ := finish_supply s (s.biocideGranted.withTarget target).enterClosing
    have hcounter : ((s.biocideGranted.withTarget target).enterClosing.tested s).stats.counter (.grants .biocide) =
        s.biocideGranted.stats.counter (.grants .biocide) := by
      simp only [Stats.counter, Stats.counterAt, hcount']
      rfl
    have hexec' : exec (.confirmPeriodExpiry .biocide) s =
      .next (State.finish s (s.biocideGranted.withTarget target).enterClosing) := hexec
    refine ⟨_, hexec', linesFollow_finish _ _, hentered, ?_⟩
    rw [finish_bio, finish_engine, finish_engine, finish_histogram, finish_counter _ _ (by decide), kst, kme, kpe, hsupply,
      hmakeup, hst, hme, hpe, hmade.supply, hmade.makeup, finish_flag_of_ne (e := .prebleedShort) nofun nofun, htarget,
      hshort, hhist', hcounter]
    refine ⟨rfl, hneedB, hflag, hhold, fun hs => ?_, fun hs => ?_, hcount, hhist, rfl, rfl, rfl, rfl, rfl⟩
    · obtain ⟨h1, h2, -⟩ := hmade.closed.releasing hs
      rw [(hmade.tested_cases hb).1 h1, h2]
      rfl
    · have hstuck := hmade.engine.stuck hs
      obtain ⟨k, hk⟩ := hmade.biocide rfl
      obtain ⟨h1, h2, -, h4⟩ := State.abortCycle_engines (s := (s.biocideGranted.withTarget target).enterClosing)
        (by rw [hk]; rfl) hmade.biocideNeed
      rw [(hmade.tested_cases hb).2.2 hstuck]
      exact ⟨h1, h2, h4 hstuck⟩
  · rw [State.holdingNotice_of_not_due (s := s.biocideGranted) hc] at hexec
    refine ⟨_, hexec, ?_⟩
    have hrelease : s.biocideGranted.releaseBiocide = s.biocideGranted.setEngine .biocide
        (if s.inRun && (s.engine .biocide).need then ((s.engine .biocide).granted s.now false).endHold.atRest.justAsking s.now
         else ((s.engine .biocide).granted s.now false).endHold.atRest) := by
      have hholding : ((s.biocideGranted.engine .biocide).state == .holding) = true := rfl
      rw [State.releaseBiocide, if_pos hholding, State.biocideToRest_eq, State.biocideToRest_biocide, hgranted]
      rfl
    rw [hrelease]
    generalize hu : s.biocideGranted.setEngine .biocide _ = u
    have hdue : closingTestDue s u = false := closingTestDue_of_same (by rw [← hu]; rfl) (by rw [← hu]; rfl)
    rw [finish_bio, finish_engine, finish_counter _ _ (by decide), State.tested_of_not_due hdue, ← hu, State.engine_setEngine]
    refine ⟨rfl, ?_, ?_, hcount⟩
    · cases s.inRun <;> cases (s.engine .biocide).need <;> rfl
    · split <;> rfl

end

end Sys2Proof.Machine
end

section
/-! SUPPORT. The scan (R1, R7, R15), and what the demand unit and the sequencer leave of the other units' records. -/

namespace Sys2Proof.Machine
open Sys2Proof

set_option Elab.async false

section
variable {b s t u : State}

/-! ## What demand, claim and sequencer leave -/

/-- What no notice between the demand unit, the pool engines and the sequencer changes of the other units: the meters and
feed but for the no-flow watch, the port, the line, the wait histogram, the mask and the counters. -/
structure Confined (s t : State) : Prop where
  feed : t.feed = { s.feed with noFlow := t.feed.noFlow }
  port : t.port = s.port
  line : t.line = s.line
  mask : t.stats.mask = s.stats.mask
  histogram : t.stats.histogram = s.stats.histogram
  counters : t.stats.counters = s.stats.counters

theorem Confined.refl (s : State) : Confined s s := ⟨rfl, rfl, rfl, rfl, rfl, rfl⟩

theorem Confined.trans (h : Confined s t) (k : Confined t u) : Confined s u :=
  ⟨by rw [k.feed, h.feed], k.port.trans h.port, k.line.trans h.line, k.mask.trans h.mask,
    k.histogram.trans h.histogram, k.counters.trans h.counters⟩

/-- An operation that changes none of these records. -/
theorem Confined.of_same (feed : t.feed = { s.feed with noFlow := t.feed.noFlow } := by rfl) (port : t.port = s.port := by rfl)
    (line : t.line = s.line := by rfl) (mask : t.stats.mask = s.stats.mask := by rfl)
    (histogram : t.stats.histogram = s.stats.histogram := by rfl) (counters : t.stats.counters = s.stats.counters := by rfl) :
    Confined s t := ⟨feed, port, line, mask, histogram, counters⟩

theorem State.setEngine_confined (s : State) (p : Pool) (e : Engine) : Confined s (s.setEngine p e) := by
  cases p <;> exact .of_same

theorem State.heldTo_confined (s : State) (v : Valve) (e : Engine) : Confined s (s.heldTo v e) := by
  cases v <;> exact .of_same

theorem State.release_confined (s : State) (v : Valve) (a b c : Bool) : Confined s (s.release v a b c) := by
  cases h : (s.valve v).seenClosed
  · rw [State.release_of_not_seenClosed _ _ _ h]
    cases v <;> exact .of_same
  · rw [State.release_of_seenClosed _ _ _ h]
    cases v <;> exact .of_same

theorem State.giveUpWaiting_confined (s : State) (p : Pool) : Confined s (s.giveUpWaiting p) := by
  rw [State.giveUpWaiting_eq]
  exact s.setEngine_confined _ _

theorem State.needNotice_confined (s : State) (p : Pool) (n : Bool) (k : Nat) : Confined s (s.needNotice p n k) := by
  have hrises (u : State) : Confined u (u.needRises p) := by
    simp only [State.needRises]
    cases (u.engine p).state with
    | rest => dsimp only; rw [State.askFromRest_eq_setEngine]; exact u.setEngine_confined _ _
    | holding | releasing => exact u.setEngine_confined _ _
    | asking | confirming | stuck | locked => exact .refl u
  have hfalls (u : State) : Confined u (u.needFalls p) := by
    simp only [State.needFalls]
    cases (u.engine p).state with
    | asking | confirming => exact u.giveUpWaiting_confined p
    | holding =>
      dsimp only
      split
      · split
        · exact u.release_confined _ _ _ _
        · exact u.setEngine_confined _ _
      · exact .refl u
    | releasing => exact u.setEngine_confined _ _
    | rest | stuck | locked => exact .refl u
  simp only [State.needNotice]
  (repeat' split)
  · exact (s.setEngine_confined _ _).trans (hrises _)
  · exact (s.setEngine_confined _ _).trans (hfalls _)
  · exact s.setEngine_confined _ _

theorem State.recomputeDischarge_confined (s : State) : Confined s s.recomputeDischarge := by
  simp only [State.recomputeDischarge]
  split
  · exact .refl s
  · exact Confined.trans .of_same (State.needNotice_confined _ _ _ _)

theorem State.recomputeSupply_confined (s : State) : Confined s s.recomputeSupply := by
  simp only [State.recomputeSupply]
  split
  · exact .refl s
  · exact Confined.trans .of_same (State.needNotice_confined _ _ _ _)

theorem State.request_confined (s : State) (a c : Bool) : Confined s (s.request a c) :=
  Confined.trans .of_same (State.recomputeDischarge_confined _)

theorem State.cycleNotice_confined (s : State) : Confined s s.cycleNotice :=
  Confined.trans .of_same (State.needNotice_confined _ _ _ _)

theorem State.releaseBiocide_confined (s : State) : Confined s s.releaseBiocide := by
  simp only [State.releaseBiocide]
  split
  · rw [State.biocideToRest_eq]
    exact s.setEngine_confined _ _
  · exact .refl s

theorem State.abortCycle_confined (s : State) : Confined s s.abortCycle := by
  have haborted (u : State) : Confined u u.aborted :=
    Confined.trans (t := ((({ u with bio := _ } : State).raise .biocideAborted).occur .biocideAborted)) .of_same
      ((State.cycleNotice_confined _).trans (State.request_confined _ _ _))
  rw [State.abortCycle_eq]
  refine Confined.trans ?_ (haborted _)
  split
  · exact Confined.trans (t := s.pump false) .of_same (State.releaseBiocide_confined _)
  · exact s.releaseBiocide_confined

theorem State.forcedRelease_confined (s : State) {p : Pool} (hp : p ≠ .biocide) : Confined s (s.forcedRelease p) := by
  simp only [State.forcedRelease]
  cases (s.engine p).state with
  | holding =>
    dsimp only
    split
    · exact s.release_confined _ _ _ _
    · next hv => exact absurd (by cases p <;> first | rfl | cases hv) hp
  | asking | confirming => exact s.giveUpWaiting_confined p
  | rest | releasing | stuck | locked => exact .refl s

theorem State.enterClosing_confined (s : State) : Confined s s.enterClosing := by
  obtain ⟨k, e, he, -⟩ := s.enterClosing_eq
  have hbegun : Confined s (s.closingBegun k e) := .of_same
  rw [he]
  split
  · exact hbegun.trans ((State.forcedRelease_confined _ (by decide)).trans (State.recomputeDischarge_confined _))
  · exact hbegun.trans ((State.recomputeDischarge_confined _).trans (State.forcedRelease_confined _ (by decide)))

theorem State.tested_confined (s b : State) : Confined s (s.tested b) := by
  simp only [State.tested]
  split
  · simp only [State.closingTest]
    have hdose : Confined s s.enterDosing := by
      obtain ⟨k, e, he, -⟩ := s.enterDosing_eq
      rw [he]
      exact .of_same
    cases (s.engine .discharge).state with
    | rest | locked => exact hdose
    | stuck => exact s.abortCycle_confined
    | asking | confirming | holding | releasing => exact .refl s
  · exact .refl s

theorem State.recomputeBiocide_confined (s : State) : Confined s s.recomputeBiocide :=
  Confined.trans .of_same (State.needNotice_confined _ _ _ _)

/-- R20 to R25, R28 to R30: the demand unit's own fields after a scan, with MODE FALLBACK. -/
def State.scanMarked (s : State) : State :=
  if s.demand.mode == .k && (s.demand.scanned s.station.cfg s.meas.derived).mode == .c then
    ({ s with demand := s.demand.scanned s.station.cfg s.meas.derived } : State).raise .modeFallback
  else { s with demand := s.demand.scanned s.station.cfg s.meas.derived }

theorem State.scanDemand_eq (s : State) : s.scanDemand =
    (((s.scanMarked.calmEnded s.demand).recomputeDischarge).recomputeSupply).recomputeBiocide := rfl

theorem State.scanMarked_eq (s : State) : s.scanMarked =
    { s with demand := s.demand.scanned s.station.cfg s.meas.derived
             stats := { s.stats with flags := s.scanMarked.stats.flags } } := by
  rw [State.scanMarked]
  split <;> rfl

theorem State.calmEnded_eq (s : State) (q : Demand) : s.calmEnded q =
    { s with stats := { s.stats with alarms := (s.calmEnded q).stats.alarms } } := by
  rw [State.calmEnded]
  dsimp only
  split <;> split <;> rfl

theorem State.scanDemand_confined (s : State) : Confined s s.scanDemand := by
  have hmarked : Confined s s.scanMarked := by
    rw [State.scanMarked_eq]
    exact .of_same
  have hcalm (u : State) (q : Demand) : Confined u (u.calmEnded q) := by
    rw [State.calmEnded_eq]
    exact .of_same
  rw [State.scanDemand_eq]
  exact hmarked.trans ((hcalm _ _).trans ((State.recomputeDischarge_confined _).trans
    ((State.recomputeSupply_confined _).trans (State.recomputeBiocide_confined _))))

theorem State.scanDemand_steady (s : State) : Steady s s.scanDemand := by
  have hmarked : Steady s (s.scanMarked.calmEnded s.demand) := by
    rw [State.calmEnded_eq, State.scanMarked_eq]
    exact ⟨rfl, rfl, rfl, rfl, rfl, rfl⟩
  obtain ⟨h1, h2, h3, h4, h5, h6⟩ := hmarked
  obtain ⟨i1, i2, i3, i4, i5, i6⟩ := (s.scanMarked.calmEnded s.demand).recomputeDischarge_steady
  obtain ⟨j1, j2, j3, j4, j5, j6⟩ := (s.scanMarked.calmEnded s.demand).recomputeDischarge.recomputeSupply_steady
  obtain ⟨k1, k2, k3, k4, k5, k6⟩ := (s.scanMarked.calmEnded s.demand).recomputeDischarge.recomputeSupply.recomputeBiocide_steady
  rw [State.scanDemand_eq]
  exact ⟨by rw [k1, j1, i1, h1], by rw [k2, j2, i2, h2], by rw [k3, j3, i3, h3], by rw [k4, j4, i4, h4],
    by rw [k5, j5, i5, h5], by rw [k6, j6, i6, h6]⟩

theorem State.prebleedTest_confined (s : State) : Confined s s.prebleedTest := by
  simp only [State.prebleedTest]
  split
  · exact s.enterClosing_confined
  · exact .refl s

/-! ## The channels and the derived set (R1, R7, R15) -/

/-- A step of the measurement unit: its records become `m`, and event flags and alarms may change besides. -/
def Measured (m : Measurement) (s t : State) : Prop :=
  ∃ f a, t = { s with meas := m, stats := { s.stats with flags := f, alarms := a } }

theorem Measured.trans {m n : Measurement} (h : Measured m s t) (k : Measured n t u) : Measured n s u := by
  obtain ⟨f, a, rfl⟩ := h
  obtain ⟨g, c, rfl⟩ := k
  exact ⟨g, c, rfl⟩

theorem Measured.meas {m : Measurement} (h : Measured m s t) : t.meas = m := by
  obtain ⟨f, a, rfl⟩ := h
  rfl

/-- One channel's record with its code applied. -/
def Measurement.takeChannel (m : Measurement) (k : Codes) (c : Chan) : Measurement :=
  m.setChannel c ((m.channel c).take (scanCode k c))

theorem Measurement.channel_takeChannel_self (m : Measurement) (k : Codes) (c : Chan) :
    (m.takeChannel k c).channel c = (m.channel c).take (scanCode k c) := by cases c <;> rfl

theorem Measurement.channel_takeChannel_ne (m : Measurement) (k : Codes) {c d : Chan} (h : d ≠ c) :
    (m.takeChannel k c).channel d = m.channel d := by
  cases c <;> cases d <;> first | rfl | exact absurd rfl h

theorem State.scanChannel_measured (s : State) (k : Codes) (c : Chan) :
    Measured (s.meas.takeChannel k c) s (s.scanChannel k c) := by
  simp only [State.scanChannel, State.probeRecovered]
  (repeat' split)
  · exact ⟨_, _, rfl⟩
  · exact ⟨_, _, rfl⟩
  · exact ⟨_, _, rfl⟩

theorem State.replaceDerived_measured (s : State) :
    Measured { s.meas with derived := s.meas.derive s.station.cfg } s s.replaceDerived := by
  simp only [State.replaceDerived]
  split
  · exact ⟨_, _, rfl⟩
  · exact ⟨_, _, rfl⟩

/-- The five channels of a scan. -/
def State.scanChannels (s : State) (k : Codes) : State :=
  ((((s.scanChannel k .cb).scanChannel k .tb).scanChannel k .cm).scanChannel k .tm).scanChannel k .lv

/-- The five records of a scan. -/
def Measurement.taken (m : Measurement) (k : Codes) : Measurement :=
  ((((m.takeChannel k .cb).takeChannel k .tb).takeChannel k .cm).takeChannel k .tm).takeChannel k .lv

theorem Measurement.channel_taken (m : Measurement) (k : Codes) (c : Chan) :
    (m.taken k).channel c = (m.channel c).take (scanCode k c) := by
  cases c <;> simp [Measurement.taken, Measurement.channel_takeChannel_self, Measurement.channel_takeChannel_ne]

theorem State.scanChannels_measured (s : State) (k : Codes) : Measured (s.meas.taken k) s (s.scanChannels k) := by
  have h1 := s.scanChannel_measured k .cb
  have h2 := h1.trans ((s.scanChannel k .cb).scanChannel_measured k .tb)
  rw [h1.meas] at h2
  have h3 := h2.trans (((s.scanChannel k .cb).scanChannel k .tb).scanChannel_measured k .cm)
  rw [h2.meas] at h3
  have h4 := h3.trans ((((s.scanChannel k .cb).scanChannel k .tb).scanChannel k .cm).scanChannel_measured k .tm)
  rw [h3.meas] at h4
  have h5 := h4.trans (((((s.scanChannel k .cb).scanChannel k .tb).scanChannel k .cm).scanChannel k .tm).scanChannel_measured k .lv)
  rw [h4.meas] at h5
  exact h5

/-- The channels' records and the derived set of a scan. -/
def Measurement.scanned (m : Measurement) (k : Codes) (c : EffConfig) : Measurement :=
  { m.taken k with derived := (m.taken k).derive c, scanClock := some 0 }

theorem Measurement.channel_scanned (m : Measurement) (k : Codes) (cfg : EffConfig) (c : Chan) :
    (m.scanned k cfg).channel c = (m.channel c).take (scanCode k c) := by
  have hsame : (m.scanned k cfg).channel c = (m.taken k).channel c := by cases c <;> rfl
  rw [hsame, Measurement.channel_taken]

theorem Measurement.derived_scanned (m : Measurement) (k : Codes) (cfg : EffConfig) :
    (m.scanned k cfg).derived = (m.scanned k cfg).derive cfg := by
  rw [Measurement.scanned]
  generalize m.taken k = n
  rfl

/-- A scan changes the measurement unit's records, event flags and alarms alone. -/
theorem State.takeScan_measured (s : State) (k : Codes) : Measured (s.meas.scanned k s.station.cfg) s (s.takeScan k) := by
  have hchannels := s.scanChannels_measured k
  have hderived := (s.scanChannels k).replaceDerived_measured
  have hst : (s.scanChannels k).station = s.station := by
    obtain ⟨f, a, h⟩ := hchannels
    rw [h]
  rw [hchannels.meas, hst] at hderived
  obtain ⟨f, a, h⟩ := hchannels.trans hderived
  refine ⟨f, a, ?_⟩
  have htake : s.takeScan k = { (s.scanChannels k).replaceDerived with
    meas := { (s.scanChannels k).replaceDerived.meas with scanClock := some 0 } } := by
    rw [State.takeScan, State.scanChannels]
  rw [htake, h, Measurement.scanned]

theorem exec_scan_of_due {k : Codes} (hh : s.held = none) (hw : s.station.state.working = true)
    (hr : reached 1000 s.meas.scanClock = true) :
    exec (.scan k) s = .next (State.finish s ((s.takeScan k).scanDemand).prebleedTest) := by
  have hdue : s.scanDue = true := by
    rw [State.scanDue, hw]
    exact hr
  exact (exec_scan k s).trans (event_of_due hh hdue)

/-- What the demand unit and the sequencer leave of a scan, to the end of its event. -/
theorem finish_scan_steady (s : State) (k : Codes) :
    let t := State.finish s ((s.takeScan k).scanDemand).prebleedTest
    t.now = s.now ∧ t.held = s.held ∧ t.station = s.station ∧ t.meas = s.meas.scanned k s.station.cfg ∧
      t.peers = s.peers ∧ t.pending = s.pending := by
  obtain ⟨f, a, he⟩ := s.takeScan_measured k
  obtain ⟨h1, h2, h3, h4, h5, h6⟩ := State.finish_steady s ((s.takeScan k).scanDemand).prebleedTest
  obtain ⟨k1, k2, k3, k4, k5, k6⟩ := State.prebleedTest_steady (s.takeScan k).scanDemand
  obtain ⟨j1, j2, j3, j4, j5, j6⟩ := State.scanDemand_steady (s.takeScan k)
  exact ⟨by rw [h1, k1, j1, he], by rw [h2, k2, j2, he], by rw [h3, k3, j3, he], by rw [h4, k4, j4, he],
    by rw [h5, k5, j5, he], by rw [h6, k6, j6, he]⟩

/-- Settles O11: the codes are taken, the derived set replaced, and the notices that follow leave the rest. -/
theorem scanTakesCodesAndDerives : Obligations.ScanTakesCodesAndDerives := by
  unfold Obligations.ScanTakesCodesAndDerives
  intro k c s hh hw hr
  obtain ⟨f, a, he⟩ := s.takeScan_measured k
  have hconf : Confined (s.takeScan k) (((s.takeScan k).scanDemand).prebleedTest.tested s) :=
    ((State.scanDemand_confined _).trans (State.prebleedTest_confined _)).trans (State.tested_confined _ s)
  have hcounters : CountersKept s ((s.takeScan k).scanDemand).prebleedTest [.reportsSuperseded] := .of_counters (by
    rw [((State.scanDemand_confined _).trans (State.prebleedTest_confined _)).counters, he])
  obtain ⟨hnow, hheld, hst, hme, hpe, hpend⟩ := finish_scan_steady s k
  have hexec := exec_scan_of_due (k := k) hh hw hr
  generalize ((s.takeScan k).scanDemand).prebleedTest = v at *
  have htake : (State.finish s v).meas.channel c = (s.meas.channel c).take (scanCode k c) := by
    rw [hme, Measurement.channel_scanned]
  have hmask : s.stats.mask = (s.takeScan k).stats.mask := by rw [he]
  have hhist : s.stats.histogram = (s.takeScan k).stats.histogram := by rw [he]
  have hfeed : (s.takeScan k).feed = s.feed := by rw [he]
  have hport : (s.takeScan k).port = s.port := by rw [he]
  have hline : (s.takeScan k).line = s.line := by rw [he]
  refine ⟨_, hexec, htake, fun hoff => ?_, ?_, ?_, linesFollow_finish _ _, hst, hnow, hheld.trans hh, hpe, hpend, ?_, ?_, ?_,
    ?_, ?_, hcounters.trans (finish_countersKept s v (by decide))⟩
  · rw [htake, ChannelRec.take, hoff]
  · rw [hme]
    exact Measurement.derived_scanned _ _ _
  · rw [hme]
    rfl
  · rw [finish_feed, ← hfeed]
    exact hconf.feed
  · rw [finish_eq]
    simp only [hconf.port, hport]
  · rw [finish_eq]
    simp only [hconf.line, hline]
  · rw [finish_mask, hmask]
    exact hconf.mask
  · rw [finish_histogram, hhist]
    exact hconf.histogram

end

end Sys2Proof.Machine
end

section
/-! SUPPORT. What a need notice makes of a valve pool's engine, in one function, and what a recomputation hands on (R32, R40,
R48, R49, R52). -/

namespace Sys2Proof.Machine
open Sys2Proof

set_option Elab.async false

section
variable {b s t u : State} {v : Valve} {k : Nat} {n : Bool}

/-! ## The engine after a notice -/

/-- A valve pool's engine after a notice of its need and base. -/
def State.engineTaken (s : State) (v : Valve) (n : Bool) (k : Nat) : Engine :=
  let e := s.engine v.pool
  let m := e.noticed n k
  if n = e.need then m
  else if n then
    match e.state with
    | .rest => if s.inRun then m.justAsking s.now else m
    | .holding => { m with releaseDeferred := false }
    | .releasing => { m with reask := !e.lock }
    | .asking | .confirming | .stuck | .locked => m
  else
    match e.state with
    | .asking | .confirming => { m.atRest with grantWait := none }
    | .holding =>
      if s.minimumRunOver e then (if (s.valve v).seenClosed then (m.letGo false).atRest else m.letGo false)
      else { m with releaseDeferred := true }
    | .releasing => { m with reask := false }
    | .rest | .stuck | .locked => m

/-- R49: a notice ends a valve pool's hold. -/
def State.holdEnds (s : State) (v : Valve) (n : Bool) : Prop :=
  n = false ∧ (s.engine v.pool).need = true ∧ (s.engine v.pool).state = .holding ∧
    s.minimumRunOver (s.engine v.pool) = true

theorem State.needNotice_taken (s : State) (v : Valve) (n : Bool) (k : Nat) :
    (¬ s.holdEnds v n → s.needNotice v.pool n k = s.setEngine v.pool (s.engineTaken v n k)) ∧
    (s.holdEnds v n → s.needNotice v.pool n k = s.heldTo v (s.engineTaken v n k)) := by
  by_cases hsame : n = (s.engine v.pool).need
  · have ht : s.engineTaken v n k = (s.engine v.pool).noticed n k := if_pos hsame
    refine ⟨fun _ => by rw [State.needNotice_of_same k hsame.symm, ht]; rfl, fun h => ?_⟩
    obtain ⟨h1, h2, -⟩ := h
    rw [h1, h2] at hsame
    cases hsame
  cases n with
  | true =>
    have hn : (s.engine v.pool).need = false := Bool.not_eq_true _ |>.mp (fun h => hsame h.symm)
    refine ⟨fun _ => ?_, fun h => by cases h.1⟩
    simp only [State.engineTaken, if_neg hsame, if_true]
    cases hs : (s.engine v.pool).state with
    | rest => exact State.needNotice_of_rest hs hn k
    | holding => exact State.needNotice_rises_holding hs hn
    | releasing => exact State.needNotice_rises_releasing hs hn
    | asking => exact State.needNotice_rises_other (.inl hs) hn
    | confirming => exact State.needNotice_rises_other (.inr (.inl hs)) hn
    | stuck => exact State.needNotice_rises_other (.inr (.inr (.inl hs))) hn
    | locked => exact State.needNotice_rises_other (.inr (.inr (.inr hs))) hn
  | false =>
    have hn : (s.engine v.pool).need = true := Bool.not_eq_false _ |>.mp (fun h => hsame h.symm)
    simp only [State.engineTaken, if_neg hsame, Bool.false_eq_true, if_false]
    refine ⟨fun hno => ?_, fun ⟨_, _, hs, hm⟩ => ?_⟩
    · cases hs : (s.engine v.pool).state with
      | rest => exact State.needNotice_falls_idle (.inl hs) hn
      | stuck => exact State.needNotice_falls_idle (.inr (.inl hs)) hn
      | locked => exact State.needNotice_falls_idle (.inr (.inr hs)) hn
      | asking => exact State.needNotice_falls_waiting (.inl hs) hn
      | confirming => exact State.needNotice_falls_waiting (.inr hs) hn
      | releasing => exact State.needNotice_falls_releasing hs hn
      | holding =>
        have hm : s.minimumRunOver (s.engine v.pool) = false :=
          Bool.not_eq_true _ |>.mp (fun h => hno ⟨rfl, hn, hs, h⟩)
        simp only [hm, Bool.false_eq_true, if_false]
        exact State.needNotice_falls_deferred hs hn hm
    · rw [State.needNotice_falls_released hs hn hm, State.letGoTo_eq]
      simp only [hs, hm, if_true]

theorem State.needNotice_engine (s : State) (v : Valve) (n : Bool) (k : Nat) :
    (s.needNotice v.pool n k).engine v.pool = s.engineTaken v n k := by
  obtain ⟨h1, h2⟩ := s.needNotice_taken v n k
  by_cases h : s.holdEnds v n
  · rw [h2 h, State.engine_heldTo]
  · rw [h1 h, State.engine_setEngine]

theorem State.engineTaken_noticed (s : State) (v : Valve) (n : Bool) (k : Nat) :
    (s.engineTaken v n k).need = n ∧ (s.engineTaken v n k).base = k := by
  simp only [State.engineTaken]
  (repeat' split) <;> exact ⟨rfl, rfl⟩

/-- An engine that the event leaves as it was has taken no notice. -/
theorem NeedTaken.of_same (h : t.engine v.pool = s.engine v.pool) : NeedTaken s t v := by
  rw [NeedTaken, h]
  refine ⟨fun _ => rfl, fun h1 h2 => ?_, fun h1 h2 => ?_⟩
  · cases h1.symm.trans h2
  · cases h1.symm.trans h2

/-- R40, R48, R49, R52: an engine that has taken one notice in the event. -/
theorem NeedTaken.of_taken (he : t.engine v.pool = s.engineTaken v n k) (hv : s.holdEnds v n → t.valve v =
    if (s.valve v).seenClosed then (s.valve v).shut else (s.valve v).closing) : NeedTaken s t v := by
  obtain ⟨hneed, hbase⟩ := s.engineTaken_noticed v n k
  have hm : { s.engine v.pool with need := (t.engine v.pool).need, base := (t.engine v.pool).base } =
      (s.engine v.pool).noticed n k := by
    rw [he, hneed, hbase]
    rfl
  rw [NeedTaken, hm, he, hneed]
  refine ⟨fun hsame => if_pos hsame, fun h1 h2 => ?_, fun h1 h2 => ?_⟩
  · subst h2
    have hne : ¬ true = (s.engine v.pool).need := by rw [h1]; nofun
    simp only [State.engineTaken, if_neg hne, if_true]
    refine ⟨fun hs => by simp only [hs], fun hs => by simp only [hs], fun hs => by simp only [hs], fun hs => ?_⟩
    rcases hs with hs | hs | hs | hs <;> simp only [hs]
  · subst h2
    have hne : ¬ false = (s.engine v.pool).need := by rw [h1]; nofun
    simp only [State.engineTaken, if_neg hne, Bool.false_eq_true, if_false]
    refine ⟨fun hs => ?_, fun hs h hh hlt => ?_, fun hs h hh hle => ?_, fun hs => by simp only [hs], fun hs => ?_⟩
    · rcases hs with hs | hs <;> simp only [hs]
    · have hmin : s.minimumRunOver (s.engine v.pool) = false := by
        simp only [State.minimumRunOver, Option.mem_def.mp hh]
        exact decide_eq_false (Nat.not_le.mpr hlt)
      simp only [hs, hmin, Bool.false_eq_true, if_false]
    · have hmin : s.minimumRunOver (s.engine v.pool) = true := by
        simp only [State.minimumRunOver, Option.mem_def.mp hh]
        exact decide_eq_true hle
      simp only [hs, hmin, if_true]
      exact ⟨trivial, hv ⟨rfl, h1, hs, hmin⟩⟩
    · rcases hs with hs | hs | hs <;> simp only [hs]

end

end Sys2Proof.Machine
end

section
/-! SUPPORT. What the notices of the sequencer keep of a demand handed on (R19, R31, R32): the demand shown is the one of the
derived set, the BIOCIDE base the cycle's, and the engine of DISCHARGE has both. -/

namespace Sys2Proof.Machine
open Sys2Proof

set_option Elab.async false

section
variable {b s t u : State}

/-- DISCHARGE demand and base are those of the table of section 2.3. -/
def DemandShown (s : State) : Prop :=
  (s.demand.dDemand, s.demand.dBase) = dischargeDemand s.station.cfg s.meas.derived s.demand

/-- The BIOCIDE base is the cycle's (R31). -/
def BaseShown (s : State) : Prop := s.demand.bBase = biocideBase s.bio

/-- The engine of DISCHARGE has the need and the base handed on (R32). -/
def HandedOn (s : State) : Prop :=
  (s.engine .discharge).need = s.demand.dDemand ∧ (s.engine .discharge).base = s.demand.dBase

/-- No entry of a kind is active. -/
def Inactive (k : AlarmKind) (s : State) : Prop := ∀ e ∈ s.stats.alarms, e.kind = k → e.active = false

/-! ## Steps on DISCHARGE alone -/

/-- A step that recomputes or releases DISCHARGE, and does nothing else. -/
structure Eased (s t : State) : Prop where
  demand : t.demand = { s.demand with dDemand := t.demand.dDemand, dBase := t.demand.dBase }
  bio : t.bio = s.bio
  station : t.station = s.station
  meas : t.meas = s.meas
  stats : t.stats = s.stats
  supply : t.claim.supply = s.claim.supply
  makeup : t.out.makeup = s.out.makeup
  handed : HandedOn s → HandedOn t

theorem Eased.trans (h : Eased s t) (k : Eased t u) : Eased s u :=
  ⟨by rw [k.demand, h.demand], k.bio.trans h.bio, k.station.trans h.station, k.meas.trans h.meas, k.stats.trans h.stats,
    k.supply.trans h.supply, k.makeup.trans h.makeup, fun hs => k.handed (h.handed hs)⟩

theorem State.recomputeDischarge_shown (s : State) : DemandShown s.recomputeDischarge := by
  obtain ⟨-, -, hst, hme, -⟩ := s.recomputeDischarge_steady
  rw [DemandShown, hst, hme, s.recomputeDischarge_demand]
  rfl

theorem State.recomputeDischarge_eased (s : State) : Eased s s.recomputeDischarge := by
  obtain ⟨-, -, hst, hme, -⟩ := s.recomputeDischarge_steady
  have hspared : Spared .supply s s.recomputeDischarge := State.request_spared s s.demand.force s.demand.suppress (by decide)
  refine ⟨?_, s.recomputeDischarge_frame.1, hst, hme, s.recomputeDischarge_stats, hspared.engine, hspared.valve .makeup rfl,
    fun hs => ?_⟩
  · rw [s.recomputeDischarge_demand]
  · rw [HandedOn, s.recomputeDischarge_demand]
    simp only [State.recomputeDischarge]
    generalize dischargeDemand s.station.cfg s.meas.derived s.demand = r
    split
    · next h =>
      rw [Bool.and_eq_true, beq_iff_eq, beq_iff_eq] at h
      exact ⟨hs.1.trans h.1.symm, hs.2.trans h.2.symm⟩
    · have hengine := State.needNotice_engine
        ({ s with demand := { s.demand with dDemand := r.1, dBase := r.2 } }) .blowdown r.1 r.2
      obtain ⟨h1, h2⟩ := State.engineTaken_noticed
        ({ s with demand := { s.demand with dDemand := r.1, dBase := r.2 } }) .blowdown r.1 r.2
      rw [← hengine] at h1 h2
      exact ⟨h1, h2⟩

theorem State.forcedRelease_eased (s : State) : Eased s (s.forcedRelease .discharge) := by
  rcases (s.engine .discharge).state.passive_or with hp | hw | hh
  · rw [State.forcedRelease_of_passive hp]
    exact ⟨rfl, rfl, rfl, rfl, rfl, rfl, rfl, id⟩
  · rw [State.forcedRelease_of_waiting hw, State.giveUpWaiting_eq]
    refine ⟨rfl, rfl, rfl, rfl, rfl, rfl, rfl, fun hs => ?_⟩
    obtain ⟨h1, h2⟩ := hs
    rw [HandedOn, State.engine_setEngine]
    split
    · exact ⟨h1, h2⟩
    · exact ⟨h1, h2⟩
  · have hrelease : s.forcedRelease .discharge = s.release .blowdown false false false :=
      State.forcedRelease_of_holding (v := .blowdown) hh
    rw [hrelease, State.release_letGo_heldTo]
    refine ⟨rfl, rfl, rfl, rfl, rfl, rfl, rfl, fun hs => ?_⟩
    obtain ⟨h1, h2⟩ := hs
    have hengine (e : Engine) : (s.heldTo .blowdown e).engine .discharge = e := s.engine_heldTo .blowdown e
    have hreleased (e : Engine) : (e.released s).base = e.base := by
      simp only [Engine.released]
      (repeat' split) <;> rfl
    rw [HandedOn, hengine]
    split
    · exact ⟨(Engine.released_need _ _).trans h1, (hreleased _).trans h2⟩
    · exact ⟨h1, h2⟩

theorem State.forcedRelease_demand (s : State) : (s.forcedRelease .discharge).demand = s.demand := by
  rcases (s.engine .discharge).state.passive_or with hp | hw | hh
  · rw [State.forcedRelease_of_passive hp]
  · rw [State.forcedRelease_of_waiting hw, State.giveUpWaiting_eq]
    rfl
  · have hrelease : s.forcedRelease .discharge = s.release .blowdown false false false :=
      State.forcedRelease_of_holding (v := .blowdown) hh
    rw [hrelease, State.release_letGo_heldTo]
    rfl

/-! ## Steps of the sequencer -/

/-- What a step of the sequencer keeps of a demand handed on. -/
structure Follows (s t : State) : Prop where
  marks : t.demand = { s.demand with
    dDemand := t.demand.dDemand, dBase := t.demand.dBase, bBase := t.demand.bBase, force := t.demand.force
    suppress := t.demand.suppress }
  meas : t.meas = s.meas
  shown : DemandShown s → DemandShown t
  based : BaseShown s → BaseShown t
  handed : HandedOn s → HandedOn t
  supply : t.claim.supply = s.claim.supply
  makeup : t.out.makeup = s.out.makeup
  flags : ∀ e, e ≠ .biocideAborted → t.stats.flag e = s.stats.flag e
  inactive : ∀ k, k ≠ .biocideAborted → Inactive k s → Inactive k t

theorem Follows.refl (s : State) : Follows s s := ⟨rfl, rfl, id, id, id, rfl, rfl, fun _ _ => rfl, fun _ _ => id⟩

theorem Follows.trans (h : Follows s t) (k : Follows t u) : Follows s u :=
  ⟨by rw [k.marks, h.marks], k.meas.trans h.meas, fun hs => k.shown (h.shown hs), fun hs => k.based (h.based hs),
    fun hs => k.handed (h.handed hs), k.supply.trans h.supply, k.makeup.trans h.makeup,
    fun e he => (k.flags e he).trans (h.flags e he), fun a ha hs => k.inactive a ha (h.inactive a ha hs)⟩

theorem Inactive.of_alarms {k : AlarmKind} (h : Inactive k s) (ha : t.stats.alarms = s.stats.alarms) : Inactive k t := by
  rw [Inactive, ha]
  exact h

/-- R144: the entry to CLOSING. -/
theorem State.enterClosing_follows (s : State) : Follows s s.enterClosing := by
  obtain ⟨k, e, he, -, -, hk⟩ := s.enterClosing_eq
  have hfollows (x : State) (hx : Eased (s.closingBegun k e) x) (hshown : DemandShown x) : Follows s x := by
    refine ⟨by rw [hx.demand]; rfl, hx.meas, fun _ => hshown, fun _ => ?_, fun hs => hx.handed hs, hx.supply, hx.makeup,
      fun f _ => by rw [hx.stats]; rfl, fun a _ hs => hs.of_alarms (by rw [hx.stats]; rfl)⟩
    rw [BaseShown, hx.demand, hx.bio]
    exact hk
  have hkept (x : State) (hx : DemandShown x) : DemandShown (x.forcedRelease .discharge) := by
    have hr := x.forcedRelease_eased
    rw [DemandShown, hr.station, hr.meas, x.forcedRelease_demand]
    exact hx
  rw [he]
  split
  · exact hfollows _ ((State.forcedRelease_eased _).trans (State.recomputeDischarge_eased _)) (State.recomputeDischarge_shown _)
  · exact hfollows _ ((State.recomputeDischarge_eased _).trans (State.forcedRelease_eased _))
      (hkept _ (State.recomputeDischarge_shown _))

/-- R146: the entry to DOSING. -/
theorem State.enterDosing_follows (s : State) : Follows s s.enterDosing := by
  obtain ⟨k, e, he, -, -, hk⟩ := s.enterDosing_eq
  rw [he]
  refine ⟨rfl, rfl, id, fun _ => ?_, id, rfl, rfl, fun _ _ => rfl, fun _ _ => id⟩
  exact hk

theorem Inactive.occur {k j : AlarmKind} (h : Inactive k s) (hk : k ≠ j) : Inactive k (s.occur j) := by
  intro e he hkind
  rw [State.occur_alarms] at he
  by_cases hm : j ∈ s.stats.alarms.map AlarmEntry.kind
  · rw [latchAlarm_of_mem hm] at he
    obtain ⟨x, hx, rfl⟩ := List.mem_map.mp he
    by_cases hj : x.kind = j
    · rw [AlarmEntry.onKind_self hj] at hkind
      exact absurd (hkind.symm.trans hj) hk
    · rw [AlarmEntry.onKind_other hj] at hkind ⊢
      exact h x hx hkind
  · rw [latchAlarm_of_not_mem hm, List.mem_append, List.mem_singleton] at he
    rcases he with he | rfl
    · exact h e he hkind
    · exact absurd hkind.symm hk

theorem Inactive.calm {k : AlarmKind} (h : Inactive k s) (j : AlarmKind) : Inactive k (s.calm j) := by
  intro e he hkind
  rw [State.calm_alarms] at he
  obtain ⟨x, hx, rfl⟩ := List.mem_map.mp he
  by_cases hj : x.kind = j
  · rw [if_pos (beq_iff_eq.mpr hj)]
  · rw [if_neg (fun hb => hj (beq_iff_eq.mp hb))] at hkind ⊢
    exact h x hx hkind

theorem State.calm_inactive (s : State) (k : AlarmKind) : Inactive k (s.calm k) := by
  intro e he hkind
  rw [State.calm_alarms] at he
  obtain ⟨x, hx, rfl⟩ := List.mem_map.mp he
  by_cases hj : x.kind = k
  · rw [if_pos (beq_iff_eq.mpr hj)]
  · rw [if_neg (fun hb => hj (beq_iff_eq.mp hb))] at hkind
    exact absurd hkind hj

/-- R149: an abort. -/
theorem State.abortCycle_follows (s : State) : Follows s s.abortCycle := by
  obtain ⟨hnow, -, hst, hme, -⟩ := s.abortCycle_steady
  have hspared := s.abortCycle_spared (p := .supply) (by decide) (by decide)
  generalize hw : (if s.bio.cycle == .dosing then s.pump false else s : State).releaseBiocide = w
  have hdemand : w.demand = s.demand := by
    rw [← hw, (State.releaseBiocide_claimOnly _).1]
    split <;> rfl
  have hdischarge : w.engine .discharge = s.engine .discharge := by
    rw [← hw, State.releaseBiocide_discharge]
    split <;> rfl
  generalize hx : ((({ w with bio := { w.bio with
    cycle := .idle, interval := some 3600000, overdue := none, phase := none,
    abortMark := true } } : State).raise .biocideAborted).occur .biocideAborted) = x
  have hxd : x.demand = s.demand := by rw [← hx]; exact hdemand
  have hxe : x.engine .discharge = s.engine .discharge := by rw [← hx]; exact hdischarge
  have habort : s.abortCycle = ({ x.cycleNotice with demand := { x.cycleNotice.demand with
      force := false, suppress := false } } : State).recomputeDischarge := by
    rw [State.abortCycle_eq, hw, ← hx]
    rfl
  obtain ⟨e, he, -, -⟩ := State.cycleNotice_ends (s := x) (by rw [← hx]; nofun)
  have hnotice : x.cycleNotice.demand = { s.demand with bBase := biocideBase x.bio } := by
    rw [he, ← hxd]
    rfl
  have heased := State.recomputeDischarge_eased ({ x.cycleNotice with demand := { x.cycleNotice.demand with
    force := false, suppress := false } } : State)
  have hshown := State.recomputeDischarge_shown ({ x.cycleNotice with demand := { x.cycleNotice.demand with
    force := false, suppress := false } } : State)
  rw [← habort] at heased hshown
  refine ⟨?_, hme, fun _ => hshown, fun _ => ?_, fun hs => heased.handed ?_, hspared.engine, hspared.valve .makeup rfl,
    fun f hf => ?_, fun k hk hs => ?_⟩
  · rw [heased.demand, hnotice]
  · rw [BaseShown, heased.demand, heased.bio, hnotice, he]
    rfl
  · rw [HandedOn, hnotice]
    have hengine : (({ x.cycleNotice with demand := { x.cycleNotice.demand with
        force := false, suppress := false } } : State).engine .discharge) = s.engine .discharge :=
      (x.cycleNotice_engine_ne (by decide)).trans hxe
    obtain ⟨h1, h2⟩ := hs
    exact ⟨(congrArg Engine.need hengine).trans h1, (congrArg Engine.base hengine).trans h2⟩
  · rw [State.abortCycle_stats]
    refine (s.stats.raise_flag .biocideAborted f).trans ?_
    rw [beq_false_of_ne (Ne.symm hf), Bool.or_false]
  · exact (Inactive.occur (s := s.raise .biocideAborted) (hs.of_alarms rfl) hk).of_alarms (by rw [State.abortCycle_stats])

/-- R145: the test at an event's end. -/
theorem State.tested_follows (s b : State) : Follows s (s.tested b) := by
  simp only [State.tested]
  split
  · simp only [State.closingTest]
    cases (s.engine .discharge).state with
    | rest | locked => exact s.enterDosing_follows
    | stuck => exact s.abortCycle_follows
    | asking | confirming | holding | releasing => exact .refl s
  · exact .refl s

/-- R142: the test of a scan. -/
theorem State.prebleedTest_follows (s : State) : Follows s s.prebleedTest := by
  simp only [State.prebleedTest]
  split
  · exact s.enterClosing_follows
  · exact .refl s

end

end Sys2Proof.Machine
end

section
/-! SUPPORT. What a scan tells (R6, R14): the probes it finds recovered and the cycles limit. -/

namespace Sys2Proof.Machine
open Sys2Proof

set_option Elab.async false

section
variable {b s t u : State} {k : Codes} {c : Chan}

/-! ## A channel's recovery (R6) -/

/-- R6: a channel's code lets it leave FAULT. -/
def Measurement.recovers (m : Measurement) (k : Codes) (c : Chan) : Bool :=
  (m.channel c).state == .fault && ((m.channel c).take (scanCode k c)).state == .good

theorem State.scanChannel_eq (s : State) (k : Codes) (c : Chan) : s.scanChannel k c =
    if s.meas.recovers k c then ({ s with meas := s.meas.takeChannel k c } : State).probeRecovered
    else { s with meas := s.meas.takeChannel k c } := rfl

theorem State.probeRecovered_flag (s : State) (e : Event) :
    s.probeRecovered.stats.flag e = (s.stats.flag e || Event.probeRecovered == e) := by
  rw [← s.stats.raise_flag .probeRecovered e]
  simp only [State.probeRecovered]
  split <;> rfl

theorem State.scanChannel_flag (s : State) (k : Codes) (c : Chan) (e : Event) :
    (s.scanChannel k c).stats.flag e = (s.stats.flag e || (s.meas.recovers k c && Event.probeRecovered == e)) := by
  rw [State.scanChannel_eq]
  split
  · next h => rw [State.probeRecovered_flag, h, Bool.true_and]
  · next h => rw [Bool.not_eq_true _ |>.mp h, Bool.false_and, Bool.or_false]

theorem Measurement.recovers_takeChannel (m : Measurement) (k : Codes) {c d : Chan} (h : d ≠ c) :
    (m.takeChannel k c).recovers k d = m.recovers k d := by
  rw [Measurement.recovers, Measurement.channel_takeChannel_ne _ _ h]
  rfl

theorem State.scanChannel_recovers (s : State) {d : Chan} (h : d ≠ c) :
    (s.scanChannel k c).meas.recovers k d = s.meas.recovers k d := by
  rw [(s.scanChannel_measured k c).meas, Measurement.recovers_takeChannel _ _ h]

theorem State.scanChannels_flag (s : State) (k : Codes) (e : Event) : (s.scanChannels k).stats.flag e =
    (s.stats.flag e || ((s.meas.recovers k .cb || s.meas.recovers k .tb || s.meas.recovers k .cm || s.meas.recovers k .tm ||
      s.meas.recovers k .lv) && Event.probeRecovered == e)) := by
  have hne : Chan.tb ≠ .cb ∧ Chan.cm ≠ .cb ∧ Chan.cm ≠ .tb ∧ Chan.tm ≠ .cb ∧ Chan.tm ≠ .tb ∧ Chan.tm ≠ .cm ∧
    Chan.lv ≠ .cb ∧ Chan.lv ≠ .tb ∧ Chan.lv ≠ .cm ∧ Chan.lv ≠ .tm := by decide
  obtain ⟨h1, h2, h3, h4, h5, h6, h7, h8, h9, h10⟩ := hne
  simp only [State.scanChannels, State.scanChannel_flag, State.scanChannel_recovers, h1, h2, h3, h4, h5, h6, h7, h8, h9, h10,
    ne_eq, not_false_eq_true]
  cases Event.probeRecovered == e with
  | true => simp only [Bool.and_true, Bool.or_assoc]
  | false => simp only [Bool.and_false, Bool.or_false]

theorem State.takeScan_stats (s : State) (k : Codes) : (s.takeScan k).stats =
    if ((s.meas.taken k).derive s.station.cfg).cyclesLimit && !s.meas.derived.cyclesLimit
    then (s.scanChannels k).stats.raise .cyclesLimit else (s.scanChannels k).stats := by
  have hmeas := (s.scanChannels_measured k).meas
  have hst : (s.scanChannels k).station = s.station := by
    obtain ⟨f, a, h⟩ := s.scanChannels_measured k
    rw [h]
  have hderived (x : State) : x.replaceDerived.stats =
      if (x.meas.derive x.station.cfg).cyclesLimit && !x.meas.derived.cyclesLimit then x.stats.raise .cyclesLimit else x.stats := by
    rw [State.replaceDerived]
    dsimp only
    split <;> rfl
  have htaken : (s.meas.taken k).derived = s.meas.derived := by
    have htake (m : Measurement) (c : Chan) : (m.takeChannel k c).derived = m.derived := by cases c <;> rfl
    simp only [Measurement.taken, htake]
  have htake : (s.takeScan k).stats = (s.scanChannels k).replaceDerived.stats := by
    rw [State.takeScan, State.scanChannels]
  rw [htake, hderived, hmeas, hst, htaken]

theorem State.takeScan_flag (s : State) (k : Codes) (e : Event) : (s.takeScan k).stats.flag e =
    (s.stats.flag e || ((s.meas.recovers k .cb || s.meas.recovers k .tb || s.meas.recovers k .cm || s.meas.recovers k .tm ||
      s.meas.recovers k .lv) && Event.probeRecovered == e) ||
      (((s.meas.taken k).derive s.station.cfg).cyclesLimit && !s.meas.derived.cyclesLimit && Event.cyclesLimit == e)) := by
  rw [State.takeScan_stats, ← State.scanChannels_flag]
  split
  · next h => rw [Stats.raise_flag, h, Bool.true_and]
  · next h => rw [Bool.not_eq_true _ |>.mp h, Bool.false_and, Bool.or_false]

/-! ## The end of the PROBE FAULT condition (R6) -/

/-- Where a step ends the last channel's fault, it ends the alarm's activity; and it begins none. -/
structure ProbesTold (s t : State) : Prop where
  ends : s.meas.probeFault = true → t.meas.probeFault = false → Inactive .probeFault t
  keeps : Inactive .probeFault s → Inactive .probeFault t

theorem ProbesTold.trans (h : ProbesTold s t) (k : ProbesTold t u) : ProbesTold s u := by
  refine ⟨fun hs hu => ?_, fun hs => k.keeps (h.keeps hs)⟩
  cases ht : t.meas.probeFault with
  | true => exact k.ends ht hu
  | false => exact k.keeps (h.ends hs ht)

/-- R6: a code takes a channel in FAULT to GOOD or leaves it there. -/
theorem ChannelRec.take_of_fault {r : ChannelRec} (h : r.state = .fault) (code : Nat) :
    (r.take code).state = .good ∨ (r.take code).state = .fault := by
  simp only [ChannelRec.take, h]
  split
  · exact .inr rfl
  · split
    · exact .inl rfl
    · exact .inr rfl

theorem State.scanChannel_told (s : State) (k : Codes) (c : Chan) : ProbesTold s (s.scanChannel k c) := by
  have hmeas := (s.scanChannel_measured k c).meas
  rw [State.scanChannel_eq] at hmeas ⊢
  split
  · next h =>
    rw [if_pos h] at hmeas
    have hrecovered (u : State) : (u.meas.probeFault = false → Inactive .probeFault u.probeRecovered) ∧
        (Inactive .probeFault u → Inactive .probeFault u.probeRecovered) := by
      rw [State.probeRecovered]
      split
      · next hf => exact ⟨fun hu => absurd (hu.symm.trans hf) Bool.false_ne_true, fun hu => hu.of_alarms rfl⟩
      · exact ⟨fun _ => State.calm_inactive _ _, fun hu => Inactive.calm (s := u.raise .probeRecovered) (hu.of_alarms rfl) _⟩
    obtain ⟨h1, h2⟩ := hrecovered { s with meas := s.meas.takeChannel k c }
    exact ⟨fun _ ht => h1 (by rw [hmeas] at ht; exact ht), fun hs => h2 (hs.of_alarms rfl)⟩
  · next h =>
    refine ⟨fun hs ht => ?_, fun hs => hs.of_alarms rfl⟩
    obtain ⟨d, hd⟩ := (Measurement.probeFault_iff _).mp hs
    refine absurd ((Measurement.probeFault_iff _).mpr ⟨d, ?_⟩) (Bool.eq_false_iff.mp ht)
    by_cases hdc : d = c
    · subst hdc
      refine (congrArg ChannelRec.state (Measurement.channel_takeChannel_self s.meas k d)).trans ?_
      rcases ChannelRec.take_of_fault hd (scanCode k d) with hg | hf
      · exact absurd (by rw [Measurement.recovers, hd, hg]; rfl) h
      · exact hf
    · exact (congrArg ChannelRec.state (Measurement.channel_takeChannel_ne s.meas k hdc)).trans hd

theorem State.scanChannels_told (s : State) (k : Codes) : ProbesTold s (s.scanChannels k) := by
  rw [State.scanChannels]
  exact ((((s.scanChannel_told k .cb).trans (State.scanChannel_told _ k .tb)).trans (State.scanChannel_told _ k .cm)).trans
    (State.scanChannel_told _ k .tm)).trans (State.scanChannel_told _ k .lv)

theorem State.takeScan_alarms (s : State) (k : Codes) : (s.takeScan k).stats.alarms = (s.scanChannels k).stats.alarms := by
  rw [State.takeScan_stats]
  generalize (s.scanChannels k).stats = x
  split
  · exact rfl
  · exact rfl

theorem State.takeScan_told (hs : s.meas.probeFault = true)
    (hno : ∀ c, ((s.meas.channel c).take (scanCode k c)).state ≠ .fault) : Inactive .probeFault (s.takeScan k) := by
  have hnone : (s.scanChannels k).meas.probeFault = false := by
    refine Bool.eq_false_iff.mpr (fun hf => ?_)
    obtain ⟨d, hd⟩ := (Measurement.probeFault_iff _).mp hf
    rw [(s.scanChannels_measured k).meas, Measurement.channel_taken] at hd
    exact hno d hd
  exact ((s.scanChannels_told k).ends hs hnone).of_alarms (s.takeScan_alarms k)

end

end Sys2Proof.Machine
end

section
/-! SUPPORT. What a scan-complete notice hands on (R19, R31, R32): one notice to each valve pool's engine. -/

namespace Sys2Proof.Machine
open Sys2Proof

set_option Elab.async false

section
variable {b s t u : State} {v : Valve} {k : Nat} {n : Bool}

/-! ## One notice to one engine -/

/-- R32: the demand unit's own record changes, and a valve pool's engine takes at most one notice. -/
inductive Handed (v : Valve) (s : State) : State → Prop
  | nothing : Handed v s s
  | kept (q : Demand) (n : Bool) (k : Nat) (h : ¬ s.holdEnds v n) :
      Handed v s (({ s with demand := q } : State).setEngine v.pool (s.engineTaken v n k))
  | ended (q : Demand) (n : Bool) (k : Nat) (h : s.holdEnds v n) :
      Handed v s (({ s with demand := q } : State).heldTo v (s.engineTaken v n k))

theorem State.needNotice_handed (s : State) (q : Demand) (v : Valve) (n : Bool) (k : Nat) :
    Handed v s (({ s with demand := q } : State).needNotice v.pool n k) := by
  obtain ⟨h1, h2⟩ := ({ s with demand := q } : State).needNotice_taken v n k
  by_cases h : s.holdEnds v n
  · rw [h2 h]
    exact .ended q n k h
  · rw [h1 h]
    exact .kept q n k h

theorem State.recomputeDischarge_handed (s : State) : Handed .blowdown s s.recomputeDischarge := by
  simp only [State.recomputeDischarge]
  split
  · exact .nothing
  · exact s.needNotice_handed _ .blowdown _ _

theorem State.recomputeSupply_handed (s : State) : Handed .makeup s s.recomputeSupply := by
  simp only [State.recomputeSupply]
  split
  · exact .nothing
  · exact s.needNotice_handed _ .makeup _ _

/-- What such a step leaves to the other units. -/
theorem Handed.keeps (h : Handed v s t) : t.bio = s.bio ∧ t.out.biocidePump = s.out.biocidePump ∧ t.stats = s.stats ∧
    t.station = s.station ∧ t.meas = s.meas ∧ t.now = s.now := by
  cases h with
  | nothing => exact ⟨rfl, rfl, rfl, rfl, rfl, rfl⟩
  | kept q n k h => cases v <;> exact ⟨rfl, rfl, rfl, rfl, rfl, rfl⟩
  | ended q n k h => cases v <;> exact ⟨rfl, rfl, rfl, rfl, rfl, rfl⟩

theorem Handed.makeup_of_blowdown (h : Handed .blowdown s t) : t.engine .supply = s.engine .supply ∧ t.out.makeup = s.out.makeup := by
  cases h <;> exact ⟨rfl, rfl⟩

theorem Handed.blowdown_of_makeup (h : Handed .makeup s t) :
    t.engine .discharge = s.engine .discharge ∧ t.out.blowdown = s.out.blowdown ∧ t.feed = s.feed := by
  cases h <;> exact ⟨rfl, rfl, rfl⟩

/-- R40, R48, R49, R52: what such a step makes of its engine. -/
theorem Handed.needTaken (h : Handed v s t) : NeedTaken s t v := by
  cases h with
  | nothing => exact .of_same rfl
  | kept q n k h => exact .of_taken (State.engine_setEngine _ _ _) (fun hk => absurd hk h)
  | ended q n k h =>
    refine .of_taken (State.engine_heldTo _ _ _) (fun _ => ?_)
    cases v <;> rfl

/-- The engine's record before the step is read alone. -/
theorem NeedTaken.after (h : NeedTaken s t v) (he : s.engine v.pool = b.engine v.pool) (hv : s.valve v = b.valve v)
    (hnow : s.now = b.now) (hst : s.station = b.station) : NeedTaken b t v := by
  have hrun : s.inRun = b.inRun := by rw [State.inRun, State.inRun, hst]
  rw [NeedTaken] at h ⊢
  rw [← he, ← hv, ← hnow, ← hrun]
  exact h

theorem NeedTaken.before (h : NeedTaken s t v) (he : u.engine v.pool = t.engine v.pool) (hv : u.valve v = t.valve v) :
    NeedTaken s u v := by
  rw [NeedTaken] at h ⊢
  rw [he, hv]
  exact h

/-- R31: a change of the BIOCIDE base is one of the demand unit's record and of its engine. -/
theorem State.recomputeBiocide_eq (s : State) : ∃ e, s.recomputeBiocide =
    ({ s with demand := { s.demand with bBase := biocideBase s.bio } } : State).setEngine .biocide e := by
  refine ⟨(s.recomputeBiocide.engine .biocide), ?_⟩
  rw [State.recomputeBiocide, ← State.needNotice_biocide]

/-! ## SUPPLY (R28, R32) -/

/-- The engine of SUPPLY has the need and the base handed on (R32). -/
def SuppliedOn (s : State) : Prop := (s.engine .supply).need = s.demand.sDemand ∧ (s.engine .supply).base = s.demand.sBase

theorem State.recomputeSupply_demand (s : State) : s.recomputeSupply.demand = { s.demand with
    sDemand := (supplyDemand s.station.cfg s.meas.derived s.demand).1
    sBase := (supplyDemand s.station.cfg s.meas.derived s.demand).2 } := by
  simp only [State.recomputeSupply]
  generalize supplyDemand s.station.cfg s.meas.derived s.demand = r
  split
  · next h =>
    rw [Bool.and_eq_true, beq_iff_eq, beq_iff_eq] at h
    rw [h.1, h.2]
  · rw [(State.needNotice_claimOnly _ _ _ _).1]

theorem State.recomputeSupply_supplied (hs : SuppliedOn s) : SuppliedOn s.recomputeSupply := by
  rw [SuppliedOn, s.recomputeSupply_demand]
  simp only [State.recomputeSupply]
  generalize supplyDemand s.station.cfg s.meas.derived s.demand = r
  split
  · next h =>
    rw [Bool.and_eq_true, beq_iff_eq, beq_iff_eq] at h
    exact ⟨hs.1.trans h.1.symm, hs.2.trans h.2.symm⟩
  · have hengine := State.needNotice_engine
      ({ s with demand := { s.demand with sDemand := r.1, sBase := r.2 } }) .makeup r.1 r.2
    obtain ⟨h1, h2⟩ := State.engineTaken_noticed
      ({ s with demand := { s.demand with sDemand := r.1, sBase := r.2 } }) .makeup r.1 r.2
    rw [← hengine] at h1 h2
    exact ⟨h1, h2⟩

/-! ## The whole notice (R19) -/

/-- R20, R21, R25, R30: the demand unit's own marks and timers, and the alarms that end with them. -/
def State.marksTaken (s : State) : State := s.scanMarked.calmEnded s.demand

theorem State.marksTaken_eq (s : State) : s.marksTaken = { s with
    demand := s.demand.scanned s.station.cfg s.meas.derived, stats := s.marksTaken.stats } := by
  rw [State.marksTaken, State.calmEnded_eq]
  rw [State.scanMarked_eq]

/-- What a scan-complete notice makes of the demand unit and of the engines. -/
structure DemandScanned (s t : State) : Prop where
  marks : t.demand = { s.demand.scanned s.station.cfg s.meas.derived with
    dDemand := t.demand.dDemand, dBase := t.demand.dBase, sDemand := t.demand.sDemand, sBase := t.demand.sBase
    bBase := t.demand.bBase }
  shown : DemandShown t
  supplied : (t.demand.sDemand, t.demand.sBase) = supplyDemand s.station.cfg s.meas.derived t.demand
  based : BaseShown t
  handed : HandedOn s → HandedOn t
  suppliedOn : SuppliedOn s → SuppliedOn t
  stats : t.stats = s.marksTaken.stats
  bio : t.bio = s.bio
  pump : t.out.biocidePump = s.out.biocidePump
  station : t.station = s.station
  meas : t.meas = s.meas
  makeup : NeedTaken s t .makeup
  blowdown : ∃ w, Handed .blowdown s.marksTaken w ∧ t.engine .discharge = w.engine .discharge ∧
    t.out.blowdown = w.out.blowdown ∧ t.feed = w.feed
  needShown : NeedShown s → NeedShown t

theorem State.scanDemand_scanned (s : State) : DemandScanned s s.scanDemand := by
  rw [State.scanDemand_eq, ← State.marksTaken]
  have hdischarge := s.marksTaken.recomputeDischarge_handed
  have hshown := s.marksTaken.recomputeDischarge_shown
  have hhanded := s.marksTaken.recomputeDischarge_eased.handed
  have hneed (h : NeedShown s.marksTaken) := State.recomputeDischarge_needShown h
  have hdemand := s.marksTaken.recomputeDischarge_demand
  generalize s.marksTaken.recomputeDischarge = u at *
  have hsupply := u.recomputeSupply_handed
  have hsupplied (h : SuppliedOn u) := State.recomputeSupply_supplied h
  have hdemand' := u.recomputeSupply_demand
  generalize u.recomputeSupply = w at *
  obtain ⟨e, he⟩ := w.recomputeBiocide_eq
  obtain ⟨hb1, hp1, hx1, hst1, hme1, hnow1⟩ := hdischarge.keeps
  obtain ⟨hs1, hv1⟩ := hdischarge.makeup_of_blowdown
  obtain ⟨hb2, hp2, hx2, hst2, hme2, hnow2⟩ := hsupply.keeps
  obtain ⟨hs2, hv2, hf2⟩ := hsupply.blowdown_of_makeup
  have hm := s.marksTaken_eq
  have hst : s.marksTaken.station = s.station := by rw [hm]
  have hme : s.marksTaken.meas = s.meas := by rw [hm]
  have hq : s.marksTaken.demand = s.demand.scanned s.station.cfg s.meas.derived := by rw [hm]
  have hd (p : Pool) : s.marksTaken.engine p = s.engine p := by rw [hm]; rfl
  rw [he]
  refine
    { marks := ?_, shown := ?_, supplied := ?_, based := rfl
      handed := fun h => ?_, suppliedOn := fun h => ?_, stats := hx2.trans hx1
      bio := ?_, pump := ?_, station := hst2.trans (hst1.trans hst), meas := hme2.trans (hme1.trans hme)
      makeup := ?_, blowdown := ⟨u, hdischarge, hs2, hv2, hf2⟩, needShown := fun h => ?_ }
  · show ({ w.demand with bBase := _ } : Demand) = _
    rw [hdemand', hdemand, hq]
    rfl
  · have hkeep : dischargeDemand u.station.cfg u.meas.derived { w.demand with bBase := biocideBase w.bio } =
        dischargeDemand u.station.cfg u.meas.derived u.demand := by
      rw [hdemand']
      rfl
    show (w.demand.dDemand, w.demand.dBase) = dischargeDemand w.station.cfg w.meas.derived { w.demand with bBase := _ }
    rw [hst2, hme2, hkeep, ← hshown, hdemand']
  · have hkeep : supplyDemand s.station.cfg s.meas.derived { w.demand with bBase := biocideBase w.bio } =
        supplyDemand s.station.cfg s.meas.derived u.demand := by
      rw [hdemand']
      rfl
    show (w.demand.sDemand, w.demand.sBase) = supplyDemand s.station.cfg s.meas.derived { w.demand with bBase := _ }
    rw [hkeep, hdemand', hst1, hme1, hst, hme]
  · have hu : HandedOn u := hhanded (by
      rw [HandedOn, hd, hq]
      exact h)
    show (w.engine .discharge).need = w.demand.dDemand ∧ (w.engine .discharge).base = w.demand.dBase
    rw [hs2, hdemand']
    exact hu
  · refine hsupplied ?_
    rw [SuppliedOn, hs1, hd, hdemand, hq]
    exact h
  · exact hb2.trans (hb1.trans (by rw [hm]))
  · exact hp2.trans (hp1.trans (by rw [hm]))
  · refine (hsupply.needTaken.after (b := s) (hs1.trans (hd _)) (hv1.trans (by rw [hm]; rfl)) ?_ (hst1.trans hst)).before rfl rfl
    exact hnow1.trans (by rw [hm])
  · have hu : NeedShown u := hneed (by
      rw [NeedShown, hd, hq]
      exact h)
    show (w.engine .discharge).need = w.demand.dDemand
    rw [hs2, hdemand']
    exact hu

end

end Sys2Proof.Machine
end

section
/-! SUPPORT. A scan in PREBLEED (R142, R144): the notices before the entry to CLOSING, and the entry. -/

namespace Sys2Proof.Machine
open Sys2Proof

set_option Elab.async false

section
variable {b s t u : State} {v : Valve} {k : Nat} {n : Bool} {e e' f : Engine}

/-! ## The entry after a notice -/

/-- A notice that ends no hold leaves the engine's state, but for a request begun or a wait given up; and the re-ask mark
it leaves is the engine's own, or goes with a need. -/
theorem State.engineTaken_cases (h : ¬ s.holdEnds v n) :
    (((s.engine v.pool).state = .rest ∨ (s.engine v.pool).state = .asking ∨ (s.engine v.pool).state = .confirming) →
      (s.engineTaken v n k).state = .rest ∨ (s.engineTaken v n k).state = .asking ∨
        (s.engineTaken v n k).state = .confirming) ∧
    ((s.engine v.pool).state = .holding ∨ (s.engine v.pool).state = .releasing ∨ (s.engine v.pool).state = .stuck ∨
      (s.engine v.pool).state = .locked → (s.engineTaken v n k).state = (s.engine v.pool).state) ∧
    ((s.engine v.pool).state = .releasing → (s.engineTaken v n k).reask = true → (s.engineTaken v n k).need = false →
      (s.engine v.pool).reask = true ∧ (s.engine v.pool).need = false) := by
  have hmin (hf : n = false) (hne : ¬ n = (s.engine v.pool).need) (hs : (s.engine v.pool).state = .holding) :
      s.minimumRunOver (s.engine v.pool) = false :=
    Bool.not_eq_true _ |>.mp (fun hm => h ⟨hf, Bool.not_eq_false _ |>.mp (fun hn => hne (hf.trans hn.symm)), hs, hm⟩)
  simp only [State.engineTaken]
  generalize s.engine v.pool = e at *
  by_cases hsame : n = e.need
  · simp only [if_pos hsame]
    exact ⟨id, fun _ => rfl, fun _ hr hn => ⟨hr, hsame.symm.trans hn⟩⟩
  simp only [if_neg hsame]
  cases n with
  | true =>
    simp only [if_true]
    cases hs : e.state with
    | rest =>
      refine ⟨fun _ => ?_, nofun, nofun⟩
      dsimp only
      split
      · exact .inr (.inl rfl)
      · exact .inl hs
    | releasing => exact ⟨nofun, fun _ => hs, fun _ _ hn => by cases hn⟩
    | asking | confirming => exact ⟨fun _ => by simp [Engine.noticed, hs], nofun, nofun⟩
    | holding | stuck | locked => exact ⟨nofun, fun _ => hs, nofun⟩
  | false =>
    simp only [Bool.false_eq_true, if_false]
    cases hs : e.state with
    | holding =>
      simp only [hmin rfl hsame hs, Bool.false_eq_true, if_false]
      exact ⟨nofun, fun _ => hs, nofun⟩
    | releasing => exact ⟨nofun, fun _ => hs, fun _ hr => by cases hr⟩
    | asking | confirming => exact ⟨fun _ => .inl rfl, nofun, nofun⟩
    | rest => exact ⟨fun _ => .inl hs, nofun, nofun⟩
    | stuck | locked => exact ⟨nofun, fun _ => hs, nofun⟩

/-- What the entry to CLOSING makes of an engine that has taken a notice in the event before, its hold not ended by it. -/
theorem EngineClosed.ended_of_kept {seen : Bool} (h : ¬ s.holdEnds v n) (hc : EngineClosed seen (s.engineTaken v n k) e') :
    EngineEnded seen (s.engine v.pool) e' := by
  obtain ⟨hidle, hsame, hreask⟩ := State.engineTaken_cases (k := k) h
  refine { need := hc.need, idle := fun hs => hc.idle ?_, locked := fun hs => hc.locked ?_, stuck := fun hs => hc.stuck ?_
           releasing := fun hs => ?_, letGo := fun hs => hc.letGo ?_ }
  · rcases hs with hs | hs | hs | ⟨hs, hseen⟩
    · rcases hidle (.inl hs) with h | h | h <;> simp [h]
    · rcases hidle (.inr (.inl hs)) with h | h | h <;> simp [h]
    · rcases hidle (.inr (.inr hs)) with h | h | h <;> simp [h]
    · exact .inr (.inr (.inr ⟨(hsame (.inl hs)).trans hs, hseen⟩))
  · exact (hsame (.inr (.inr (.inr hs)))).trans hs
  · exact (hsame (.inr (.inr (.inl hs)))).trans hs
  · obtain ⟨h1, h2, -⟩ := hc.releasing ((hsame (.inr (.inl hs))).trans hs)
    refine ⟨h1, fun hr => ?_⟩
    rw [h2, Bool.and_eq_true, Bool.not_eq_true'] at hr
    exact hreask hs hr.1 hr.2
  · exact (hsame (.inl hs)).trans hs

/-- The same where the notice has ended the hold. -/
theorem EngineClosed.ended_of_ended {seen : Bool} (h : s.holdEnds v n) (hc : EngineClosed seen (s.engineTaken v n k) e') :
    EngineEnded (s.valve v).seenClosed (s.engine v.pool) e' := by
  obtain ⟨hn, hneed, hs, hm⟩ := h
  have htaken : s.engineTaken v n k = if (s.valve v).seenClosed then (((s.engine v.pool).noticed n k).letGo false).atRest
      else ((s.engine v.pool).noticed n k).letGo false := by
    simp only [State.engineTaken, hn, hneed, hs, hm, Bool.false_eq_true, if_false, if_true]
  rw [htaken] at hc
  refine (EngineClosed.of_holding hs hc.need (fun hseen => ?_) (fun hseen => ?_)).ended
  · rw [if_pos hseen] at hc
    exact hc.idle (.inl rfl)
  · rw [if_neg (fun h => Bool.false_ne_true (hseen.symm.trans h))] at hc
    obtain ⟨h1, h2, h3, h4⟩ := hc.releasing rfl
    exact ⟨h1, h2, h3, h4⟩

/-- R142, R144: the entry to CLOSING in a state whose DISCHARGE has taken a notice in the event before. -/
theorem ClosingMade.core_of_handed {w : State} (hh : Handed .blowdown s w) (he : t.engine .discharge = w.engine .discharge)
    (hv : t.out.blowdown = w.out.blowdown) (hf : t.feed = w.feed) (hb : t.bio = s.bio)
    (hp : t.out.biocidePump = s.out.biocidePump) (hst : t.station = s.station) (h : ClosingMade t u) : ClosingCore s u := by
  have hclosed := h.closed
  rw [he, hv] at hclosed
  have hreleased := h.released
  have hkept := h.kept
  rw [he, hv, hf] at hreleased hkept
  refine { engine := ?_, requests := h.requests, bio := h.bio.trans (by rw [hb]), pump := h.pump.trans hp
           released := fun hs hseen => ?_, station := h.station.trans hst }
  · cases hh with
    | nothing => exact hclosed.ended
    | kept q n k hno => exact hclosed.ended_of_kept (v := .blowdown) hno
    | ended q n k hend => exact hclosed.ended_of_ended (v := .blowdown) hend
  · cases hh with
    | nothing => exact hreleased hs hseen
    | kept q n k hno =>
      obtain ⟨-, hsame, -⟩ := State.engineTaken_cases (v := .blowdown) (k := k) hno
      exact hreleased ((hsame (.inl hs)).trans hs) hseen
    | ended q n k hend =>
      obtain ⟨hn, hneed, -, hm⟩ := hend
      have hne : (s.engineTaken .blowdown n k).state ≠ .holding := by
        have hs' : (s.engine Valve.blowdown.pool).state = .holding := hs
        simp only [State.engineTaken, hn, hneed, hs', hm, Bool.false_eq_true, if_false, if_true]
        split <;> nofun
      obtain ⟨h1, h2⟩ := hkept hne
      exact ⟨h1.trans (if_neg (fun h => Bool.false_ne_true (hseen.symm.trans h))), h2⟩

end

end Sys2Proof.Machine
end

section
/-! SUPPORT. The scan-complete notice as a whole (R19 to R32, R142 to R145). -/

namespace Sys2Proof.Machine
open Sys2Proof

set_option Elab.async false

section
variable {b s t u : State} {k : Codes} {c : EffConfig} {d : Derived} {q : Demand}

/-! ## The demand unit's own functions -/

theorem modeInForce_eq (c : EffConfig) (d : Derived) :
    modeInForce c d = if c.mode = .k ∧ d.coc.isSome = true then .k else .c := by
  rw [modeInForce]
  cases c.mode <;> simp

theorem dischargeMark_eq (c : EffConfig) (d : Derived) (m : ControlMode) (mark : Bool) : dischargeMark c d m mark =
    if d.k25B = none then false else if c.hh ≤ d.k25B.getD 0 then true else if setpoint c m ≤ controlled m d then true
    else if controlled m d ≤ offThreshold c m then false else mark := by
  rw [dischargeMark, aboveHh]
  cases d.k25B <;> simp

theorem supplyMark_eq (c : EffConfig) (d : Derived) (mark : Bool) : supplyMark c d mark =
    if d.lv10 = none then false else if d.lv10.getD 0 ≤ c.ll then true else if d.lv10.getD 0 ≤ c.lOn then true
    else if c.lOff ≤ d.lv10.getD 0 then false else mark := by
  rw [supplyMark]
  cases d.lv10 <;> simp

theorem belowLl_iff (c : EffConfig) (d : Derived) : belowLl c d = true ↔ ∃ x ∈ d.lv10, x ≤ c.ll := by
  rw [belowLl]
  cases d.lv10 <;> simp

/-- R28: the SUPPLY demand reads the mark alone. -/
theorem supplyDemand_congr {p : Demand} (h : p.sMark = q.sMark) : supplyDemand c d p = supplyDemand c d q := by
  rw [supplyDemand, supplyDemand, h]

/-! ## Conditions that a scan ends (R25, R30) -/

theorem State.calmEnded_inactive {a : AlarmKind} (h : Inactive a s) (q : Demand) : Inactive a (s.calmEnded q) := by
  simp only [State.calmEnded]
  (repeat' split)
  · exact (h.calm _).calm _
  · exact h.calm _
  · exact h.calm _
  · exact h

theorem State.scanMarked_demand (s : State) : s.scanMarked.demand = s.demand.scanned s.station.cfg s.meas.derived := by
  rw [s.scanMarked_eq]

theorem State.marksTaken_hh (hc : s.demand.hhCondition = true) (hx : aboveHh s.station.cfg s.meas.derived = false) :
    Inactive .highConductivity s.marksTaken := by
  have hend : (s.demand.hhCondition && !s.scanMarked.demand.hhCondition) = true := by
    rw [State.scanMarked_demand, Demand.scanned, hc, hx]
    rfl
  rw [State.marksTaken, State.calmEnded]
  simp only [if_pos hend]
  split
  · exact (State.calm_inactive _ _).calm _
  · exact State.calm_inactive _ _

theorem State.marksTaken_ll (hc : s.demand.llCondition = true) (hx : belowLl s.station.cfg s.meas.derived = false) :
    Inactive .lowLevel s.marksTaken := by
  have hend : (s.demand.llCondition && !s.scanMarked.demand.llCondition) = true := by
    rw [State.scanMarked_demand, Demand.scanned, hc, hx, Bool.and_false]
    rfl
  have hcalm (u : State) (hu : (s.demand.llCondition && !u.demand.llCondition) = true) :
      Inactive .lowLevel (if s.demand.llCondition && !u.demand.llCondition then u.calm .lowLevel else u) := by
    rw [if_pos hu]
    exact State.calm_inactive _ _
  rw [State.marksTaken, State.calmEnded]
  exact hcalm _ (by split <;> exact hend)

theorem State.marksTaken_inactive {a : AlarmKind} (h : Inactive a s) : Inactive a s.marksTaken := by
  refine State.calmEnded_inactive (h.of_alarms ?_) _
  rw [s.scanMarked_eq]

theorem State.marksTaken_flag (s : State) (e : Event) : s.marksTaken.stats.flag e = (s.stats.flag e ||
    (s.demand.mode == .k && modeInForce s.station.cfg s.meas.derived == .c && Event.modeFallback == e)) := by
  have hcalm (u : State) (q : Demand) : (u.calmEnded q).stats.flag e = u.stats.flag e := by
    rw [State.calmEnded_eq]
    rfl
  have hmode : (s.demand.scanned s.station.cfg s.meas.derived).mode = modeInForce s.station.cfg s.meas.derived := rfl
  rw [State.marksTaken, hcalm, State.scanMarked, hmode]
  split
  · next h =>
    rw [h, Bool.true_and]
    exact s.stats.raise_flag .modeFallback e
  · next h => rw [Bool.not_eq_true _ |>.mp h, Bool.false_and, Bool.or_false]

/-- R59: the end of an event ends alarms' activity alone. -/
theorem finish_inactive {a : AlarmKind} (h : Inactive a (t.tested b)) : Inactive a (State.finish b t) := by
  have hlast (x : State) : (x.nameLast b).driveLines.stats.alarms = x.stats.alarms := by
    simp only [State.nameLast]
    split <;> rfl
  have hcalm : Inactive a ((t.tested b).calmValveFault b) := by
    rw [State.calmValveFault]
    split
    · exact h.calm _
    · exact h
  exact hcalm.of_alarms ((hlast _).trans (State.composeReports_alarms _ _))

/-! ## The scan -/

theorem SuppliedOn.of_same (h : SuppliedOn s) (hc : t.claim.supply = s.claim.supply)
    (hd : t.demand.sDemand = s.demand.sDemand) (hb : t.demand.sBase = s.demand.sBase) : SuppliedOn t := by
  obtain ⟨h1, h2⟩ := h
  rw [SuppliedOn, hd, hb]
  exact ⟨(congrArg Engine.need hc).trans h1, (congrArg Engine.base hc).trans h2⟩

theorem finish_shown (h : DemandShown (t.tested b)) : DemandShown (State.finish b t) := by
  have hst : (State.finish b t).station = (t.tested b).station := by rw [finish_eq]
  have hme : (State.finish b t).meas = (t.tested b).meas := by rw [finish_eq]
  rw [DemandShown, finish_demand, hst, hme]
  exact h

theorem finish_based (h : BaseShown (t.tested b)) : BaseShown (State.finish b t) := by
  rw [BaseShown, finish_demand, finish_bio]
  exact h

theorem finish_handed (h : HandedOn (t.tested b)) : HandedOn (State.finish b t) := by
  rw [HandedOn, finish_demand, finish_engine]
  exact h

/-- What a scan leaves at the end of its event. -/
def State.scanEnd (s : State) (k : Codes) : State := State.finish s ((s.takeScan k).scanDemand).prebleedTest

/-- The steps of the sequencer after the notice keep what was handed on. -/
theorem State.scanEnd_follows (s : State) (k : Codes) :
    Follows (s.takeScan k).scanDemand (((s.takeScan k).scanDemand).prebleedTest.tested s) :=
  (State.prebleedTest_follows _).trans (State.tested_follows _ s)

theorem State.takeScan_keeps (s : State) (k : Codes) : (s.takeScan k).meas = s.meas.scanned k s.station.cfg ∧
    (s.takeScan k).station = s.station ∧ (s.takeScan k).demand = s.demand ∧ (s.takeScan k).claim = s.claim ∧
    (s.takeScan k).out = s.out ∧ (s.takeScan k).bio = s.bio ∧ (s.takeScan k).feed = s.feed ∧ (s.takeScan k).now = s.now := by
  obtain ⟨f, a, he⟩ := s.takeScan_measured k
  rw [he]
  exact ⟨rfl, rfl, rfl, rfl, rfl, rfl, rfl, rfl⟩

theorem State.scanEnd_meas (s : State) (k : Codes) : (s.scanEnd k).meas = s.meas.scanned k s.station.cfg := by
  obtain ⟨-, -, -, hme, -⟩ := finish_scan_steady s k
  exact hme

theorem State.scanEnd_station (s : State) (k : Codes) : (s.scanEnd k).station = s.station := by
  obtain ⟨-, -, hst, -⟩ := finish_scan_steady s k
  exact hst

/-- R20 to R30: mode, marks and timers at the scan's end. -/
theorem State.scanEnd_marks (s : State) (k : Codes) : (s.scanEnd k).demand =
    { s.demand.scanned s.station.cfg (s.scanEnd k).meas.derived with
      dDemand := (s.scanEnd k).demand.dDemand, dBase := (s.scanEnd k).demand.dBase, sDemand := (s.scanEnd k).demand.sDemand
      sBase := (s.scanEnd k).demand.sBase, bBase := (s.scanEnd k).demand.bBase, force := (s.scanEnd k).demand.force
      suppress := (s.scanEnd k).demand.suppress } := by
  obtain ⟨hme, hst, hq, -⟩ := s.takeScan_keeps k
  have hmarks := (s.takeScan k).scanDemand_scanned.marks
  rw [hme, hst, hq] at hmarks
  rw [State.scanEnd_meas]
  have hend : (s.scanEnd k).demand = (((s.takeScan k).scanDemand).prebleedTest.tested s).demand := finish_demand _ _
  rw [hend, (s.scanEnd_follows k).marks, hmarks]

/-- R19, R24: the DISCHARGE demand at the scan's end. -/
theorem State.scanEnd_shown (s : State) (k : Codes) : DemandShown (s.scanEnd k) := by
  have h := (s.scanEnd_follows k).shown (s.takeScan k).scanDemand_scanned.shown
  exact finish_shown h

/-- R31: the BIOCIDE base at the scan's end. -/
theorem State.scanEnd_based (s : State) (k : Codes) : BaseShown (s.scanEnd k) := by
  have h := (s.scanEnd_follows k).based (s.takeScan k).scanDemand_scanned.based
  exact finish_based h

/-- R32: DISCHARGE has what the scan hands on. -/
theorem State.scanEnd_handed (h : HandedOn s) : HandedOn (s.scanEnd k) := by
  obtain ⟨-, -, hq, hcl, -⟩ := s.takeScan_keeps k
  have htaken : HandedOn (s.takeScan k) := by
    rw [HandedOn, State.engine, hcl, hq]
    exact h
  exact finish_handed ((s.scanEnd_follows k).handed ((s.takeScan k).scanDemand_scanned.handed htaken))

/-- R28, R32: SUPPLY has what the scan hands on. -/
theorem State.scanEnd_supplied (h : SuppliedOn s) : SuppliedOn (s.scanEnd k) := by
  obtain ⟨-, -, hq, hcl, -⟩ := s.takeScan_keeps k
  have hf := s.scanEnd_follows k
  have htaken : SuppliedOn (s.takeScan k) := h.of_same (by rw [hcl]) (by rw [hq]) (by rw [hq])
  have htested := ((s.takeScan k).scanDemand_scanned.suppliedOn htaken).of_same hf.supply (by rw [hf.marks]) (by rw [hf.marks])
  exact htested.of_same (by rw [State.scanEnd, finish_claim]) (by rw [State.scanEnd, finish_demand])
    (by rw [State.scanEnd, finish_demand])

/-- R28, R29: the SUPPLY demand at the scan's end. -/
theorem State.scanEnd_supply (s : State) (k : Codes) : ((s.scanEnd k).demand.sDemand, (s.scanEnd k).demand.sBase) =
    supplyDemand s.station.cfg (s.scanEnd k).meas.derived (s.scanEnd k).demand := by
  obtain ⟨hme, hst, -⟩ := s.takeScan_keeps k
  have h := (s.takeScan k).scanDemand_scanned.supplied
  have hf := s.scanEnd_follows k
  have hmark : (s.scanEnd k).demand.sMark = (s.takeScan k).scanDemand.demand.sMark := by
    rw [State.scanEnd, finish_demand, hf.marks]
  have hboth : ((s.scanEnd k).demand.sDemand, (s.scanEnd k).demand.sBase) =
      ((s.takeScan k).scanDemand.demand.sDemand, (s.takeScan k).scanDemand.demand.sBase) := by
    rw [State.scanEnd, finish_demand, hf.marks]
  rw [hboth, h, hst, hme, State.scanEnd_meas, supplyDemand_congr hmark]

/-- R25, R30: an alarm that the scan has ended stays ended to the event's end. -/
theorem State.scanEnd_inactive {a : AlarmKind} (ha : a ≠ .biocideAborted) (h : Inactive a (s.takeScan k).marksTaken) :
    Inactive a (s.scanEnd k) := by
  refine finish_inactive ((s.scanEnd_follows k).inactive a ha (h.of_alarms ?_))
  rw [(s.takeScan k).scanDemand_scanned.stats]

/-- R14, R20, R6: the flags at the scan's end. -/
theorem State.scanEnd_flag {e : Event} (ha : e ≠ .biocideAborted) (hh : e ≠ .counterHalf) (hw : e ≠ .counterWrap) :
    (s.scanEnd k).stats.flag e = (s.takeScan k).marksTaken.stats.flag e := by
  rw [State.scanEnd, finish_flag_of_ne hh hw, (s.scanEnd_follows k).flags e ha, (s.takeScan k).scanDemand_scanned.stats]

end

end Sys2Proof.Machine
end

section
/-! SUPPORT. The engines at the end of a scan (R40, R48, R49, R52, R144), and the obligation. -/

namespace Sys2Proof.Machine
open Sys2Proof

set_option Elab.async false

section
variable {b s t u : State} {k : Codes}

theorem State.valve_of_out (h : t.out = s.out) (v : Valve) : t.valve v = s.valve v := by
  cases v <;> simp only [State.valve, h]

theorem NeedShown.of_same (h : NeedShown s) (hcl : t.claim = s.claim) (hd : t.demand.dDemand = s.demand.dDemand) :
    NeedShown t := by
  rw [NeedShown, State.engine_of_claim hcl, hd]
  exact h

theorem ClosingCore.of_same (h : ClosingCore s t) (hout : s.out = u.out) (hcl : s.claim = u.claim) (hbio : s.bio = u.bio)
    (hfeed : s.feed = u.feed) (hst : s.station = u.station) : ClosingCore u t := by
  have he := State.engine_of_claim hcl
  obtain ⟨h1, h2, h3, h4, h5, h6⟩ := h
  rw [he, hout] at h1 h5
  rw [hout] at h4
  rw [hbio] at h3
  rw [hfeed] at h5
  rw [hst] at h6
  exact ⟨h1, h2, h3, h4, h5, h6⟩

theorem State.marksTaken_keeps (s : State) : s.marksTaken.out = s.out ∧ s.marksTaken.claim = s.claim ∧
    s.marksTaken.bio = s.bio ∧ s.marksTaken.feed = s.feed ∧ s.marksTaken.station = s.station ∧ s.marksTaken.now = s.now := by
  rw [State.marksTaken_eq]
  exact ⟨rfl, rfl, rfl, rfl, rfl, rfl⟩

/-- The demand unit's own marks and timers are all that a scan's notice has changed so far. -/
theorem State.scanMarks_keeps (s : State) (k : Codes) : (s.takeScan k).marksTaken.out = s.out ∧
    (s.takeScan k).marksTaken.claim = s.claim ∧ (s.takeScan k).marksTaken.bio = s.bio ∧
    (s.takeScan k).marksTaken.feed = s.feed ∧ (s.takeScan k).marksTaken.station = s.station ∧
    (s.takeScan k).marksTaken.now = s.now := by
  obtain ⟨-, hst, -, hcl, hout, hbio, hfeed, hnow⟩ := s.takeScan_keeps k
  obtain ⟨h1, h2, h3, h4, h5, h6⟩ := (s.takeScan k).marksTaken_keeps
  exact ⟨h1.trans hout, h2.trans hcl, h3.trans hbio, h4.trans hfeed, h5.trans hst, h6.trans hnow⟩

/-- R142: the scan's test of the target. -/
theorem State.scanReached_iff (s : State) (k : Codes) :
    ((s.takeScan k).scanDemand.bio.cycle == .prebleed && (s.takeScan k).scanDemand.targetReached) = true ↔
      s.bio.cycle = .prebleed ∧ ∃ x ∈ (s.scanEnd k).meas.derived.k25B, x ≤ s.bio.target := by
  obtain ⟨hme, -, -, -, -, hbio, -⟩ := s.takeScan_keeps k
  have hd := (s.takeScan k).scanDemand_scanned
  rw [Bool.and_eq_true, beq_iff_eq, State.targetReached_iff, hd.bio, hd.meas, hbio, hme, State.scanEnd_meas]

/-- R142, R144: a scan that finds the target reached. -/
theorem State.scanEnd_entered (hr : s.bio.cycle = .prebleed ∧ ∃ x ∈ (s.scanEnd k).meas.derived.k25B, x ≤ s.bio.target)
    (hn : NeedShown s) : ClosingEntered s (s.scanEnd k) := by
  have hd := (s.takeScan k).scanDemand_scanned
  have htest : (s.takeScan k).scanDemand.prebleedTest = (s.takeScan k).scanDemand.enterClosing :=
    if_pos ((s.scanReached_iff k).mpr hr)
  obtain ⟨-, -, hq, hcl, -⟩ := s.takeScan_keeps k
  have htaken : NeedShown (s.takeScan k) := NeedShown.of_same hn hcl (by rw [hq])
  obtain ⟨kout, kcl, kbio, kfeed, kst, -⟩ := s.scanMarks_keeps k
  obtain ⟨-, tst, -, -, tout, tbio, -⟩ := s.takeScan_keeps k
  obtain ⟨w, hw, he, hv, hf⟩ := hd.blowdown
  have hmade : ClosingMade _ (s.takeScan k).scanDemand.enterClosing := State.enterClosing_made (hd.needShown htaken)
  have hcore := hmade.core_of_handed hw he hv hf (hd.bio.trans (tbio.trans kbio.symm)) (hd.pump.trans (by rw [tout, kout]))
    (hd.station.trans (tst.trans kst.symm))
  rw [State.scanEnd, htest]
  exact (hcore.of_same kout kcl kbio kfeed kst).entered (b := s) (by rw [hr.1]; nofun)

/-- R40, R48, R49, R52: what the notice makes of DISCHARGE. -/
theorem State.scanDemand_blowdown (s : State) (k : Codes) : NeedTaken s (s.takeScan k).scanDemand .blowdown := by
  obtain ⟨w, hw, he, hv, -⟩ := (s.takeScan k).scanDemand_scanned.blowdown
  obtain ⟨kout, kcl, -, -, kst, know⟩ := s.scanMarks_keeps k
  exact (hw.needTaken.after (b := s) (State.engine_of_claim kcl .discharge) (State.valve_of_out kout .blowdown) know kst).before he hv

theorem NeedTaken.state_of_same {v : Valve} (h : NeedTaken s t v) (hn : (t.engine v.pool).need = (s.engine v.pool).need) :
    (t.engine v.pool).state = (s.engine v.pool).state := by
  obtain ⟨hsame, -⟩ := h
  rw [hsame hn]

theorem DemandScanned.suppress (h : DemandScanned s t) : t.demand.suppress = s.demand.suppress := by
  rw [h.marks]
  rfl

theorem DemandShown.suppressed (h : DemandShown s) (hs : s.demand.suppress = true) : s.demand.dDemand = false := by
  rw [DemandShown, dischargeDemand_suppressed hs] at h
  exact congrArg Prod.fst h

/-- R27: a suppressed DISCHARGE with no need keeps its engine's state. -/
theorem State.scanDemand_suppressed (hs : s.demand.suppress = true) (hd : s.demand.dDemand = false)
    (hn : (s.engine .discharge).need = false) :
    ((s.takeScan k).scanDemand.engine .discharge).state = (s.engine .discharge).state := by
  have hscan := (s.takeScan k).scanDemand_scanned
  obtain ⟨-, hst, hq, hcl, -⟩ := s.takeScan_keeps k
  have htaken : NeedShown (s.takeScan k) := NeedShown.of_same (hn.trans hd.symm) hcl (by rw [hq])
  have hsuppress : (s.takeScan k).scanDemand.demand.suppress = true := by rw [hscan.suppress, hq, hs]
  have hno : (s.takeScan k).scanDemand.demand.dDemand = false := hscan.shown.suppressed hsuppress
  have hneed : ((s.takeScan k).scanDemand.engine .discharge).need = (s.engine .discharge).need :=
    (hscan.needShown htaken).trans (hno.trans hn.symm)
  exact (s.scanDemand_blowdown k).state_of_same hneed

/-- R142: a scan that does not find the target reached leaves the cycle, and DISCHARGE has its notice alone. -/
theorem State.scanEnd_stays (hr : ¬ (s.bio.cycle = .prebleed ∧ ∃ x ∈ (s.scanEnd k).meas.derived.k25B, x ≤ s.bio.target))
    (hc : s.bio.cycle = .closing → s.demand.suppress = true ∧ s.demand.dDemand = false ∧
      (s.engine .discharge).need = false) :
    (s.scanEnd k).bio = s.bio ∧ NeedTaken s (s.scanEnd k) .blowdown := by
  have hscan := (s.takeScan k).scanDemand_scanned
  obtain ⟨-, -, -, -, -, tbio, -⟩ := s.takeScan_keeps k
  have htest : (s.takeScan k).scanDemand.prebleedTest = (s.takeScan k).scanDemand :=
    if_neg (fun h => hr ((s.scanReached_iff k).mp h))
  have hbio : (s.takeScan k).scanDemand.bio = s.bio := hscan.bio.trans tbio
  have hdue : closingTestDue s (s.takeScan k).scanDemand = false := by
    by_cases hcl : s.bio.cycle = .closing
    · obtain ⟨h1, h2, h3⟩ := hc hcl
      exact closingTestDue_of_same (congrArg Sequencer.cycle hbio) (State.scanDemand_suppressed h1 h2 h3)
    · exact closingTestDue_of_not_closing (by rw [hbio]; exact hcl)
  have hend := State.tested_of_not_due hdue
  refine ⟨?_, (s.scanDemand_blowdown k).before ?_ ?_⟩
  · rw [State.scanEnd, htest, finish_bio, hend, hbio]
  · rw [State.scanEnd, htest, finish_engine, hend]
  · rw [State.scanEnd, htest, finish_valve, hend]

/-- R40, R48, R49, R52: what the notice makes of SUPPLY. -/
theorem State.scanEnd_makeup (s : State) (k : Codes) : NeedTaken s (s.scanEnd k) .makeup := by
  obtain ⟨-, hst, -, hcl, hout, -, -, hnow⟩ := s.takeScan_keeps k
  have hf := s.scanEnd_follows k
  have htaken := (s.takeScan k).scanDemand_scanned.makeup.after (b := s) (State.engine_of_claim hcl .supply)
    (State.valve_of_out hout .makeup) hnow hst
  exact htaken.before ((finish_engine s _ .supply).trans hf.supply) ((finish_valve s _ .makeup).trans hf.makeup)

end

end Sys2Proof.Machine
end

section
/-! SUPPORT. SCAN hands on one consistent demand: the obligation. -/

namespace Sys2Proof.Machine
open Sys2Proof

set_option Elab.async false

section
variable {b s t u : State} {k : Codes}

theorem State.scanEnd_channel (s : State) (k : Codes) (c : Chan) :
    (s.scanEnd k).meas.channel c = (s.meas.channel c).take (scanCode k c) := by
  rw [State.scanEnd_meas, Measurement.channel_scanned]

theorem State.scanEnd_derived (s : State) (k : Codes) :
    (s.scanEnd k).meas.derived = (s.meas.taken k).derive s.station.cfg := by
  rw [State.scanEnd_meas, Measurement.scanned]

theorem State.takeScan_derived (s : State) (k : Codes) : (s.takeScan k).meas.derived = (s.scanEnd k).meas.derived := by
  obtain ⟨hme, -⟩ := s.takeScan_keeps k
  rw [hme, State.scanEnd_meas]

/-- R20: the mode at the scan's end. -/
theorem State.scanEnd_mode (s : State) (k : Codes) :
    (s.scanEnd k).demand.mode = modeInForce s.station.cfg (s.scanEnd k).meas.derived := by
  rw [State.scanEnd_marks]
  rfl

theorem State.scanEnd_dMark (s : State) (k : Codes) : (s.scanEnd k).demand.dMark =
    dischargeMark s.station.cfg (s.scanEnd k).meas.derived (s.scanEnd k).demand.mode s.demand.dMark := by
  rw [State.scanEnd_mode, State.scanEnd_marks]
  rfl

theorem State.scanEnd_sMark (s : State) (k : Codes) : (s.scanEnd k).demand.sMark =
    supplyMark s.station.cfg (s.scanEnd k).meas.derived s.demand.sMark := by
  rw [State.scanEnd_marks]
  rfl

/-- R25: the HH timer and condition at the scan's end. -/
theorem State.scanEnd_hh (s : State) (k : Codes) :
    (s.scanEnd k).demand.hhTimer = runTimer (aboveHh s.station.cfg (s.scanEnd k).meas.derived) s.demand.hhTimer ∧
    (s.scanEnd k).demand.hhCondition =
      (s.demand.hhCondition && aboveHh s.station.cfg (s.scanEnd k).meas.derived) := by
  rw [State.scanEnd_marks]
  exact ⟨rfl, rfl⟩

/-- R30: the LL timer and condition at the scan's end. -/
theorem State.scanEnd_ll (s : State) (k : Codes) :
    (s.scanEnd k).demand.llTimer = runTimer (belowLl s.station.cfg (s.scanEnd k).meas.derived) s.demand.llTimer ∧
    (s.scanEnd k).demand.llCondition =
      (s.demand.llCondition && belowLl s.station.cfg (s.scanEnd k).meas.derived) := by
  rw [State.scanEnd_marks]
  exact ⟨rfl, rfl⟩

theorem State.scanEnd_hh_calm (hc : s.demand.hhCondition = true)
    (hx : aboveHh s.station.cfg (s.scanEnd k).meas.derived = false) : Inactive .highConductivity (s.scanEnd k) := by
  obtain ⟨-, hst, hq, -⟩ := s.takeScan_keeps k
  refine State.scanEnd_inactive nofun (State.marksTaken_hh (by rw [hq, hc]) ?_)
  rw [hst, State.takeScan_derived, hx]

theorem State.scanEnd_ll_calm (hc : s.demand.llCondition = true)
    (hx : belowLl s.station.cfg (s.scanEnd k).meas.derived = false) : Inactive .lowLevel (s.scanEnd k) := by
  obtain ⟨-, hst, hq, -⟩ := s.takeScan_keeps k
  refine State.scanEnd_inactive nofun (State.marksTaken_ll (by rw [hq, hc]) ?_)
  rw [hst, State.takeScan_derived, hx]

/-- R6: the last channel's recovery ends the probe fault. -/
theorem State.scanEnd_probes_calm (hf : ∃ c, (s.meas.channel c).state = .fault)
    (hno : ∀ c, ((s.scanEnd k).meas.channel c).state ≠ .fault) : Inactive .probeFault (s.scanEnd k) :=
  State.scanEnd_inactive nofun (State.marksTaken_inactive (State.takeScan_told ((Measurement.probeFault_iff _).mpr hf)
    (fun c => by rw [← State.scanEnd_channel]; exact hno c)))

/-- R6, R14, R20: the flags at the scan's end, of the events that a scan raises or leaves. -/
theorem State.scanEnd_told {e : Event} (ha : e ≠ .biocideAborted) (hh : e ≠ .counterHalf) (hw : e ≠ .counterWrap) :
    (s.scanEnd k).stats.flag e = (s.stats.flag e ||
      ((s.meas.recovers k .cb || s.meas.recovers k .tb || s.meas.recovers k .cm || s.meas.recovers k .tm ||
        s.meas.recovers k .lv) && Event.probeRecovered == e) ||
      ((s.scanEnd k).meas.derived.cyclesLimit && !s.meas.derived.cyclesLimit && Event.cyclesLimit == e) ||
      (s.demand.mode == .k && (s.scanEnd k).demand.mode == .c && Event.modeFallback == e)) := by
  obtain ⟨-, hst, hq, -⟩ := s.takeScan_keeps k
  rw [State.scanEnd_flag ha hh hw, State.marksTaken_flag, State.takeScan_flag, hst, hq, State.takeScan_derived,
    State.scanEnd_mode, ← State.scanEnd_derived]

/-- R6: some channel recovers. -/
theorem State.scanEnd_recovers (s : State) (k : Codes) :
    (s.meas.recovers k .cb || s.meas.recovers k .tb || s.meas.recovers k .cm || s.meas.recovers k .tm ||
      s.meas.recovers k .lv) = true ↔
      ∃ c, (s.meas.channel c).state = .fault ∧ ((s.scanEnd k).meas.channel c).state = .good := by
  have hone (c : Chan) : s.meas.recovers k c = true ↔
      (s.meas.channel c).state = .fault ∧ ((s.scanEnd k).meas.channel c).state = .good := by
    rw [Measurement.recovers, Bool.and_eq_true, beq_iff_eq, beq_iff_eq, State.scanEnd_channel]
  simp only [Bool.or_eq_true, hone]
  constructor
  · rintro ((((h | h) | h) | h) | h)
    · exact ⟨_, h⟩
    · exact ⟨_, h⟩
    · exact ⟨_, h⟩
    · exact ⟨_, h⟩
    · exact ⟨_, h⟩
  · rintro ⟨c, h⟩
    cases c <;> simp [h]

theorem supplyDemand_table (c : EffConfig) (d : Derived) (q : Demand) (l : Nat) :
    (d.lv10 = none → supplyDemand c d q = (false, 0)) ∧
    (d.lv10 = some l → l ≤ c.ll → supplyDemand c d q = (true, 255)) ∧
    (d.lv10 = some l → c.ll < l → q.sMark = true →
      supplyDemand c d q = (true, min 200 (roundDiv (100 * (c.lOff - l)) (c.lOff - c.lOn)))) ∧
    (d.lv10 = some l → c.ll < l → q.sMark = false → supplyDemand c d q = (false, 0)) := by
  refine ⟨fun h => ?_, fun h hl => ?_, fun h hl hm => ?_, fun h hl hm => ?_⟩
  · simp only [supplyDemand, h]
  · simp only [supplyDemand, h, if_pos hl]
  · simp only [supplyDemand, h, if_neg (Nat.not_le.mpr hl), hm, if_true, supplyBase]
  · simp only [supplyDemand, h, if_neg (Nat.not_le.mpr hl), hm, Bool.false_eq_true, if_false]

theorem biocideBase_table (b : Sequencer) (o : Nat) (h : b.overdue = some o) :
    (b.cycle = .due ∨ b.cycle = .prebleed ∨ b.cycle = .closing ∨ b.cycle = .dosing →
      biocideBase b = 100 + min 100 (roundDiv o 60000)) ∧
    (b.cycle = .idle ∨ b.cycle = .contact → biocideBase b = 0) := by
  refine ⟨fun hc => ?_, fun hc => ?_⟩
  · rcases hc with hc | hc | hc | hc <;> simp only [biocideBase, hc, h, Option.getD_some]
  · rcases hc with hc | hc <;> simp only [biocideBase, hc]

/-- Settles O12: the demand unit's own record, the notices and the sequencer's test, each by its own lemma. -/
theorem scanHandsOnDemand : Obligations.ScanHandsOnDemand := by
  unfold Obligations.ScanHandsOnDemand
  refine ⟨fun k s hh hw hr => ⟨s.scanEnd k, exec_scan_of_due hh hw hr, ?_⟩, supplyDemand_table, biocideBase_table⟩
  have hshown := s.scanEnd_shown k
  rw [DemandShown, State.scanEnd_station] at hshown
  obtain ⟨hhT, hhC⟩ := s.scanEnd_hh k
  obtain ⟨llT, llC⟩ := s.scanEnd_ll k
  refine ⟨?_, ?_, ?_, hshown, s.scanEnd_supply k, s.scanEnd_based k, fun h1 h2 => State.scanEnd_handed ⟨h1, h2⟩,
    fun h1 h2 => State.scanEnd_supplied ⟨h1, h2⟩, fun hx => ?_, fun hx => ?_, fun hx => ?_, fun hx => ?_, ?_, ?_, ?_,
    State.scanEnd_probes_calm, State.scanEnd_entered, State.scanEnd_stays, s.scanEnd_makeup k⟩
  · rw [State.scanEnd_mode, modeInForce_eq]
  · rw [State.scanEnd_dMark, dischargeMark_eq]
  · rw [State.scanEnd_sMark, supplyMark_eq]
  · have hon := (aboveHh_iff s.station.cfg _).mpr hx
    rw [hhT, hhC, hon, Bool.and_true]
    exact ⟨rfl, rfl⟩
  · have hoff := (aboveHh_eq_false_iff s.station.cfg _).mpr hx
    refine ⟨by rw [hhT, hoff]; rfl, by rw [hhC, hoff, Bool.and_false], fun hc => State.scanEnd_hh_calm hc hoff⟩
  · have hon := (belowLl_iff s.station.cfg _).mpr hx
    rw [llT, llC, hon, Bool.and_true]
    exact ⟨rfl, rfl⟩
  · have hoff := Bool.not_eq_true _ |>.mp (fun h => hx ((belowLl_iff s.station.cfg _).mp h))
    refine ⟨by rw [llT, hoff]; rfl, by rw [llC, hoff, Bool.and_false], fun hc => State.scanEnd_ll_calm hc hoff⟩
  · rw [State.scanEnd_told (e := .modeFallback) nofun nofun nofun, beq_false_of_ne (a := Event.probeRecovered) (b := .modeFallback) nofun,
      beq_false_of_ne (a := Event.cyclesLimit) (b := .modeFallback) nofun, beq_self_eq_true]
    simp
  · rw [State.scanEnd_told (e := .cyclesLimit) nofun nofun nofun, beq_false_of_ne (a := Event.probeRecovered) (b := .cyclesLimit) nofun,
      beq_false_of_ne (a := Event.modeFallback) (b := .cyclesLimit) nofun, beq_self_eq_true]
    simp
  · rw [← State.scanEnd_recovers, State.scanEnd_told (e := .probeRecovered) nofun nofun nofun, beq_self_eq_true,
      beq_false_of_ne (a := Event.cyclesLimit) (b := .probeRecovered) nofun,
      beq_false_of_ne (a := Event.modeFallback) (b := .probeRecovered) nofun]
    simp

end

end Sys2Proof.Machine
end

section
/-! SUPPORT. The mailbox and the panel's transactions (R183, R188, R189, R192). -/

namespace Sys2Proof.Machine
open Sys2Proof

set_option Elab.async false

section
variable {b s t u : State} {code : Byte} {arg : Word32}

/-! ## Arrivals (R188, R189) -/

/-- An event that changes the port and event flags alone. -/
theorem finish_of_port (hcl : t.claim = s.claim) (hb : t.bio = s.bio) (ha : t.stats.alarms = s.stats.alarms)
    (hm : t.meas = s.meas) (hf : t.feed = s.feed) (hn : t.stats.counters = s.stats.counters) :
    State.finish s t = t.driveLines :=
  finish_of_same hcl hb ha hm (congrArg Feed.mismatch hf) (congrArg Feed.backlog hf) (State.nameLast_of_same hn)

theorem badArgument_eq_false (h : code = 6 ∨ arg = 0) : badArgument code arg = false := by
  rcases h with rfl | rfl
  · rfl
  · rw [badArgument, bne_self_eq_false, Bool.and_false]

theorem badArgument_of_ne (hc : code ≠ 6) (ha : arg ≠ 0) : badArgument code arg = true := by
  rw [badArgument, Bool.and_eq_true, bne_iff_ne, bne_iff_ne]
  exact ⟨hc, ha⟩

theorem unknownCode_of_known (h0 : code ≠ 0) (h8 : code.toNat ≤ 8) : unknownCode code = false := by
  rw [unknownCode, beq_false_of_ne h0, Bool.false_or]
  exact decide_eq_false (Nat.not_lt.mpr h8)

theorem unknownCode_of_unknown (h : code = 0 ∨ 8 < code.toNat) : unknownCode code = true := by
  rcases h with rfl | h
  · rfl
  · simp [unknownCode, h]

/-- R188: the mailbox after an arrival that is stored. -/
def State.stored (s : State) (st : MailState) (code : Byte) (arg : Word32) (r : MailResult) : State :=
  { s with port := { s.port with
    response := [], clearedBy := none, mailbox := { state := st, code := code, argument := arg, result := r } } }

theorem exec_postCommand_of_live (hl : Live s) : exec (.postCommand code arg) s =
    .next ((s.respond []).arrive code arg).driveLines := by
  rw [exec_postCommand, event_of_due hl.1 rfl]
  refine congrArg Host.Outcome.next (finish_of_port ?_ ?_ ?_ ?_ ?_ ?_)
  all_goals
    simp only [State.arrive]
    (repeat' split) <;> rfl

theorem State.arrive_of_pending (h : s.port.mailbox.state = .pending) :
    (s.respond []).arrive code arg = (s.respond []).raise .mailboxCollision := by
  have hp : ((s.respond []).port.mailbox.state == .pending) = true := by
    rw [beq_iff_eq]
    exact h
  rw [State.arrive, if_pos hp]

theorem State.arrive_of_free (h : s.port.mailbox.state ≠ .pending) :
    (s.respond []).arrive code arg =
      if unknownCode code then (s.stored .done code arg .unknown).raise .commandDone
      else if badArgument code arg then (s.stored .done code arg .badArgument).raise .commandDone
      else s.stored .pending code arg .none := by
  have hp : ¬ ((s.respond []).port.mailbox.state == .pending) = true := by
    rw [beq_iff_eq]
    exact h
  rw [State.arrive, if_neg hp]
  rfl

/-- R188, R189: what a post leaves, by what the mailbox holds and the tests 1 and 2. -/
theorem exec_postCommand_cases (hl : Live s) :
    (s.port.mailbox.state = .pending → exec (.postCommand code arg) s =
      .next ((s.respond []).raise .mailboxCollision).driveLines) ∧
    (s.port.mailbox.state ≠ .pending →
      (code = 0 ∨ 8 < code.toNat → exec (.postCommand code arg) s =
        .next ((s.stored .done code arg .unknown).raise .commandDone).driveLines) ∧
      (code ≠ 0 → code.toNat ≤ 8 → code ≠ 6 → arg ≠ 0 → exec (.postCommand code arg) s =
        .next ((s.stored .done code arg .badArgument).raise .commandDone).driveLines) ∧
      (code ≠ 0 → code.toNat ≤ 8 → code = 6 ∨ arg = 0 → exec (.postCommand code arg) s =
        .next (s.stored .pending code arg .none))) := by
  rw [exec_postCommand_of_live hl]
  refine ⟨fun hp => by rw [State.arrive_of_pending hp], fun hp => ?_⟩
  rw [State.arrive_of_free hp]
  refine ⟨fun hc => ?_, fun h0 h8 h6 ha => ?_, fun h0 h8 hc => ?_⟩
  · rw [unknownCode_of_unknown hc, if_pos rfl]
  · rw [unknownCode_of_known h0 h8, badArgument_of_ne h6 ha, if_neg Bool.false_ne_true, if_pos rfl]
  · rw [unknownCode_of_known h0 h8, badArgument_eq_false hc, if_neg Bool.false_ne_true, if_neg Bool.false_ne_true]
    exact congrArg Host.Outcome.next (driveLines_of_linesFollow (hl.2.of_same rfl rfl rfl rfl rfl))

/-! ## Refusals (R192) -/

/-- R189: a command refused in the present state. -/
theorem finish_notNow (s : State) : State.finish s (s.conclude .notNow) = (s.done .notNow).driveLines := by
  rw [State.conclude_eq_done]
  exact finish_of_port rfl rfl rfl rfl rfl rfl

theorem Posted.badArgument {c : PanelCommand} (h : Posted s c) :
    Machine.badArgument s.port.mailbox.code s.port.mailbox.argument = false := by
  obtain ⟨-, -, ha, -⟩ := h
  exact badArgument_eq_false (.inr ha)

/-- R166, R192: HOLD is refused in START, CONFIG FAULT and QUIET. -/
theorem State.holdRefused_iff (s : State) : s.holdRefused = true ↔
    s.station.state = .start ∨ s.station.state = .configFault ∨ s.station.state = .quiet := by
  simp only [State.holdRefused]
  cases s.station.state <;> simp [StationState.reporting]

theorem refusedCommands (straps : BitVec 5) (s : State) (hl : Live s) :
    (Posted s .hold → s.station.state = .start ∨ s.station.state = .configFault ∨ s.station.state = .quiet →
      exec .hold s = .next (s.done .notNow).driveLines) ∧
    (Posted s .resume → s.station.state ≠ .hold → exec .resume s = .next (s.done .notNow).driveLines) ∧
    (Posted s .lineRestart → s.station.state = .start → exec .lineRestart s = .next (s.done .notNow).driveLines) ∧
    (Posted s .restart → s.station.state = .start → exec (.restart straps) s = .next (s.done .notNow).driveLines) := by
  refine ⟨fun hp h => ?_, fun hp h => ?_, fun hp h => ?_, fun hp h => ?_⟩
  · rw [exec_hold, event_of_due hl.1 hp.awaits, hp.takeCommand, (s.holdRefused_iff).mpr h, if_pos rfl, finish_notNow]
  · rw [exec_resume, event_of_due hl.1 hp.awaits, hp.takeCommand, if_pos (bne_iff_ne.mpr h), finish_notNow]
  · rw [exec_lineRestart, event_of_due hl.1 hp.awaits, hp.takeCommand, if_pos (beq_iff_eq.mpr h), finish_notNow]
  · have hstart : (s.station.state == .start) = true := beq_iff_eq.mpr h
    rw [exec_restart, event_of_due hl.1 hp.awaits, State.restartCommand, hp.badArgument, hstart,
      if_neg Bool.false_ne_true, if_pos rfl, finish_notNow]

/-! ## Transactions (R183, R184) -/

theorem recordIndexInRange_iff (r i : Byte) : recordIndexInRange r i = true ↔
    ((r = 1 ∨ r = 2 ∨ r = 6 ∨ r = 7 ∨ r = 8 ∨ r = 9 ∨ r = 10 ∨ r = 11) ∧ i = 0) ∨ (r = 3 ∧ i.toNat ≤ 2) ∨
    (r = 4 ∧ 1 ≤ i.toNat ∧ i.toNat ≤ 31) ∨ (r = 5 ∧ 1 ≤ i.toNat ∧ i.toNat ≤ 20) := by
  simp only [recordIndexInRange, ← BitVec.toNat_inj, BitVec.ofNat_eq_ofNat, BitVec.toNat_ofNat, Nat.reducePow, Nat.reduceMod]
  generalize r.toNat = n
  split
  case h_12 h1 h2 h3 h4 h5 h6 h7 h8 h9 h10 h11 =>
    simp only [Bool.false_eq_true, false_iff]
    rintro (⟨h | h | h | h | h | h | h | h, -⟩ | ⟨h, -⟩ | ⟨h, -⟩ | ⟨h, -⟩)
    · exact h1 h
    · exact h2 h
    · exact h3 h
    · exact h4 h
    · exact h5 h
    · exact h6 h
    · exact h7 h
    · exact h8 h
    · exact h9 h
    · exact h10 h
    · exact h11 h
  all_goals simp

theorem transactionCommand_read (r i : Byte) (rest : List Byte) :
    transactionCommand (1 :: r :: i :: rest) = some (readCommand r i) := rfl

theorem readCommand_outOfRange {r i : Byte} (h : recordIndexInRange r i = false) : readCommand r i = .outOfRange r i := by
  simp [readCommand, h]

theorem readCommand_peer {i : Byte} (h1 : 1 ≤ i.toNat) (h2 : i.toNat ≤ 31) : readCommand 4 i = .readPeer i := by
  have h : recordIndexInRange 4 i = true := (recordIndexInRange_iff 4 i).mpr (.inr (.inr (.inl ⟨rfl, h1, h2⟩)))
  rw [readCommand, h]
  rfl

theorem readCommand_counter {i : Byte} (h1 : 1 ≤ i.toNat) (h2 : i.toNat ≤ 20) : readCommand 5 i = .readCounter i := by
  have h : recordIndexInRange 5 i = true := (recordIndexInRange_iff 5 i).mpr (.inr (.inr (.inr ⟨rfl, h1, h2⟩)))
  rw [readCommand, h]
  rfl

theorem transactionCommand_unknown {x : Byte} (h1 : x ≠ 1) (h2 : x ≠ 2) (h3 : x ≠ 3) (rest : List Byte) :
    transactionCommand (x :: rest) = some (.unknownTransaction x) := by
  simp only [transactionCommand, if_neg h1, if_neg h2, if_neg h3]

/-- R183: a transaction that ends early is none. -/
theorem transactionCommand_short {l : List Byte}
    (h : l = [] ∨ (l.headD 0 = 1 ∧ l.length < 3) ∨ (l.headD 0 = 2 ∧ l.length < 6)) : transactionCommand l = none := by
  cases l with
  | nil => rfl
  | cons first rest =>
    rcases h with h | ⟨h, hn⟩ | ⟨h, hn⟩
    · cases h
    · subst h
      match rest, hn with
      | [], _ | [_], _ => rfl
    · subst h
      match rest, hn with
      | [], _ | [_], _ | [_, _], _ | [_, _, _], _ | [_, _, _, _], _ => rfl

/-- R183: 0x00 with the request, then the response, then 0x00. -/
theorem shiftedOut_getD (sent response : List Byte) {i : Nat} (h : i < sent.length) : (shiftedOut sent response).getD i 0 =
    if i < requestLength (sent.headD 0) then 0 else response.getD (i - requestLength (sent.headD 0)) 0 := by
  have hzero (m j : Nat) : (List.replicate m (0 : Byte)).getD j 0 = 0 := by
    simp only [List.getD_eq_getElem?_getD, List.getElem?_replicate]
    split <;> rfl
  rw [shiftedOut, List.getD_eq_getElem?_getD, List.getElem?_take_of_lt h, ← List.getD_eq_getElem?_getD, List.append_assoc]
  generalize requestLength (sent.headD 0) = m
  split
  · next hm => rw [getD_append_of_lt (by rw [List.length_replicate]; exact hm), hzero]
  · next hm =>
    rw [getD_append_of_ge (by rw [List.length_replicate]; omega), List.length_replicate]
    by_cases hr : i - m < response.length
    · rw [getD_append_of_lt hr]
    · rw [getD_append_of_ge (by omega), hzero, getD_of_length_le (by omega)]

/-- R183: a byte more from the controller is a byte more from the part. -/
theorem shiftedOut_append (sent response : List Byte) :
    ∃ x, shiftedOut (sent ++ [0]) response = shiftedOut sent response ++ [x] := by
  have hhead : (sent ++ [0]).headD 0 = sent.headD 0 := by cases sent <;> rfl
  have hlen := shiftedOut_length (sent ++ [0]) response
  rw [List.length_append, List.length_singleton] at hlen
  have htake : (shiftedOut (sent ++ [0]) response).take sent.length = shiftedOut sent response := by
    rw [shiftedOut, shiftedOut, hhead, List.take_take, List.length_append, List.length_singleton,
      Nat.min_eq_left (Nat.le_succ _), List.replicate_succ', ← List.append_assoc, List.take_append_of_le_length]
    simp only [List.length_append, List.length_replicate]
    omega
  obtain ⟨x, hx⟩ : ∃ x, (shiftedOut (sent ++ [0]) response).drop sent.length = [x] :=
    List.length_eq_one_iff.mp (by rw [List.length_drop, hlen]; omega)
  refine ⟨x, ?_⟩
  rw [← htake, ← hx, List.take_append_drop]

theorem spiBits_length (x : Byte) : (spiBits x).length = 8 := by
  rw [spiBits, List.length_map, List.length_range]

theorem spiBits_getD (x : Byte) {i : Nat} (h : i < 8) : (spiBits x).getD i false = x.getLsbD (7 - i) := by
  rw [spiBits, List.getD_eq_getElem?_getD, List.getElem?_map, List.getElem?_range h]
  rfl

theorem flatMap_spiBits_length (l : List Byte) : (l.flatMap spiBits).length = 8 * l.length := by
  induction l with
  | nil => rfl
  | cons x l ih =>
    rw [List.flatMap_cons, List.length_append, spiBits_length, ih, List.length_cons]
    omega

/-- R183: what the controller reads of such a transaction. -/
theorem spiRead_shiftsOut (s : State) (sent : List Byte) {cut : List Bool} (h : cut.length < 8) :
    spiBytes (spiRead (spiClocked (sent.flatMap spiBits ++ cut))
      (s.spiShiftsOut (spiClocked (sent.flatMap spiBits ++ cut)))) = s.shiftsOut sent := by
  rw [State.spiShiftsOut, spiReceived_clocked sent h, State.shiftsOut]
  generalize (if (transactionCommand sent).isSome then s.port.response else []) = response
  obtain ⟨x, hx⟩ := shiftedOut_append sent response
  have hlen : ((shiftedOut sent response).flatMap spiBits).length = (sent.flatMap spiBits).length := by
    rw [flatMap_spiBits_length, flatMap_spiBits_length, shiftedOut_length]
  rw [hx, spiRead_driven, List.flatMap_append, List.flatMap_singleton, List.append_assoc, List.length_append, ← hlen,
    List.take_length_add_append]
  refine spiBytes_flatMap _ (Nat.lt_of_le_of_lt ?_ h)
  rw [List.length_take]
  exact Nat.min_le_left _ _

/-- Settles O43: the mailbox, the refusals, the transactions and the wires, each by its lemmas. -/
theorem mailboxStoresAndRefuses : Obligations.MailboxStoresAndRefuses := by
  unfold Obligations.MailboxStoresAndRefuses
  refine ⟨fun x code arg s hl => ?_, refusedCommands, fun rest => ?_, fun l hs => ?_, fun sent c s hc => ?_,
    fun sent response => ⟨shiftedOut_length _ _, fun i hi => shiftedOut_getD sent response hi⟩,
    fun x i hi => ⟨spiBits_length x, spiBits_getD x hi⟩, fun sent cut s hcut => ?_⟩
  · have hread : exec .readMailbox s = .next (s.respond s.port.mailbox.bytes) := by
      rw [exec_readMailbox, hl.1]
      rfl
    exact ⟨hread, rfl, exec_postCommand_cases hl⟩
  · refine ⟨rfl, rfl, rfl, rfl, rfl, rfl, rfl, rfl, rfl, rfl, rfl, rfl, fun i h1 h2 => ?_, fun i h1 h2 => ?_,
      recordIndexInRange_iff, fun r i h => ?_, fun _ _ _ _ _ => rfl, fun x h1 h2 h3 => transactionCommand_unknown h1 h2 h3 rest⟩
    · rw [transactionCommand_read, readCommand_peer h1 h2]
    · rw [transactionCommand_read, readCommand_counter h1 h2]
    · rw [transactionCommand_read, readCommand_outOfRange h]
  · have hnone := transactionCommand_short hs
    exact ⟨hnone, fun s => transaction_of_early_end hnone⟩
  · refine ⟨transaction_of_command hc, ?_⟩
    rw [State.shiftsOut, hc]
    rfl
  · exact ⟨by rw [State.spiTransaction, spiReceived_clocked sent hcut], spiRead_shiftsOut s sent hcut⟩

end

end Sys2Proof.Machine
end

section
/-! SUPPORT. The commands on records, alarms and counters (R175, R177, R179, R191). -/

namespace Sys2Proof.Machine
open Sys2Proof

set_option Elab.async false

section
variable {b s t u : State}

/-! ## ACKNOWLEDGE (R179, R58) -/

/-- R58: an engine as the acknowledge notice leaves it. -/
def State.unlocked (s : State) (p : Pool) : Engine :=
  if (s.engine p).state = .locked then
    (if s.inRun ∧ (s.engine p).need = true then (s.engine p).atRest.justAsking s.now else (s.engine p).atRest)
  else s.engine p

theorem State.unlock_eq (s : State) (p : Pool) : s.unlock p = s.setEngine p (s.unlocked p) := by
  rw [State.unlock, State.unlocked]
  by_cases h : (s.engine p).state = .locked
  · rw [if_pos (beq_iff_eq.mpr h), if_pos h, State.arriveRest_eq]
    simp only [Bool.and_eq_true]
  · rw [if_neg (fun hb => h (beq_iff_eq.mp hb)), if_neg h, State.setEngine_engine]

/-- R58: the three engines as the acknowledge notice leaves them. -/
def State.unlockedClaim (s : State) : Claim :=
  { discharge := s.unlocked .discharge, supply := s.unlocked .supply, biocide := s.unlocked .biocide }

theorem State.acknowledge_eq (s : State) : s.acknowledge =
    { s with claim := s.unlockedClaim, stats := { s.stats with alarms := acknowledgeAlarms s.stats.alarms } } := by
  rw [State.acknowledge]
  simp only [State.unlock_eq]
  rfl

/-- R173: composing reports counts one counter alone. -/
theorem State.nameLast_of_superseded (h : CountersKept b t [.reportsSuperseded]) : t.nameLast b = t := by
  refine State.nameLast_of_group Counter.towerLine (fun k hk hne c hc => ?_)
  have hnumber : ∀ k ∈ Counter.groups, k ≠ Counter.towerLine → ∀ c ∈ k, 1 ≤ c.number ∧ c.number ≤ 20 ∧
      c.number ∉ [Counter.reportsSuperseded].map Counter.number := by
    decide
  obtain ⟨h1, h20, hnot⟩ := hnumber k hk hne c hc
  obtain ⟨i, hi⟩ : ∃ i, c.number = i + 1 := ⟨c.number - 1, by omega⟩
  rw [Stats.counter, Stats.counter, hi]
  exact h i (by omega) (by rw [← hi]; exact hnot)

/-- The end of an event that counts no more than a report superseded and in which the closing test does nothing: what changes
of its outcome. -/
theorem finish_told (htested : t.tested b = t) (hn : CountersKept b t [.reportsSuperseded]) : State.finish b t =
    { t with
      line := { t.line with onLine := (State.finish b t).line.onLine, nextSlot := (State.finish b t).line.nextSlot }
      out := { t.out with relay := (State.finish b t).out.relay }
      port := { t.port with attention := (State.finish b t).port.attention }
      stats := { t.stats with
        alarms := (t.calmValveFault b).stats.alarms, counters := (State.finish b t).stats.counters
        flags := (State.finish b t).stats.flags, lastCounter := (State.finish b t).stats.lastCounter } } := by
  have hcalm : CountersKept b (t.calmValveFault b) [.reportsSuperseded] := by
    rw [State.calmValveFault_eq]
    exact hn
  have hend : State.finish b t = (t.calmValveFault b).toldTimes (reportTriggers b (t.calmValveFault b)) := by
    have h : State.finish b t =
      ((t.tested b).calmValveFault b).toldAfter b (reportTriggers b ((t.tested b).calmValveFault b)) := rfl
    rw [h, htested, State.toldAfter,
      State.nameLast_of_superseded (hcalm.trans (State.composeReports_countersKept _ _ (by decide))), State.toldTimes]
  have hslots := (t.calmValveFault b).composeReports_slotsOnly (reportTriggers b (t.calmValveFault b))
  have halarms := (t.calmValveFault b).composeReports_alarms (reportTriggers b (t.calmValveFault b))
  rw [hend, State.toldTimes]
  generalize (t.calmValveFault b).composeReports (reportTriggers b (t.calmValveFault b)) = u at *
  rw [State.calmValveFault_eq] at hslots
  unfold SlotsOnly at hslots
  generalize (t.calmValveFault b).stats.alarms = l at *
  rw [hslots]
  rfl

/-- R179: an acknowledged list asks for no acknowledgement. -/
theorem alarmCondition_acknowledged (l : List AlarmEntry) : (acknowledgeAlarms l).any (fun e => e.unack) = false := by
  rw [List.any_eq_false]
  intro e he
  obtain ⟨he, -⟩ := List.mem_filter.mp he
  obtain ⟨x, -, rfl⟩ := List.mem_map.mp he
  nofun

theorem acknowledgeActs (hh : s.held = none) (hp : Posted s .acknowledge)
    (hc : s.bio.cycle = .closing → (s.engine .discharge).state ≠ .locked) :
    ∃ t, exec .acknowledge s = .next t ∧ LinesFollow t ∧ (∀ p, t.engine p = s.unlocked p) ∧
      (let l := (s.stats.alarms.map (fun e => { e with unack := false })).filter (fun e => e.active)
       t.stats.alarms = if s.valveFault ∧ t.valveFault = false then calmAlarm l .valveFault else l) ∧
      t.out.relay = false ∧ t.stats.flag .commandDone = true ∧ CountersKept s t [.reportsSuperseded] ∧
      t = { s with claim := t.claim,
                   line := { s.line with onLine := t.line.onLine, nextSlot := t.line.nextSlot },
                   stats := { s.stats with alarms := t.stats.alarms, counters := t.stats.counters,
                                           flags := t.stats.flags, lastCounter := t.stats.lastCounter },
                   out := { s.out with relay := t.out.relay },
                   port := { s.port with mailbox := { s.port.mailbox with state := .done, result := .ok },
                                         attention := t.port.attention } } ∧
      (∀ e : Event, e ≠ .counterHalf → e ≠ .counterWrap → e ≠ .commandDone →
        t.stats.flag e = s.stats.flag e) := by
  have hexec : exec .acknowledge s = .next (State.finish s (s.acknowledge.done .ok)) := by
    rw [exec_acknowledge, event_of_due hh hp.awaits, hp.takeCommand, if_neg Bool.false_ne_true, State.conclude_eq_done]
  have hv : s.acknowledge.done .ok = ({ s with
    claim := s.unlockedClaim
    stats := { s.stats with alarms := acknowledgeAlarms s.stats.alarms } } : State).done .ok := by
    rw [State.acknowledge_eq]
  rw [hv] at hexec
  generalize hx : ({ s with
    claim := s.unlockedClaim
    stats := { s.stats with alarms := acknowledgeAlarms s.stats.alarms } } : State).done .ok = x at hexec
  have hengine (p : Pool) : x.engine p = s.unlocked p := by
    rw [← hx]
    cases p <;> rfl
  have hdue : closingTestDue s x = false := by
    by_cases hcl : s.bio.cycle = .closing
    · refine closingTestDue_of_same (by rw [← hx]; rfl) ?_
      rw [hengine, State.unlocked, if_neg (hc hcl)]
    · exact closingTestDue_of_not_closing (by rw [← hx]; exact hcl)
  have htested := State.tested_of_not_due hdue
  have hend := finish_told htested (.of_counters (by rw [← hx]; rfl))
  have hflag (e : Event) : x.stats.flag e = (s.stats.flag e || Event.commandDone == e) := by
    rw [← hx]
    exact s.stats.raise_flag .commandDone e
  have hclaim : (State.finish s x).claim = x.claim := by rw [finish_claim, htested]
  have hvf : (State.finish s x).valveFault = x.valveFault := by rw [State.valveFault, hclaim]; rfl
  have halarms : (State.finish s x).stats.alarms = if s.valveFault ∧ (State.finish s x).valveFault = false
      then calmAlarm (acknowledgeAlarms s.stats.alarms) .valveFault else acknowledgeAlarms s.stats.alarms := by
    have hxa : x.stats.alarms = acknowledgeAlarms s.stats.alarms := by rw [← hx]; rfl
    rw [hvf, hend, State.calmValveFault]
    simp only [Bool.and_eq_true, Bool.not_eq_true']
    split
    · rw [State.calm_alarms, hxa, calmAlarm]
    · exact hxa
  have hlist : (State.finish s x).stats.alarms = (x.calmValveFault s).stats.alarms := by rw [hend]
  have hunack : (State.finish s x).alarmCondition = false := by
    have hx0 : x.alarmCondition = false := by
      rw [← hx]
      exact alarmCondition_acknowledged _
    rw [State.alarmCondition, hlist, ← State.alarmCondition, State.calmValveFault]
    split
    · rw [State.alarmCondition_calm, hx0]
    · exact hx0
  refine ⟨_, hexec, linesFollow_finish _ _, fun p => ?_, halarms, ?_, finish_flagsKept s x _ ?_, ?_, ?_, fun e h1 h2 h3 => ?_⟩
  · rw [finish_engine, htested, hengine]
  · obtain ⟨hrelay, -⟩ := linesFollow_finish s x
    rw [hrelay, State.relayLevel, hunack, Bool.and_false]
  · rw [hflag, beq_self_eq_true, Bool.or_true]
  · refine CountersKept.trans (.of_counters ?_) (finish_countersKept s x (by decide))
    rw [← hx]
    rfl
  · rw [← hlist] at hend
    generalize State.finish s x = y at hend hclaim
    subst hx
    rw [hclaim]
    exact hend
  · rw [finish_flag_of_ne h1 h2, htested, hflag, beq_false_of_ne (Ne.symm h3), Bool.or_false]

/-! ## CLEAR COUNTERS and SET MASK (R175, R132, R177) -/

/-- R175: the statistics cleared. -/
def Stats.cleared (t : Stats) : Stats :=
  { t with counters := List.replicate 20 0, histogram := List.replicate 15 0, lastCounter := 0 }

/-- R132: the balance interval restarted. -/
def Feed.cleared (f : Feed) : Feed := { f with makeupAcc := 0, blowdownAcc := 0 }

theorem State.nameLast_of_zero (h : s.stats.lastCounter = 0) : s.nameLast b = s := if_pos (.inl h)

/-- R191: the second owner's taking, when it is the statistics unit's. -/
theorem exec_clearCounters_statistics (hl : Live s) (hp : Posted s .clearCounters) (hc : s.port.clearedBy = some .feed) :
    exec .clearCounters s = .next
      (({ s with stats := s.stats.cleared, port := { s.port with clearedBy := none } } : State).done .ok).driveLines := by
  have htake : s.takeClear = ({ s with stats := s.stats.cleared, port := { s.port with clearedBy := none } } : State).done .ok := by
    rw [State.takeClear, hc, Option.isSome_some, Bool.true_or, if_pos rfl, hp.takeCommand, if_neg Bool.false_ne_true,
      State.conclude_eq_done, State.clearLast, State.nextClearer, hc]
    rfl
  rw [exec_clearCounters, event_of_due hl.1 hp.awaits, htake]
  exact congrArg Host.Outcome.next (finish_of_same rfl rfl rfl rfl rfl rfl (State.nameLast_of_zero rfl))

/-- R191: the second owner's taking, when it is the feed unit's. -/
theorem exec_clearCounters_feed (hl : Live s) (hp : Posted s .clearCounters) (hc : s.port.clearedBy = some .statistics) :
    exec .clearCounters s = .next
      (({ s with feed := s.feed.cleared, port := { s.port with clearedBy := none } } : State).done .ok).driveLines := by
  have htake : s.takeClear = ({ s with feed := s.feed.cleared, port := { s.port with clearedBy := none } } : State).done .ok := by
    rw [State.takeClear, hc, Option.isSome_some, Bool.true_or, if_pos rfl, hp.takeCommand, if_neg Bool.false_ne_true,
      State.conclude_eq_done, State.clearLast, State.nextClearer, hc]
    rfl
  rw [exec_clearCounters, event_of_due hl.1 hp.awaits, htake]
  exact congrArg Host.Outcome.next (finish_of_same rfl rfl rfl rfl rfl rfl (State.nameLast_of_same rfl))

/-- R191: the first owner's taking leaves the command PENDING for the other. -/
theorem exec_clearCounters_first (hl : Live s) (hp : Posted s .clearCounters) (hc : s.port.clearedBy = none) :
    (Config.statisticsClearFirst s.freeIx = true → exec .clearCounters s = .next { s with
      stats := s.stats.cleared, freeIx := s.freeIx + 1, port := { s.port with clearedBy := some .statistics } }) ∧
    (Config.statisticsClearFirst s.freeIx = false → exec .clearCounters s = .next { s with
      feed := s.feed.cleared, freeIx := s.freeIx + 1, port := { s.port with clearedBy := some .feed } }) := by
  have htake : s.takeClear = s.clearedFirst (if Config.statisticsClearFirst s.freeIx then .statistics else .feed) := by
    rw [State.takeClear, hc, Option.isSome_none, hp.badArgument, Bool.or_false, if_neg Bool.false_ne_true,
      State.nextClearer, hc]
  rw [exec_clearCounters, event_of_due hl.1 hp.awaits, htake]
  refine ⟨fun h => ?_, fun h => ?_⟩
  · rw [h, if_pos rfl]
    refine congrArg Host.Outcome.next ((finish_of_same (b := s) (s := s.clearedFirst .statistics) rfl rfl rfl rfl rfl rfl
      (State.nameLast_of_zero rfl)).trans ?_)
    exact driveLines_of_linesFollow (s := s.clearedFirst .statistics) hl.2
  · rw [h, if_neg Bool.false_ne_true]
    refine congrArg Host.Outcome.next ((finish_of_same (b := s) (s := s.clearedFirst .feed) rfl rfl rfl rfl rfl rfl
      (State.nameLast_of_same rfl)).trans ?_)
    exact driveLines_of_linesFollow (hl.2.of_same rfl rfl rfl rfl rfl)

/-- R177: SET MASK. -/
theorem exec_setMask_of_posted (hl : Live s) (hp : s.port.mailbox.state = .pending) (hc : s.port.mailbox.code = 6)
    (hr : s.station.restartPending = false) : exec .setMask s =
      .next (({ s with stats := { s.stats with mask := s.port.mailbox.argument } } : State).done .ok).driveLines := by
  have hawaits : s.awaits .setMask = true := by
    rw [State.awaits, hp, hc, hr]
    rfl
  have hgood : badArgument s.port.mailbox.code s.port.mailbox.argument = false := badArgument_eq_false (.inl hc)
  rw [exec_setMask, event_of_due hl.1 hawaits, State.takeCommand, hgood, if_neg Bool.false_ne_true, if_neg Bool.false_ne_true,
    State.conclude_eq_done]
  exact congrArg Host.Outcome.next (finish_of_port rfl rfl rfl rfl rfl rfl)

/-- Settles O44, command by command. -/
theorem recordCommandsAct : Obligations.RecordCommandsAct := by
  unfold Obligations.RecordCommandsAct
  refine ⟨fun s hh hp hc => acknowledgeActs hh hp hc, fun s hl => ⟨fun hp => ⟨fun hc => ?_, exec_clearCounters_feed hl hp,
    exec_clearCounters_statistics hl hp⟩, exec_setMask_of_posted hl⟩⟩
  obtain ⟨h1, h2⟩ := exec_clearCounters_first hl hp hc
  have hnone : { s.port with clearedBy := none } = s.port := by rw [← hc]
  cases hfree : Config.statisticsClearFirst s.freeIx with
  | true =>
    refine ⟨.inl (h1 hfree), _, h1 hfree, ?_⟩
    refine (exec_clearCounters_feed (s := s.clearedFirst .statistics) hl hp rfl).trans ?_
    exact congrArg (fun p : Port => Host.Outcome.next ((({ s with
      stats := s.stats.cleared, feed := s.feed.cleared, freeIx := s.freeIx + 1, port := p } : State).done .ok).driveLines)) hnone
  | false =>
    refine ⟨.inr (h2 hfree), _, h2 hfree, ?_⟩
    refine (exec_clearCounters_statistics (s := s.clearedFirst .feed) hl hp rfl).trans ?_
    exact congrArg (fun p : Port => Host.Outcome.next ((({ s with
      stats := s.stats.cleared, feed := s.feed.cleared, freeIx := s.freeIx + 1, port := p } : State).done .ok).driveLines)) hnone

end

end Sys2Proof.Machine
end

section
/-! SUPPORT. The panel's reads (R184 to R187): lengths, contents and what a read changes. -/

namespace Sys2Proof.Machine
open Sys2Proof

set_option Elab.async false

/-! ## Lengths of the encodings (R185) -/

section

theorem byte1_length (n : Nat) : (byte1 n).length = 1 := rfl

theorem be16_length (n : Nat) : (be16 n).length = 2 := rfl

theorem be32_length (n : Nat) : (be32 n).length = 4 := rfl

theorem markByte_length (b : Bool) : (markByte b).length = 1 := rfl

theorem known2_length (v : Option Nat) : (known2 v).length = 3 := rfl

theorem time4_length (o : Option Nat) : (time4 o).length = 4 := by cases o <;> rfl

theorem State.valveBytes_length (s : State) (v : Valve) : (s.valveBytes v).length = 2 := rfl

theorem ChannelRec.measure_length (r : ChannelRec) (v : Option Nat) : (r.measure v).length = 7 := rfl

theorem StationFlags.marks_length (f : StationFlags) : f.marks.length = 6 := rfl

theorem FaultSummary.marks_length (f : FaultSummary) : f.marks.length = 4 := rfl

theorem PoolRecord.toBytes_length (r : PoolRecord) : r.toBytes.length = 6 := rfl

theorem flatMap_length {α : Type} (l : List α) (f : α → List Byte) {n : Nat} (h : ∀ x, (f x).length = n) :
    (l.flatMap f).length = n * l.length := by
  induction l with
  | nil => rfl
  | cons x l ih =>
    rw [List.flatMap_cons, List.length_append, h, ih, List.length_cons, Nat.mul_succ, Nat.add_comm]

variable {s : State} {r i : Byte} {p : Pool}

theorem State.stationRecord_length (s : State) : s.stationRecord.length = 15 := by
  have htake : ((s.stats.alarms.flatMap (fun e : AlarmEntry => byte1 e.code)) ++ List.replicate 9 (0 : Byte)).length =
      s.stats.alarms.length + 9 := by
    rw [List.length_append, flatMap_length _ _ (fun e => byte1_length _), List.length_replicate, Nat.one_mul]
  simp only [State.stationRecord, List.length_append, byte1_length, List.length_take] at htake ⊢
  omega

theorem State.measureRecord_length (s : State) : s.measureRecord.length = 49 := by
  simp only [State.measureRecord, List.length_append, ChannelRec.measure_length, known2_length, markByte_length, be16_length]

theorem State.poolRecordBytes_length (s : State) (p : Pool) : (s.poolRecordBytes p).length = 21 := by
  cases p <;> simp only [State.poolRecordBytes, List.length_append, byte1_length, be16_length, Pool.valve,
    State.valveBytes_length, List.length_cons, List.length_nil]

theorem PeerEntry.record_length (e : PeerEntry) : e.record.length = 40 := by
  simp only [PeerEntry.record, List.length_append, byte1_length, be16_length, StationFlags.marks_length,
    FaultSummary.marks_length, PoolRecord.toBytes_length, markByte_length, List.length_cons, List.length_nil]

theorem State.balanceBytes_length (s : State) : s.balanceBytes.length = 30 := by
  simp only [State.balanceBytes, List.length_append, byte1_length, be16_length, be32_length, markByte_length]

theorem State.biocideBytes_length (s : State) : s.biocideBytes.length = 20 := by
  simp only [State.biocideBytes, List.length_append, byte1_length, be16_length, time4_length, markByte_length]

theorem configFieldBytes_length (c : EffConfig) : (configFieldBytes c).length = 60 := by
  unfold configFieldBytes
  simp only [List.length_append, byte1_length, be16_length]

theorem State.configBytes_length (s : State) : s.configBytes.length = 61 := by
  simp only [State.configBytes, List.length_append, markByte_length, configFieldBytes_length]

/-! ## The snapshot event (R184) -/

/-- A read that clears nothing changes what is shifted out alone. -/
theorem State.readRecord_of_kept {m n : Nat} (hl : Live s) (h7 : ¬ (m = 7 ∧ n = 0)) (h11 : ¬ (m = 11 ∧ n = 0)) :
    s.readRecord m n = s.respond (s.snapshot m n).response := by
  have hheld : s.held.isSome = false := by rw [hl.1]; rfl
  rw [State.readRecord, hheld, if_neg Bool.false_ne_true, State.clearOnRead, if_neg h7, if_neg h11]
  exact driveLines_of_linesFollow (s := s.respond _) hl.2

/-- A read of a record of `k` bytes. -/
theorem State.readRecord_of_content {m n k : Nat} {l : List Byte} (hl : Live s) (h7 : ¬ (m = 7 ∧ n = 0))
    (h11 : ¬ (m = 11 ∧ n = 0)) (hc : s.snapshot m n = .content l) (hk : l.length = k) :
    s.readRecord m n = s.respond ([0, BitVec.ofNat 8 k] ++ l) := by
  rw [State.readRecord_of_kept hl h7 h11, hc, Snapshot.response, hk]
  rfl

theorem State.snapshot_pool (s : State) (p : Pool) : s.snapshot 3 p.index = .content (s.poolRecordBytes p) := by
  cases p <;> rfl

theorem State.snapshot_counter {n : Nat} (h1 : 1 ≤ n) (h2 : n ≤ 20) : s.snapshot 5 n = .content (s.counterRecord n) := by
  rw [State.snapshot, if_neg (by omega)]

theorem State.snapshot_peer_some {n : Nat} {e : PeerEntry} (h1 : 1 ≤ n) (h2 : n ≤ 31) (h : s.peerAt n = some e) :
    s.snapshot 4 n = .content e.record := by
  simp only [State.snapshot, if_neg (show ¬ (n = 0 ∨ 31 < n) by omega), h]

theorem State.snapshot_peer_none {n : Nat} (h1 : 1 ≤ n) (h2 : n ≤ 31) (h : s.peerAt n = none) : s.snapshot 4 n = .empty := by
  simp only [State.snapshot, if_neg (show ¬ (n = 0 ∨ 31 < n) by omega), h]

/-- R184: a record and an index that the table does not give. -/
theorem State.snapshot_outOfRange (h : recordIndexInRange r i = false) : s.snapshot r.toNat i.toNat = .outOfRange := by
  unfold recordIndexInRange at h
  unfold State.snapshot
  generalize r.toNat = m at *
  generalize i.toNat = n at *
  split
  case h_6 =>
    refine if_pos ?_
    simp only [Bool.and_eq_false_iff, decide_eq_false_iff_not] at h
    omega
  case h_7 =>
    refine if_pos ?_
    simp only [Bool.and_eq_false_iff, decide_eq_false_iff_not] at h
    omega
  case h_14 => rfl
  all_goals cases h

/-- R176: EVENTS returns the flags and the mask and clears every flag. -/
theorem exec_readEvents_of_live (hl : Live s) : exec .readEvents s = .next
    { s with stats := { s.stats with flags := 0 }
             port := { s.port with response := [0, 8] ++ be32 s.stats.flags.toNat ++ be32 s.stats.mask.toNat
                                   attention := s.station.state == .configFault } } := by
  obtain ⟨hheld, hrelay, -⟩ := hl
  have hread : s.readRecord 7 0 = ({ s.respond ([0, 8] ++ s.eventsRecord) with
      stats := { s.stats with flags := 0 } } : State).driveLines := by
    rw [State.readRecord, hheld, Option.isSome_none, if_neg Bool.false_ne_true]
    rfl
  have hatt : ({ s.respond ([0, 8] ++ s.eventsRecord) with
      stats := { s.stats with flags := 0 } } : State).attentionLevel = (s.station.state == .configFault) := by
    simp [State.attentionLevel, State.respond, hheld]
  have hrel : ({ s.respond ([0, 8] ++ s.eventsRecord) with
      stats := { s.stats with flags := 0 } } : State).relayLevel = s.out.relay := hrelay.symm
  rw [exec_readEvents, hread, State.driveLines, hatt, hrel]
  rfl

/-- R157: RESET CAUSE returns the four marks and clears them. -/
theorem exec_readResetCause_of_live (hl : Live s) : exec .readResetCause s = .next
    { s with station := { s.station with causes := { power := false, pin := false, dip := false, command := false } }
             port := { s.port with response := [0, 4] ++ markByte s.station.causes.power ++
                                     markByte s.station.causes.pin ++ markByte s.station.causes.dip ++
                                     markByte s.station.causes.command } } := by
  obtain ⟨hheld, hlines⟩ := hl
  have hread : s.readRecord 11 0 = ({ s.respond ([0, 4] ++ s.resetCauseBytes) with
      station := { s.station with causes := CauseMarks.clear } } : State).driveLines := by
    rw [State.readRecord, hheld, Option.isSome_none, if_neg Bool.false_ne_true]
    rfl
  rw [exec_readResetCause, hread]
  refine congrArg Host.Outcome.next (Eq.trans (driveLines_of_linesFollow (s := { s.respond ([0, 4] ++ s.resetCauseBytes) with
      station := { s.station with causes := CauseMarks.clear } }) hlines) ?_)
  rfl

/-! ## Contents (R186, R187) -/

theorem flatMap_byte1 (l : List AlarmEntry) :
    l.flatMap (fun e : AlarmEntry => byte1 e.code) = l.map (fun e : AlarmEntry => BitVec.ofNat 8 e.code) := by
  induction l with
  | nil => rfl
  | cons e l ih =>
    rw [List.flatMap_cons, ih]
    rfl

/-- R185: the codes. -/
theorem recordCodes : 
  ([.start, .configFault, .listen, .run, .hold, .isolated, .quiet].map StationState.code = [0, 1, 2, 3, 4, 5, 6]) ∧
   ([.none, .noNumber, .noAnswer, .format, .length, .crc].map FaultReason.code = [0, 1, 2, 3, 4, 5]) ∧
   ([.highConductivity, .lowLevel, .probeFault, .valveFault, .duplicateStation, .isolated, .balanceMismatch,
     .biocideAborted, .configFault].map AlarmKind.code = [1, 2, 3, 4, 5, 6, 7, 8, 9]) ∧
   ([.rest, .asking, .confirming, .holding, .releasing, .stuck, .locked].map EngineState.code = [0, 1, 2, 3, 4, 5, 6]) ∧
   ([.idle, .due, .prebleed, .closing, .dosing, .contact].map Cycle.code = [0, 1, 2, 3, 4, 5]) ∧
   ([.good, .holding, .fault, .off].map ChanState.code = [0, 1, 2, 3]) ∧
   ([.none, .openCheck, .closeCheck, .closeWatch].map Check.code = [0, 1, 2, 3]) ∧
   ([.none, .ok, .mismatch, .skipped, .uncompared].map BalanceResult.code = [0, 1, 2, 3, 4]) ∧
   ([.fresh, .stale].map Freshness.code = [0, 1]) ∧ ([.rising, .falling, .both].map edgeModeCode = [0, 1, 2]) := by
  decide

/-- Settles O42, read by read and record by record. -/
theorem readsReturnTheirRecord : Obligations.ReadsReturnTheirRecord := by
  unfold Obligations.ReadsReturnTheirRecord
  refine ⟨fun p r i s hl => ?_, fun s hl => ⟨exec_readEvents_of_live hl, exec_readResetCause_of_live hl⟩, fun s => ?_,
    recordCodes⟩
  · intro reply
    have hof {m n k : Nat} {l : List Byte} (h7 : ¬ (m = 7 ∧ n = 0)) (h11 : ¬ (m = 11 ∧ n = 0))
        (hc : s.snapshot m n = .content l) (hk : l.length = k) :
        Host.Outcome.next (s.readRecord m n) = reply ([0, BitVec.ofNat 8 k] ++ l) :=
      congrArg Host.Outcome.next (State.readRecord_of_content hl h7 h11 hc hk)
    refine ⟨⟨?_, s.stationRecord_length⟩, ⟨?_, s.measureRecord_length⟩, ⟨?_, s.poolRecordBytes_length p⟩,
      ⟨?_, s.balanceBytes_length⟩, ⟨?_, s.biocideBytes_length⟩, ⟨?_, s.configBytes_length⟩, fun hh => ?_, fun h1 h2 => ?_,
      fun h1 h2 => ?_, fun ho => ?_⟩
    · exact hof (by decide) (by decide) rfl s.stationRecord_length
    · exact hof (by decide) (by decide) rfl s.measureRecord_length
    · exact hof (by omega) (by omega) (s.snapshot_pool p) (s.poolRecordBytes_length p)
    · exact hof (by decide) (by decide) rfl s.balanceBytes_length
    · exact hof (by decide) (by decide) rfl s.biocideBytes_length
    · exact hof (by decide) (by decide) rfl s.configBytes_length
    · exact hof (l := s.histogramRecord) (by decide) (by decide) rfl
        (by rw [State.histogramRecord, flatMap_length _ _ be16_length, hh])
    · rw [List.append_assoc]
      exact hof (l := s.counterRecord i.toNat) (by omega) (by omega) (s.snapshot_counter h1 h2) rfl
    · cases hp : s.peerAt i.toNat with
      | some e => exact hof (by omega) (by omega) (State.snapshot_peer_some h1 h2 hp) e.record_length
      | none =>
        refine congrArg Host.Outcome.next ((State.readRecord_of_kept hl (by omega) (by omega)).trans ?_)
        rw [State.snapshot_peer_none h1 h2 hp]
        rfl
    · have hzero (m : Nat) (hm : recordIndexInRange (BitVec.ofNat 8 m) 0 = true) (hlt : m < 256) :
          ¬ (r.toNat = m ∧ i.toNat = 0) := by
        rintro ⟨h1, h2⟩
        have hr : r = BitVec.ofNat 8 m := by
          rw [← h1]
          simp
        have hi : i = 0 := BitVec.eq_of_toNat_eq h2
        rw [hr, hi, hm] at ho
        cases ho
      refine congrArg Host.Outcome.next ((State.readRecord_of_kept hl (hzero 7 rfl (by decide)) (hzero 11 rfl (by decide))).trans ?_)
      rw [State.snapshot_outOfRange ho]
      rfl
  · intro mark sec time known ago channel marksOf poolHead valve
    have htime (o : Option Nat) : time4 o = time o := by cases o <;> rfl
    have hago (o : Option Nat) : be16 (s.since o) = ago o := by cases o <;> rfl
    have hvalve (v : Valve) : s.valveBytes v = valve v := by
      simp only [State.valveBytes, valve]
      cases (s.valve v).check <;> rfl
    have hpool (p : Pool) (base marks : Nat) (hb : s.poolBase p = base) (hm : s.poolMarks p = marks) :
        s.poolRecordBytes p = poolHead p base marks ++ (p.valve.elim [0, 0] valve) := by
      have hphase : be16 (remaining Config.askWindow 100 (s.engine p).phase) = (match (s.engine p).phase with
          | some t => be16 (roundDiv (2500 - t) 100)
          | none => be16 0xFFFF) := by
        cases (s.engine p).phase <;> rfl
      have hrun : be16 (remaining (s.station.cfg.maxRun p) 1000 (s.engine p).maxRun) = (match (s.engine p).maxRun with
          | some t => be16 (sec (s.station.cfg.maxRun p - t))
          | none => be16 0xFFFF) := by
        cases (s.engine p).maxRun <;> rfl
      rw [State.poolRecordBytes]
      rw [hb, hm, hphase, hrun, hago, hago]
      cases p <;> simp only [Pool.valve, hvalve] <;> rfl
    refine ⟨?_, rfl, ?_, ?_, ?_, fun e => rfl, rfl, ?_, ?_⟩
    · rw [State.stationRecord, flatMap_byte1]
      rfl
    · exact hpool .discharge _ _ rfl rfl
    · exact hpool .supply _ _ rfl rfl
    · exact hpool .biocide _ _ rfl rfl
    · rw [State.biocideBytes, htime, htime, htime]
      cases h : s.bio.phase <;> simp [Sequencer.phaseCode, h] <;> rfl
    · intro c
      have hmode : (if c.mode = .c then 0 else 1) = controlModeCode c.mode := by cases c.mode <;> rfl
      rw [hmode]
      unfold State.configBytes configFieldBytes
      simp only [List.append_assoc, mark, c]

end

end Sys2Proof.Machine
end

section
/-! SUPPORT. The image that a CONFIG record makes (R161, R162, R185). -/

namespace Sys2Proof.Machine
open Sys2Proof

set_option Elab.async false

section
variable {b tail : List Byte} {c : EffConfig}

/-! ## An image in range (R161, R162) -/

/-- The configuration as the bytes of an image spell it, before clamps and repairs. -/
def spelledConfig (b : List Byte) : EffConfig :=
  {
    enableCb := (byteAt b 2).getLsbD 0, enableTb := (byteAt b 2).getLsbD 1, enableCm := (byteAt b 2).getLsbD 2,
    enableTm := (byteAt b 2).getLsbD 3, enableLv := (byteAt b 2).getLsbD 4,
    mode := if nat1At b 3 = 0 then .c else .k, fsB := nat2At b 4, fsM := nat2At b 6, alpha := nat2At b 8,
    sp := nat2At b 10, db := nat2At b 12, hh := nat2At b 14, cyclesSp := nat2At b 16, cyclesDb := nat2At b 18,
    lOn := nat2At b 20, lOff := nat2At b 22, ll := nat2At b 24, kM := nat2At b 26, kB := nat2At b 28,
    edgeMakeup := EdgeMode.ofCode (nat1At b 30 % 4), edgeBlowdown := EdgeMode.ofCode (nat1At b 30 / 4 % 4),
    debounce := nat1At b 31, milliPerLitre := nat2At b 32, strokeInterval := nat1At b 34,
    biocideInterval := nat1At b 35, prebleedDrop := nat1At b 36, feedbackBlowdown := (byteAt b 37).getLsbD 0,
    feedbackMakeup := (byteAt b 37).getLsbD 1, prebleedLimit := nat2At b 38, doseTime := nat2At b 40,
    contactTime := nat2At b 42, capDischarge := nat2At b 44, capSupply := nat2At b 46, capBiocide := nat1At b 48,
    amountBiocide := nat1At b 49, amountDischarge := nat2At b 50, amountSupply := nat2At b 52,
    maxRunDischarge := nat2At b 54, maxRunSupply := nat2At b 56, confirmTime := nat1At b 58,
    tolerance := nat1At b 59, balanceInterval := nat2At b 60 }

/-- R161, R162: an image that no clamp and no repair changes. -/
structure ImageSound (b : List Byte) : Prop where
  range : ∀ f ∈ imageFields, f.lo ≤ f.raw b ∧ f.raw b ≤ f.hi
  enableCb : (byteAt b 2).getLsbD 0 = true
  levels : nat2At b 20 < nat2At b 22
  deadband : nat2At b 12 ≤ nat2At b 10
  discharge : nat2At b 50 ≤ nat2At b 44
  supply : nat2At b 52 ≤ nat2At b 46
  units : nat1At b 49 ≤ nat1At b 48
  edgeMakeup : nat1At b 30 % 4 ≠ 3
  edgeBlowdown : nat1At b 30 / 4 % 4 ≠ 3

theorem ImageField.value_of_range {f : ImageField} (h : f.lo ≤ f.raw b ∧ f.raw b ≤ f.hi) : f.value b = f.raw b := by
  obtain ⟨h1, h2⟩ := h
  rw [ImageField.value, clampNat_eq_max_min (Nat.le_trans h1 h2)]
  omega

theorem ImageSound.value (h : ImageSound b) (f : ImageField) (hf : f ∈ imageFields) : f.value b = f.raw b :=
  ImageField.value_of_range (h.range f hf)

theorem ImageSound.not_outOfRange (h : ImageSound b) : imageOutOfRange b = false := by
  have hfields : imageFields.any (fun f => f.clamped b) = false := by
    rw [List.any_eq_false]
    intro f hf
    rw [ImageField.clamped, h.value f hf, bne_self_eq_false]
    exact Bool.false_ne_true
  rw [imageOutOfRange, hfields, edgeCodes, Bool.false_or]
  dsimp only
  rw [beq_false_of_ne h.edgeMakeup, beq_false_of_ne h.edgeBlowdown, Bool.false_or]

/-- No clamp changes a field of such an image. -/
theorem ImageSound.clamped (h : ImageSound b) : clampedConfig b = spelledConfig b := by
  have hv := h.value
  have hMode : imgMode.value b = nat1At b 3 := hv imgMode (by decide)
  have hFsB : imgFsB.value b = nat2At b 4 := hv imgFsB (by decide)
  have hFsM : imgFsM.value b = nat2At b 6 := hv imgFsM (by decide)
  have hAlpha : imgAlpha.value b = nat2At b 8 := hv imgAlpha (by decide)
  have hSp : imgSp.value b = nat2At b 10 := hv imgSp (by decide)
  have hDb : imgDb.value b = nat2At b 12 := hv imgDb (by decide)
  have hHh : imgHh.value b = nat2At b 14 := hv imgHh (by decide)
  have hCyclesSp : imgCyclesSp.value b = nat2At b 16 := hv imgCyclesSp (by decide)
  have hCyclesDb : imgCyclesDb.value b = nat2At b 18 := hv imgCyclesDb (by decide)
  have hLOn : imgLOn.value b = nat2At b 20 := hv imgLOn (by decide)
  have hLOff : imgLOff.value b = nat2At b 22 := hv imgLOff (by decide)
  have hLl : imgLl.value b = nat2At b 24 := hv imgLl (by decide)
  have hKM : imgKM.value b = nat2At b 26 := hv imgKM (by decide)
  have hKB : imgKB.value b = nat2At b 28 := hv imgKB (by decide)
  have hDebounce : imgDebounce.value b = nat1At b 31 := hv imgDebounce (by decide)
  have hMilli : imgMilli.value b = nat2At b 32 := hv imgMilli (by decide)
  have hStrokeInterval : imgStrokeInterval.value b = nat1At b 34 := hv imgStrokeInterval (by decide)
  have hBiocideInterval : imgBiocideInterval.value b = nat1At b 35 := hv imgBiocideInterval (by decide)
  have hPrebleedDrop : imgPrebleedDrop.value b = nat1At b 36 := hv imgPrebleedDrop (by decide)
  have hPrebleedLimit : imgPrebleedLimit.value b = nat2At b 38 := hv imgPrebleedLimit (by decide)
  have hDoseTime : imgDoseTime.value b = nat2At b 40 := hv imgDoseTime (by decide)
  have hContactTime : imgContactTime.value b = nat2At b 42 := hv imgContactTime (by decide)
  have hCapDischarge : imgCapDischarge.value b = nat2At b 44 := hv imgCapDischarge (by decide)
  have hCapSupply : imgCapSupply.value b = nat2At b 46 := hv imgCapSupply (by decide)
  have hCapBiocide : imgCapBiocide.value b = nat1At b 48 := hv imgCapBiocide (by decide)
  have hUnits : imgUnits.value b = nat1At b 49 := hv imgUnits (by decide)
  have hAmountDischarge : imgAmountDischarge.value b = nat2At b 50 := hv imgAmountDischarge (by decide)
  have hAmountSupply : imgAmountSupply.value b = nat2At b 52 := hv imgAmountSupply (by decide)
  have hMaxRunDischarge : imgMaxRunDischarge.value b = nat2At b 54 := hv imgMaxRunDischarge (by decide)
  have hMaxRunSupply : imgMaxRunSupply.value b = nat2At b 56 := hv imgMaxRunSupply (by decide)
  have hConfirm : imgConfirm.value b = nat1At b 58 := hv imgConfirm (by decide)
  have hTolerance : imgTolerance.value b = nat1At b 59 := hv imgTolerance (by decide)
  have hBalanceInterval : imgBalanceInterval.value b = nat2At b 60 := hv imgBalanceInterval (by decide)
  rw [clampedConfig, spelledConfig]
  simp only [
    hMode, hFsB, hFsM, hAlpha, hSp, hDb, hHh, hCyclesSp, hCyclesDb, hLOn, hLOff, hLl, hKM, hKB, hDebounce, hMilli,
    hStrokeInterval, hBiocideInterval, hPrebleedDrop, hPrebleedLimit, hDoseTime, hContactTime, hCapDischarge,
    hCapSupply, hCapBiocide, hUnits, hAmountDischarge, hAmountSupply, hMaxRunDischarge, hMaxRunSupply, hConfirm,
    hTolerance, hBalanceInterval,
    edgeCodes]

/-- R162, R35: no repair changes such an image. -/
theorem ImageSound.effective (h : ImageSound b) : effectiveConfig b = clampedConfig b := by
  have hLOn : imgLOn.value b = nat2At b 20 := h.value imgLOn (by decide)
  have hLOff : imgLOff.value b = nat2At b 22 := h.value imgLOff (by decide)
  have hDb : imgDb.value b ≤ imgSp.value b := by
    rw [h.value imgDb (by decide), h.value imgSp (by decide)]
    exact h.deadband
  have hDischarge : imgAmountDischarge.value b ≤ imgCapDischarge.value b := by
    rw [h.value imgAmountDischarge (by decide), h.value imgCapDischarge (by decide)]
    exact h.discharge
  have hSupply : imgAmountSupply.value b ≤ imgCapSupply.value b := by
    rw [h.value imgAmountSupply (by decide), h.value imgCapSupply (by decide)]
    exact h.supply
  have hUnits : imgUnits.value b ≤ imgCapBiocide.value b := by
    rw [h.value imgUnits (by decide), h.value imgCapBiocide (by decide)]
    exact h.units
  have hlevel : ¬ imgLOff.value b ≤ imgLOn.value b := by
    rw [hLOn, hLOff]
    exact Nat.not_le.mpr h.levels
  rw [effectiveConfig_eq, if_neg hlevel, if_neg hlevel, Nat.min_eq_left hDb, Nat.min_eq_left hDischarge,
    Nat.min_eq_left hSupply, Nat.min_eq_left hUnits, ← h.enableCb]
  rfl

theorem ImageSound.loads (h : ImageSound b) : configClampedBy b = false ∧ effectiveConfig b = spelledConfig b := by
  rw [configClampedBy, h.not_outOfRange, h.effective, bne_self_eq_false, h.clamped]
  exact ⟨rfl, rfl⟩

/-! ## The image of a record (R185) -/

/-- The image made of a CONFIG record's field bytes. -/
def imageOf (c : EffConfig) (tail : List Byte) : List Byte := [0x4B, 64] ++ configFieldBytes c ++ tail

theorem imageOf_eq (c : EffConfig) (tail : List Byte) : imageOf c tail =
    0x4B :: 64 ::
    BitVec.ofNat 8 (bitIf c.enableCb 0 + bitIf c.enableTb 1 + bitIf c.enableCm 2 + bitIf c.enableTm 3 + bitIf c.enableLv 4) ::
    BitVec.ofNat 8 (controlModeCode c.mode) :: BitVec.ofNat 8 (c.fsB / 256) :: BitVec.ofNat 8 c.fsB ::
    BitVec.ofNat 8 (c.fsM / 256) :: BitVec.ofNat 8 c.fsM :: BitVec.ofNat 8 (c.alpha / 256) :: BitVec.ofNat 8 c.alpha ::
    BitVec.ofNat 8 (c.sp / 256) :: BitVec.ofNat 8 c.sp :: BitVec.ofNat 8 (c.db / 256) :: BitVec.ofNat 8 c.db ::
    BitVec.ofNat 8 (c.hh / 256) :: BitVec.ofNat 8 c.hh :: BitVec.ofNat 8 (c.cyclesSp / 256) ::
    BitVec.ofNat 8 c.cyclesSp :: BitVec.ofNat 8 (c.cyclesDb / 256) :: BitVec.ofNat 8 c.cyclesDb ::
    BitVec.ofNat 8 (c.lOn / 256) :: BitVec.ofNat 8 c.lOn :: BitVec.ofNat 8 (c.lOff / 256) :: BitVec.ofNat 8 c.lOff ::
    BitVec.ofNat 8 (c.ll / 256) :: BitVec.ofNat 8 c.ll :: BitVec.ofNat 8 (c.kM / 256) :: BitVec.ofNat 8 c.kM ::
    BitVec.ofNat 8 (c.kB / 256) :: BitVec.ofNat 8 c.kB ::
    BitVec.ofNat 8 (edgeModeCode c.edgeMakeup + 4 * edgeModeCode c.edgeBlowdown) :: BitVec.ofNat 8 c.debounce ::
    BitVec.ofNat 8 (c.milliPerLitre / 256) :: BitVec.ofNat 8 c.milliPerLitre :: BitVec.ofNat 8 c.strokeInterval ::
    BitVec.ofNat 8 c.biocideInterval :: BitVec.ofNat 8 c.prebleedDrop ::
    BitVec.ofNat 8 (bitIf c.feedbackBlowdown 0 + bitIf c.feedbackMakeup 1) :: BitVec.ofNat 8 (c.prebleedLimit / 256) ::
    BitVec.ofNat 8 c.prebleedLimit :: BitVec.ofNat 8 (c.doseTime / 256) :: BitVec.ofNat 8 c.doseTime ::
    BitVec.ofNat 8 (c.contactTime / 256) :: BitVec.ofNat 8 c.contactTime :: BitVec.ofNat 8 (c.capDischarge / 256) ::
    BitVec.ofNat 8 c.capDischarge :: BitVec.ofNat 8 (c.capSupply / 256) :: BitVec.ofNat 8 c.capSupply ::
    BitVec.ofNat 8 c.capBiocide :: BitVec.ofNat 8 c.amountBiocide :: BitVec.ofNat 8 (c.amountDischarge / 256) ::
    BitVec.ofNat 8 c.amountDischarge :: BitVec.ofNat 8 (c.amountSupply / 256) :: BitVec.ofNat 8 c.amountSupply ::
    BitVec.ofNat 8 (c.maxRunDischarge / 256) :: BitVec.ofNat 8 c.maxRunDischarge ::
    BitVec.ofNat 8 (c.maxRunSupply / 256) :: BitVec.ofNat 8 c.maxRunSupply :: BitVec.ofNat 8 c.confirmTime ::
    BitVec.ofNat 8 c.tolerance :: BitVec.ofNat 8 (c.balanceInterval / 256) :: BitVec.ofNat 8 c.balanceInterval :: tail := by
  unfold imageOf configFieldBytes
  simp only [byte1, be16, List.cons_append, List.nil_append]

theorem byte1_value {n : Nat} (h : n < 256) : (BitVec.ofNat 8 n).toNat = n := by
  rw [BitVec.toNat_ofNat, Nat.mod_eq_of_lt h]

theorem be16_value {n : Nat} (h : n < 65536) : (BitVec.ofNat 8 (n / 256)).toNat * 256 + (BitVec.ofNat 8 n).toNat = n := by
  rw [BitVec.toNat_ofNat, BitVec.toNat_ofNat]
  omega

theorem bitIf_bits : ∀ x0 x1 x2 x3 x4 : Bool,
    let m : Byte := BitVec.ofNat 8 (bitIf x0 0 + bitIf x1 1 + bitIf x2 2 + bitIf x3 3 + bitIf x4 4)
    m.getLsbD 0 = x0 ∧ m.getLsbD 1 = x1 ∧ m.getLsbD 2 = x2 ∧ m.getLsbD 3 = x3 ∧ m.getLsbD 4 = x4 := by decide

theorem bitIf_two_bits : ∀ x0 x1 : Bool,
    let m : Byte := BitVec.ofNat 8 (bitIf x0 0 + bitIf x1 1)
    m.getLsbD 0 = x0 ∧ m.getLsbD 1 = x1 := by decide

/-- The edge modes of byte 30. -/
theorem edge_codes (m n : EdgeMode) :
    let k := (BitVec.ofNat 8 (edgeModeCode m + 4 * edgeModeCode n)).toNat
    EdgeMode.ofCode (k % 4) = m ∧ EdgeMode.ofCode (k / 4 % 4) = n ∧ k % 4 ≠ 3 ∧ k / 4 % 4 ≠ 3 := by
  cases m <;> cases n <;> decide

/-- The bytes of a CONFIG record in range spell its configuration. -/
theorem spelledConfig_imageOf (b tail : List Byte) :
    spelledConfig (imageOf (effectiveConfig b) tail) = effectiveConfig b := by
  have hrange := effectiveConfigurationIsInRange b
  generalize effectiveConfig b = c at *
  obtain ⟨-, r1, r2, r3, r4, r5, r6, r7, r8, r9, r10, r11, r12, r13, r14, r15, r16, r17, r18, r19, r20, r21, r22, r23, ha,
    r24, r25, r26, r27, r28⟩ := hrange
  have hd : c.amountDischarge ≤ c.capDischarge := (ha .discharge).2
  have hs : c.amountSupply ≤ c.capSupply := (ha .supply).2
  have hu : c.amountBiocide ≤ c.capBiocide := (ha .biocide).2
  have hi := imageOf_eq c tail
  generalize imageOf c tail = i at hi ⊢
  have hFsB : nat2At i 4 = c.fsB := by rw [hi]; exact be16_value (by omega)
  have hFsM : nat2At i 6 = c.fsM := by rw [hi]; exact be16_value (by omega)
  have hAlpha : nat2At i 8 = c.alpha := by rw [hi]; exact be16_value (by omega)
  have hSp : nat2At i 10 = c.sp := by rw [hi]; exact be16_value (by omega)
  have hDb : nat2At i 12 = c.db := by rw [hi]; exact be16_value (by omega)
  have hHh : nat2At i 14 = c.hh := by rw [hi]; exact be16_value (by omega)
  have hCyclesSp : nat2At i 16 = c.cyclesSp := by rw [hi]; exact be16_value (by omega)
  have hCyclesDb : nat2At i 18 = c.cyclesDb := by rw [hi]; exact be16_value (by omega)
  have hLOn : nat2At i 20 = c.lOn := by rw [hi]; exact be16_value (by omega)
  have hLOff : nat2At i 22 = c.lOff := by rw [hi]; exact be16_value (by omega)
  have hLl : nat2At i 24 = c.ll := by rw [hi]; exact be16_value (by omega)
  have hKM : nat2At i 26 = c.kM := by rw [hi]; exact be16_value (by omega)
  have hKB : nat2At i 28 = c.kB := by rw [hi]; exact be16_value (by omega)
  have hDebounce : nat1At i 31 = c.debounce := by rw [hi]; exact byte1_value (by omega)
  have hMilli : nat2At i 32 = c.milliPerLitre := by rw [hi]; exact be16_value (by omega)
  have hStrokeInterval : nat1At i 34 = c.strokeInterval := by rw [hi]; exact byte1_value (by omega)
  have hBiocideInterval : nat1At i 35 = c.biocideInterval := by rw [hi]; exact byte1_value (by omega)
  have hPrebleedDrop : nat1At i 36 = c.prebleedDrop := by rw [hi]; exact byte1_value (by omega)
  have hPrebleedLimit : nat2At i 38 = c.prebleedLimit := by rw [hi]; exact be16_value (by omega)
  have hDoseTime : nat2At i 40 = c.doseTime := by rw [hi]; exact be16_value (by omega)
  have hContactTime : nat2At i 42 = c.contactTime := by rw [hi]; exact be16_value (by omega)
  have hCapDischarge : nat2At i 44 = c.capDischarge := by rw [hi]; exact be16_value (by omega)
  have hCapSupply : nat2At i 46 = c.capSupply := by rw [hi]; exact be16_value (by omega)
  have hCapBiocide : nat1At i 48 = c.capBiocide := by rw [hi]; exact byte1_value (by omega)
  have hUnits : nat1At i 49 = c.amountBiocide := by rw [hi]; exact byte1_value (by omega)
  have hAmountDischarge : nat2At i 50 = c.amountDischarge := by rw [hi]; exact be16_value (by omega)
  have hAmountSupply : nat2At i 52 = c.amountSupply := by rw [hi]; exact be16_value (by omega)
  have hMaxRunDischarge : nat2At i 54 = c.maxRunDischarge := by rw [hi]; exact be16_value (by omega)
  have hMaxRunSupply : nat2At i 56 = c.maxRunSupply := by rw [hi]; exact be16_value (by omega)
  have hConfirm : nat1At i 58 = c.confirmTime := by rw [hi]; exact byte1_value (by omega)
  have hTolerance : nat1At i 59 = c.tolerance := by rw [hi]; exact byte1_value (by omega)
  have hBalanceInterval : nat2At i 60 = c.balanceInterval := by rw [hi]; exact be16_value (by omega)
  have h2 : byteAt i 2 = BitVec.ofNat 8
      (bitIf c.enableCb 0 + bitIf c.enableTb 1 + bitIf c.enableCm 2 + bitIf c.enableTm 3 + bitIf c.enableLv 4) := by
    rw [hi]; rfl
  have h37 : byteAt i 37 = BitVec.ofNat 8 (bitIf c.feedbackBlowdown 0 + bitIf c.feedbackMakeup 1) := by rw [hi]; rfl
  have h30 : nat1At i 30 = (BitVec.ofNat 8 (edgeModeCode c.edgeMakeup + 4 * edgeModeCode c.edgeBlowdown)).toNat := by
    rw [hi]; rfl
  have hmode : (if nat1At i 3 = 0 then ControlMode.c else .k) = c.mode := by
    have h3 : nat1At i 3 = (BitVec.ofNat 8 (controlModeCode c.mode)).toNat := by rw [hi]; rfl
    rw [h3]
    cases c.mode <;> rfl
  obtain ⟨hcb, htb, hcm, htm, hlv⟩ := bitIf_bits c.enableCb c.enableTb c.enableCm c.enableTm c.enableLv
  obtain ⟨hfb1, hfb2⟩ := bitIf_two_bits c.feedbackBlowdown c.feedbackMakeup
  obtain ⟨hedge1, hedge2, -⟩ := edge_codes c.edgeMakeup c.edgeBlowdown
  rw [← h2] at hcb htb hcm htm hlv
  rw [← h37] at hfb1 hfb2
  rw [← h30] at hedge1 hedge2
  rw [spelledConfig]
  simp only [
    hFsB, hFsM, hAlpha, hSp, hDb, hHh, hCyclesSp, hCyclesDb, hLOn, hLOff, hLl, hKM, hKB, hDebounce, hMilli,
    hStrokeInterval, hBiocideInterval, hPrebleedDrop, hPrebleedLimit, hDoseTime, hContactTime, hCapDischarge,
    hCapSupply, hCapBiocide, hUnits, hAmountDischarge, hAmountSupply, hMaxRunDischarge, hMaxRunSupply, hConfirm,
    hTolerance, hBalanceInterval, hcb, htb, hcm, htm, hlv, hmode, hedge1, hedge2, hfb1, hfb2]

/-- R161: the amounts keep the range of their fields. -/
theorem effectiveConfig_amounts (b : List Byte) :
    (effectiveConfig b).amountDischarge ≤ 1000 ∧ (effectiveConfig b).amountSupply ≤ 2000 := by
  obtain ⟨-, h1⟩ := ImageField.value_mem (f := imgAmountDischarge) (by decide) b
  obtain ⟨-, h2⟩ := ImageField.value_mem (f := imgAmountSupply) (by decide) b
  rw [effectiveConfig_eq]
  exact ⟨Nat.le_trans (Nat.min_le_left _ _) h1, Nat.le_trans (Nat.min_le_left _ _) h2⟩

/-- R161: such an image is in range. -/
theorem imageOf_sound (b tail : List Byte) : ImageSound (imageOf (effectiveConfig b) tail) := by
  have hspelled := spelledConfig_imageOf b tail
  have hrange := effectiveConfigurationIsInRange b
  obtain ⟨had, has⟩ := effectiveConfig_amounts b
  rw [← hspelled] at hrange had has
  have h30 : nat1At (imageOf (effectiveConfig b) tail) 30 = (BitVec.ofNat 8
      (edgeModeCode (effectiveConfig b).edgeMakeup + 4 * edgeModeCode (effectiveConfig b).edgeBlowdown)).toNat := by
    rw [imageOf_eq]; rfl
  have h3 : nat1At (imageOf (effectiveConfig b) tail) 3 = (BitVec.ofNat 8 (controlModeCode (effectiveConfig b).mode)).toNat := by
    rw [imageOf_eq]; rfl
  have hmode : nat1At (imageOf (effectiveConfig b) tail) 3 ≤ 1 := by
    rw [h3]
    cases (effectiveConfig b).mode <;> decide
  obtain ⟨-, -, hedge1, hedge2⟩ := edge_codes (effectiveConfig b).edgeMakeup (effectiveConfig b).edgeBlowdown
  rw [← h30] at hedge1 hedge2
  generalize imageOf (effectiveConfig b) tail = i at *
  obtain ⟨hcb, r1, r2, r3, r4, r5, r6, r7, r8, r9, r10, r11, r12, r13, r14, r15, r16, r17, r18, r19, r20, r21, r22, r23, ha,
    r24, r25, r26, r27, r28⟩ := hrange
  obtain ⟨hd1, hd2⟩ := ha .discharge
  obtain ⟨hs1, hs2⟩ := ha .supply
  obtain ⟨hu1, hu2⟩ := ha .biocide
  obtain ⟨hdb1, hdb2, hdb3⟩ := r5
  obtain ⟨hl1, hl2⟩ := r9
  refine { range := ?_, enableCb := hcb, levels := hl1, deadband := hdb3, discharge := hd2, supply := hs2, units := hu2
           edgeMakeup := hedge1, edgeBlowdown := hedge2 }
  simp only [imageFields, List.cons_append, List.nil_append, List.forall_mem_cons, List.not_mem_nil, false_implies,
    implies_true, and_true]
  exact ⟨⟨Nat.zero_le _, hmode⟩, r1, r2, r3, r4, ⟨hdb1, hdb2⟩, r6, r7, r8, ⟨Nat.zero_le _, Nat.le_trans (Nat.le_of_lt hl1) hl2⟩, ⟨Nat.zero_le _, hl2⟩,
    ⟨Nat.zero_le _, r10⟩, r11, r12, r13, r14, r15, r16, ⟨Nat.zero_le _, r17⟩, r18, r19, r20, r21, r22, r23,
    ⟨hu1, Nat.le_trans hu2 r23.2⟩, ⟨hd1, had⟩, ⟨hs1, has⟩, r24, r25, r26, r27, r28⟩

theorem EdgeMode.ofCode_eq (n : Nat) : EdgeMode.ofCode n = if n = 0 then .rising else if n = 1 then .falling else .both := by
  match n with
  | 0 => rfl
  | 1 => rfl
  | n + 2 => rw [if_neg (by omega), if_neg (by omega)]; rfl

/-- Settles O51: the record's bytes are an image in range, and such an image loads as it is spelled. -/
theorem configRecordReloadsUnchanged : Obligations.ConfigRecordReloadsUnchanged := by
  unfold Obligations.ConfigRecordReloadsUnchanged
  refine ⟨fun b tail => ?_, fun b hrange hcb hl hdb hd hs hu he1 he2 => ?_⟩
  · obtain ⟨h1, h2⟩ := (imageOf_sound b tail).loads
    exact ⟨h2.trans (spelledConfig_imageOf b tail), h1⟩
  · obtain ⟨h1, h2⟩ := ImageSound.loads ⟨hrange, hcb, hl, hdb, hd, hs, hu, he1, he2⟩
    refine ⟨h1, h2.trans ?_⟩
    rw [spelledConfig, hcb, EdgeMode.ofCode_eq, EdgeMode.ofCode_eq]

end

end Sys2Proof.Machine
end

section
/-! SUPPORT. A REPORT as its reader finds it (R67, R82, R86, R87, R89). -/

namespace Sys2Proof.Machine
open Sys2Proof

set_option Elab.async false

section
variable {s : State} {f : TxFrame} {seq : Byte}

/-! ## The frame passes every check (R82, R89) -/

/-- The bytes of a frame that the CRC covers. -/
def TxFrame.covered (f : TxFrame) (seq : Byte) : List Byte := [f.kind.code, f.source, seq, f.flags] ++ f.payload

theorem TxFrame.encode_eq (f : TxFrame) (seq : Byte) :
    f.encode seq = 0xB4 :: (f.covered seq ++ crcBytes (f.covered seq)) := rfl

theorem crcBytes_length (l : List Byte) : (crcBytes l).length = 2 := rfl

theorem TxFrame.encode_length (f : TxFrame) (seq : Byte) : (f.encode seq).length = f.payload.length + 7 := by
  rw [TxFrame.encode_eq, List.length_cons, List.length_append, crcBytes_length, TxFrame.covered, List.length_append,
    List.length_cons, List.length_cons, List.length_cons, List.length_cons, List.length_nil]
  omega

/-- R82: a report of a station that the frame names is good. -/
theorem frameVerdict_encode (hk : f.kind = .report) (hp : f.payload.length = 24) (hs : f.source ≠ 0) :
    frameVerdict ((f.encode seq).map (fun b => { byte := b, framingError := false })) = .good := by
  have hbytes : ((f.encode seq).map (fun b => ({ byte := b, framingError := false } : RxChar))).map RxChar.byte =
      f.encode seq := by
    rw [List.map_map]
    exact List.map_id _
  have hframing : ((f.encode seq).map (fun b => ({ byte := b, framingError := false } : RxChar))).any
      RxChar.framingError = false := by
    rw [List.any_eq_false]
    intro c hc
    obtain ⟨x, -, rfl⟩ := List.mem_map.mp hc
    exact Bool.false_ne_true
  have hlen : (f.encode seq).length = 31 := by rw [TxFrame.encode_length, hp]
  have hcov : (f.covered seq).length = 28 := by
    rw [TxFrame.covered, List.length_append, hp]
    rfl
  have hcrc : crcBytes (((f.encode seq).take 29).drop 1) = (f.encode seq).drop 29 := by
    rw [TxFrame.encode_eq, List.take_succ_cons, List.drop_succ_cons, List.drop_zero, List.drop_succ_cons, ← hcov,
      List.take_left, List.drop_left]
  have h1 : byteAt (f.encode seq) 1 = 1 := by
    have hkind : byteAt (f.encode seq) 1 = f.kind.code := rfl
    rw [hkind, hk]
    rfl
  have h2 : byteAt (f.encode seq) 2 = f.source := rfl
  rw [frameVerdict, hbytes]
  simp only [hframing, hlen, hcrc, h1, h2, hs]
  simp
  rfl

/-! ## The entry made from it (R67) -/

theorem State.reportPayload_length (s : State) : s.reportPayload.length = 24 := by
  simp only [State.reportPayload, List.length_append, PoolRecord.toBytes_length, be16_length, byte1_length, List.length_cons,
    List.length_nil]

theorem byteAt_append_right (l m : List Byte) (i : Nat) : byteAt (l ++ m) (l.length + i) = byteAt m i := by
  rw [byteAt, byteAt, getD_append_of_ge (Nat.le_add_right _ _), Nat.add_sub_cancel_left]

theorem EngineState.ofCode_code (e : EngineState) : EngineState.ofCode (BitVec.ofNat 8 e.code).toNat = e := by
  cases e <;> rfl

/-- A pool record whose numbers fit their bytes is read as it was sent. -/
theorem PoolRecord.ofBytes_append {r : PoolRecord} (ha : r.amount < 65536) (hu : r.urgency < 256) (hc : r.cap < 65536)
    (l m : List Byte) : PoolRecord.ofBytes (l ++ (r.toBytes ++ m)) l.length = r := by
  have hbyte (i : Nat) : byteAt (l ++ (r.toBytes ++ m)) (l.length + i) = byteAt (r.toBytes ++ m) i :=
    byteAt_append_right _ _ _
  have hstate : EngineState.ofCode (nat1At (l ++ (r.toBytes ++ m)) l.length) = r.state := by
    rw [nat1At, ← Nat.add_zero l.length, hbyte]
    exact EngineState.ofCode_code r.state
  have hamount : nat2At (l ++ (r.toBytes ++ m)) (l.length + 1) = r.amount := by
    rw [nat2At, nat1At, nat1At, Nat.add_assoc, hbyte, hbyte]
    exact be16_value ha
  have hurgency : nat1At (l ++ (r.toBytes ++ m)) (l.length + 3) = r.urgency := by
    rw [nat1At, hbyte]
    exact byte1_value hu
  have hcap : nat2At (l ++ (r.toBytes ++ m)) (l.length + 4) = r.cap := by
    rw [nat2At, nat1At, nat1At, Nat.add_assoc, hbyte, hbyte]
    exact be16_value hc
  rw [PoolRecord.ofBytes, hstate, hamount, hurgency, hcap]

theorem StationFlags.ofByte_toByte (g : StationFlags) : StationFlags.ofByte g.toByte = g := by
  have h : ∀ x0 x1 x2 x3 x4 x5 : Bool,
      let m : Byte := BitVec.ofNat 8 (bitIf x0 0 + bitIf x1 1 + bitIf x2 2 + bitIf x3 3 + bitIf x4 4 + bitIf x5 5)
      m.getLsbD 0 = x0 ∧ m.getLsbD 1 = x1 ∧ m.getLsbD 2 = x2 ∧ m.getLsbD 3 = x3 ∧ m.getLsbD 4 = x4 ∧ m.getLsbD 5 = x5 := by
    decide
  obtain ⟨h0, h1, h2, h3, h4, h5⟩ := h g.listening g.hold g.isolated g.alarm g.capMismatch g.modeK
  rw [StationFlags.ofByte, StationFlags.toByte, h0, h1, h2, h3, h4, h5]

theorem FaultSummary.ofByte_toByte (g : FaultSummary) : FaultSummary.ofByte g.toByte = g := by
  have h : ∀ x0 x1 x2 x3 : Bool,
      let m : Byte := BitVec.ofNat 8 (bitIf x0 0 + bitIf x1 1 + bitIf x2 2 + bitIf x3 3)
      m.getLsbD 0 = x0 ∧ m.getLsbD 1 = x1 ∧ m.getLsbD 2 = x2 ∧ m.getLsbD 3 = x3 := by
    decide
  obtain ⟨h0, h1, h2, h3⟩ := h g.probe g.valve g.balance g.backlog
  rw [FaultSummary.ofByte, FaultSummary.toByte, h0, h1, h2, h3]

/-- R62: the urgency a record carries fits a byte where the held one does. -/
theorem Engine.reportedUrgency_lt (e : Engine) (h : e.heldUrgency < 256) : e.reportedUrgency < 256 := by
  have hu : e.urgency < 256 := Nat.lt_succ_of_le (Nat.min_le_left _ _)
  rw [Engine.reportedUrgency]
  cases e.state
  case confirming => exact h
  case holding => exact h
  all_goals exact hu

theorem Cycle.code_lt (c : Cycle) : c.code < 256 := by cases c <;> decide

/-- The head of a REPORT, before its payload. -/
def State.reportHead (s : State) (seq : Byte) : List Byte :=
  [0xB4, 1, BitVec.ofNat 8 s.station.number, seq, s.stationFlags.toByte]

/-- The end of a REPORT, after its pool records. -/
def State.reportEnd (s : State) (seq : Byte) : List Byte :=
  be16 (s.meas.derived.k25B.getD 0) ++ (be16 (s.meas.derived.coc.getD 0) ++ (byte1 s.bio.cycle.code ++
    (s.faultSummary.toByte :: crcBytes (s.reportFrame.covered seq))))

theorem State.reportFrame_encode (s : State) (seq : Byte) : s.reportFrame.encode seq =
    s.reportHead seq ++ ((s.poolRecord .discharge).toBytes ++ ((s.poolRecord .supply).toBytes ++
      ((s.poolRecord .biocide).toBytes ++ s.reportEnd seq))) := by
  have hpayload : s.reportFrame.payload = s.reportPayload := rfl
  rw [TxFrame.encode_eq, State.reportEnd]
  generalize crcBytes (s.reportFrame.covered seq) = l
  rw [TxFrame.covered, hpayload, State.reportPayload]
  simp only [List.append_assoc, List.cons_append, List.nil_append, State.reportHead]
  rfl

/-- The fields after the pool records. -/
theorem State.reportEnd_fields (s : State) (seq : Byte) (hk : s.meas.derived.k25B.getD 0 < 65536)
    (hc : s.meas.derived.coc.getD 0 < 65536) (l : List Byte) (hl : l.length = 23) :
    nat2At (l ++ s.reportEnd seq) 23 = s.meas.derived.k25B.getD 0 ∧
    nat2At (l ++ s.reportEnd seq) 25 = s.meas.derived.coc.getD 0 ∧
    nat1At (l ++ s.reportEnd seq) 27 = s.bio.cycle.code ∧
    FaultSummary.ofByte (byteAt (l ++ s.reportEnd seq) 28) = s.faultSummary := by
  have hbyte (i : Nat) : byteAt (l ++ s.reportEnd seq) (23 + i) = byteAt (s.reportEnd seq) i := by
    rw [← hl]
    exact byteAt_append_right _ _ _
  have h0 := hbyte 0
  have h1 := hbyte 1
  have h2 := hbyte 2
  have h3 := hbyte 3
  have h4 := hbyte 4
  have h5 := hbyte 5
  refine ⟨?_, ?_, ?_, ?_⟩
  · rw [nat2At, nat1At, nat1At, h0, h1]
    exact be16_value hk
  · rw [nat2At, nat1At, nat1At, h2, h3]
    exact be16_value hc
  · rw [nat1At, h4]
    exact byte1_value (Cycle.code_lt _)
  · rw [h5]
    exact FaultSummary.ofByte_toByte _

/-- Settles O50: the frame passes the checks, and each field is read where it was written. -/
theorem ownReportIsReadAsComposed : Obligations.OwnReportIsReadAsComposed := by
  unfold Obligations.OwnReportIsReadAsComposed
  intro seq s h1 h31 hp hk hc
  have hsource : (BitVec.ofNat 8 s.station.number).toNat = s.station.number := byte1_value (by omega)
  refine ⟨frameVerdict_encode rfl s.reportPayload_length (fun h => ?_), ?_⟩
  · have hzero : (BitVec.ofNat 8 s.station.number).toNat = 0 := congrArg BitVec.toNat h
    omega
  have hrecord (p : Pool) (l m : List Byte) : PoolRecord.ofBytes (l ++ ((s.poolRecord p).toBytes ++ m)) l.length =
      s.poolRecord p := by
    obtain ⟨ha, hu, hcap⟩ := hp p
    exact PoolRecord.ofBytes_append ha (Engine.reportedUrgency_lt _ hu) hcap l m
  have hd := hrecord .discharge (s.reportHead seq)
    ((s.poolRecord .supply).toBytes ++ ((s.poolRecord .biocide).toBytes ++ s.reportEnd seq))
  have hs := hrecord .supply (s.reportHead seq ++ (s.poolRecord .discharge).toBytes)
    ((s.poolRecord .biocide).toBytes ++ s.reportEnd seq)
  have hb := hrecord .biocide (s.reportHead seq ++ (s.poolRecord .discharge).toBytes ++ (s.poolRecord .supply).toBytes)
    (s.reportEnd seq)
  have hend := s.reportEnd_fields seq hk hc (s.reportHead seq ++ (s.poolRecord .discharge).toBytes ++
    (s.poolRecord .supply).toBytes ++ (s.poolRecord .biocide).toBytes) rfl
  simp only [List.append_assoc, ← State.reportFrame_encode] at hd hs hb hend
  have hnumber : nat1At (s.reportFrame.encode seq) 2 = s.station.number := hsource
  have hflags : StationFlags.ofByte (byteAt (s.reportFrame.encode seq) 4) = s.stationFlags := StationFlags.ofByte_toByte _
  have hseq : byteAt (s.reportFrame.encode seq) 3 = seq := rfl
  obtain ⟨e1, e2, e3, e4⟩ := hend
  have hd' : PoolRecord.ofBytes (s.reportFrame.encode seq) 5 = s.poolRecord .discharge := hd
  have hs' : PoolRecord.ofBytes (s.reportFrame.encode seq) 11 = s.poolRecord .supply := hs
  have hb' : PoolRecord.ofBytes (s.reportFrame.encode seq) 17 = s.poolRecord .biocide := hb
  rw [PeerEntry.ofReport, hnumber, hseq, hflags, hd', hs', hb', e1, e2, e3, e4]

end

end Sys2Proof.Machine
end

section
/-! SUPPORT. Leaving the working states for HOLD and ISOLATED (R61, R148, R155, R166, R167): what the abort and the forced
releases leave. -/

namespace Sys2Proof.Machine
open Sys2Proof

set_option Elab.async false

section
variable {b s t u : State} {p : Pool}

/-! ## Aborts and forced releases together -/

/-- What station control's aborts and forced releases leave of a state. -/
structure Halted (s t : State) : Prop where
  confined : Confined s t
  flags : FlagsKept s t
  inactive : ∀ k, k ≠ .biocideAborted → Inactive k s → Inactive k t
  latched : ∀ k, Latched k s → Latched k t
  steady : Steady s t
  quiet : s.bio.cycle.abortable = false → t.bio = s.bio ∧ t.demand = s.demand

theorem Steady.trans (h : Steady s t) (k : Steady t u) : Steady s u := by
  obtain ⟨h1, h2, h3, h4, h5, h6⟩ := h
  obtain ⟨k1, k2, k3, k4, k5, k6⟩ := k
  exact ⟨k1.trans h1, k2.trans h2, k3.trans h3, k4.trans h4, k5.trans h5, k6.trans h6⟩

theorem Halted.refl (s : State) : Halted s s :=
  ⟨.refl s, .of_flags, fun _ _ => id, fun _ => id, ⟨rfl, rfl, rfl, rfl, rfl, rfl⟩, fun _ => ⟨rfl, rfl⟩⟩

theorem Halted.trans (h : Halted s t) (k : Halted t u) : Halted s u := by
  refine ⟨h.confined.trans k.confined, h.flags.trans k.flags, fun a ha hs => k.inactive a ha (h.inactive a ha hs),
    fun a hs => k.latched a (h.latched a hs), h.steady.trans k.steady, fun hq => ?_⟩
  obtain ⟨h1, h2⟩ := h.quiet hq
  obtain ⟨k1, k2⟩ := k.quiet (by rw [h1]; exact hq)
  exact ⟨k1.trans h1, k2.trans h2⟩

/-- A step on the engines, the valves and the no-flow watch alone. -/
theorem Halted.of_stats (hc : Confined s t) (hst : t.stats = s.stats) (hs : Steady s t) (hb : t.bio = s.bio)
    (hd : t.demand = s.demand) : Halted s t :=
  ⟨hc, .of_stats hst, fun _ _ h => h.of_alarms (by rw [hst]), fun _ h => h.of_stats hst, hs, fun _ => ⟨hb, hd⟩⟩

theorem State.abortIfRunning_halted (s : State) : Halted s s.abortIfRunning := by
  have hsteady := s.abortIfRunning_steady
  rw [State.abortIfRunning] at hsteady ⊢
  split
  · next h =>
    rw [if_pos h] at hsteady
    exact ⟨s.abortCycle_confined, s.abortCycle_flagsKept, s.abortCycle_follows.inactive, fun _ h => h.abortCycle, hsteady,
      fun hq => absurd (hq.symm.trans h) Bool.false_ne_true⟩
  · exact .refl s

theorem State.biocideToRest_halted (s : State) : Halted s s.biocideToRest := by
  rw [State.biocideToRest_eq]
  exact .of_stats (s.setEngine_confined _ _) rfl ⟨rfl, rfl, rfl, rfl, rfl, rfl⟩ rfl rfl

theorem State.release_halted (s : State) (v : Valve) (x y z : Bool) : Halted s (s.release v x y z) := by
  obtain ⟨hd, -, hb, -⟩ := s.release_claimOnly v x y z
  exact .of_stats (s.release_confined _ _ _ _) (s.release_stats _ _ _ _) (s.release_steady _ _ _ _) hb hd

theorem State.giveUpWaiting_halted (s : State) (p : Pool) : Halted s (s.giveUpWaiting p) := by
  obtain ⟨hd, -, hb, -⟩ := s.giveUpWaiting_claimOnly p
  exact .of_stats (s.giveUpWaiting_confined p) (by rw [State.giveUpWaiting_eq, State.setEngine_stats])
    (s.giveUpWaiting_steady p) hb hd

theorem State.forcedRelease_halted (s : State) (p : Pool) : Halted s (s.forcedRelease p) := by
  rw [State.forcedRelease]
  cases (s.engine p).state with
  | holding =>
    dsimp only
    split
    · exact s.release_halted _ _ _ _
    · exact s.biocideToRest_halted.trans (State.abortIfRunning_halted _)
  | asking | confirming => exact s.giveUpWaiting_halted p
  | rest | releasing | stuck | locked => exact .refl s

theorem State.releaseAll_halted (s : State) : Halted s s.releaseAll :=
  ((s.forcedRelease_halted _).trans (State.forcedRelease_halted _ _)).trans (State.forcedRelease_halted _ _)

/-- R149, R26, R27: an abort withdraws both requests and raises its event. -/
theorem State.abortCycle_told (s : State) : s.abortCycle.demand.force = false ∧ s.abortCycle.demand.suppress = false ∧
    s.abortCycle.stats.flag .biocideAborted = true := by
  rw [State.abortCycle_eq]
  generalize (if s.bio.cycle == .dosing then s.pump false else s : State).releaseBiocide = w
  obtain ⟨h1, h2⟩ := State.request_requests ((({ w with bio := { w.bio with
    cycle := .idle, interval := some 3600000, overdue := none, phase := none,
    abortMark := true } } : State).raise .biocideAborted).occur .biocideAborted).cycleNotice false false
  exact ⟨h1, h2, State.aborted_flag _⟩

/-- What the abort and the releases have made of a cycle, at the end of the entry. -/
structure CycleHalted (s t : State) : Prop where
  aborted : s.bio.cycle.abortable = true → t.bio.cycle = .idle ∧ t.bio.interval = some 3600000 ∧ t.bio.abortMark = true ∧
    t.stats.flag .biocideAborted = true ∧ t.demand.force = false ∧ t.demand.suppress = false
  kept : s.bio.cycle.abortable = false → t.bio = s.bio
  ended : t.bio.cycle.abortable = false

theorem State.halt_cycle (s : State) : CycleHalted s s.abortIfRunning.releaseAll := by
  have hover := s.abortIfRunning_not_abortable
  obtain ⟨hb, hd⟩ := s.abortIfRunning.releaseAll_halted.quiet hover
  have hflags := s.abortIfRunning.releaseAll_halted.flags
  refine ⟨fun h => ?_, fun h => ?_, by rw [hb]; exact hover⟩
  · have habort : s.abortIfRunning = s.abortCycle := if_pos h
    obtain ⟨h1, h2, h3⟩ := s.abortCycle_told
    rw [habort] at hb hd hflags ⊢
    rw [hb, hd, State.abortCycle_bio]
    exact ⟨rfl, rfl, rfl, hflags _ h3, h1, h2⟩
  · have hsame : s.abortIfRunning = s := if_neg (by rw [h]; exact Bool.false_ne_true)
    rw [hb, hsame]

end

end Sys2Proof.Machine
end

section
/-! SUPPORT. HOLD and RESUME (R166), the listen timer and the delivery timer (R165, R167). -/

namespace Sys2Proof.Machine
open Sys2Proof

set_option Elab.async false

section
variable {b s t u : State} {st : StationState} {l : Option Nat}

/-! ## A change of the station state (R155) -/

/-- R155: what a change of the station state leaves, its report composed. -/
structure Moved (st : StationState) (l : Option Nat) (s t : State) : Prop where
  station : t.station = { s.station with state := st, listen := l }
  now : t.now = s.now
  meas : t.meas = s.meas
  peers : t.peers = s.peers
  bio : t.bio = s.bio
  demand : t.demand = s.demand
  claim : t.claim = s.claim
  feed : t.feed = s.feed
  out : t.out = s.out
  deliveryTimer : t.line.deliveryTimer = s.line.deliveryTimer
  seq : t.line.seq = s.line.seq
  mailbox : t.port.mailbox = s.port.mailbox
  flags : FlagsKept s t
  counters : CountersKept s t [.reportsSuperseded]
  alarms : t.stats.alarms = s.stats.alarms

theorem State.changeState_moved (s : State) (st : StationState) (l : Option Nat) : Moved st l s (s.changeState st l) := by
  have hslots := State.composeReport_slotsOnly { s with station := { s.station with state := st, listen := l } }
  have hflags := State.composeReports_flagsKept { s with station := { s.station with state := st, listen := l } } 1
  have hcounters := State.composeReports_countersKept (l := [.reportsSuperseded])
    { s with station := { s.station with state := st, listen := l } } 1 (by decide)
  unfold SlotsOnly at hslots
  rw [State.composeReports_one] at hflags hcounters
  rw [← State.changeState] at hslots hflags hcounters
  generalize s.changeState st l = u at *
  have hf : FlagsKept s u := hflags
  have hc : CountersKept s u [.reportsSuperseded] := hcounters
  constructor <;> first | assumption | (rw [hslots])

/-- R167: the end of the ISOLATED condition is told to the alarm list alone. -/
theorem State.calmIsolated_eq (s : State) (before : StationState) : s.calmIsolated before =
    { s with stats := { s.stats with alarms := (s.calmIsolated before).stats.alarms } } := by
  rw [State.calmIsolated]
  split <;> rfl

theorem Moved.calmIsolated (h : Moved st l s t) (before : StationState) :
    Confined t (t.calmIsolated before) ∧ FlagsKept t (t.calmIsolated before) ∧ Steady t (t.calmIsolated before) ∧
      (t.calmIsolated before).bio = s.bio ∧ (t.calmIsolated before).demand = s.demand ∧
      (t.calmIsolated before).claim = s.claim := by
  rw [State.calmIsolated_eq]
  exact ⟨.of_same, .of_flags, ⟨rfl, rfl, rfl, rfl, rfl, rfl⟩, h.bio, h.demand, h.claim⟩

/-! ## The end of an entry to HOLD or ISOLATED -/

/-- R145: no closing test where no phase runs. -/
theorem State.tested_of_not_abortable (h : t.bio.cycle.abortable = false) : t.tested b = t := by
  refine State.tested_of_not_due (closingTestDue_of_not_closing (fun hc => ?_))
  rw [hc] at h
  cases h

/-- What an entry leaves at the end of its event, from the state after the change of station state. -/
structure EntryEnded (st : StationState) (s t : State) : Prop where
  station : t.station = { s.station with state := st, listen := none }
  cycle : CycleHalted s t
  meas : t.meas = s.meas
  peers : t.peers = s.peers
  feed : t.feed = { s.feed with noFlow := t.feed.noFlow }
  deliveryTimer : t.line.deliveryTimer = s.line.deliveryTimer
  seq : t.line.seq = s.line.seq
  counters : CountersKept s t [.reportsSuperseded]
  flags : FlagsKept s t

theorem CycleHalted.of_same {x y : State} (h : CycleHalted x y) (hx : x.bio = s.bio) (hb : t.bio = y.bio)
    (hd : t.demand = y.demand) (hf : FlagsKept y t) : CycleHalted s t := by
  refine ⟨fun ha => ?_, fun hk => ?_, by rw [hb]; exact h.ended⟩
  · rw [← hx] at ha
    obtain ⟨h1, h2, h3, h4, h5, h6⟩ := h.aborted ha
    rw [hb, hd]
    exact ⟨h1, h2, h3, hf _ h4, h5, h6⟩
  · rw [← hx] at hk
    rw [hb, h.kept hk, hx]

/-- An entry that has moved, halted and answered, to the end of its event. -/
theorem EntryEnded.of_steps {x y z : State} (hm : Moved st none s x) (hb : y.bio = x.bio) (hy : Steady x y) (hyc : Confined x y)
    (hyf : FlagsKept x y) (hz : CycleHalted y z) (hzs : Steady y z) (hzf : FlagsKept y z)
    (feed : z.feed = { y.feed with noFlow := z.feed.noFlow }) (line : z.line = y.line)
    (counters : z.stats.counters = y.stats.counters) :
    EntryEnded st s (State.finish b z) := by
  have htested : z.tested b = z := State.tested_of_not_abortable hz.ended
  have hflags : FlagsKept z (State.finish b z) := finish_flagsKept b z
  have hst : (State.finish b z).station = z.station := by rw [finish_eq, htested]
  have hme : (State.finish b z).meas = z.meas := by rw [finish_eq, htested]
  have hpe : (State.finish b z).peers = z.peers := by rw [finish_eq, htested]
  have hti : (State.finish b z).line.deliveryTimer = z.line.deliveryTimer := by rw [finish_eq, htested]
  have hseq : (State.finish b z).line.seq = z.line.seq := by rw [finish_eq, htested]
  have hcounters := finish_countersKept (l := [.reportsSuperseded]) b z (by decide)
  obtain ⟨-, -, y1, y2, y3, -⟩ := hy
  obtain ⟨-, -, z1, z2, z3, -⟩ := hzs
  refine ⟨?_, ?_, ?_, ?_, ?_, ?_, ?_, ?_, hm.flags.trans (hyf.trans (hzf.trans hflags))⟩
  · rw [hst, z1, y1, hm.station]
  · exact hz.of_same (hb.trans hm.bio) (by rw [finish_bio, htested]) (by rw [finish_demand, htested]) hflags
  · rw [hme, z2, y2, hm.meas]
  · rw [hpe, z3, y3, hm.peers]
  · rw [finish_feed, htested, feed, hyc.feed, hm.feed]
  · rw [hti, line, hyc.line, hm.deliveryTimer]
  · rw [hseq, line, hyc.line, hm.seq]
  · exact hm.counters.trans ((CountersKept.of_counters (counters.trans hyc.counters)).trans hcounters)

/-! ## HOLD (R166) -/

/-- R166: the entry to HOLD, its command answered. -/
def State.holdTaken (s : State) : State :=
  (((s.changeState .hold none).calmIsolated s.station.state).abortIfRunning.releaseAll).done .ok

theorem exec_hold_of_posted (hl : Live s) (hp : Posted s .hold) :
    (s.station.state = .hold → exec .hold s = .next (s.done .ok).driveLines) ∧
    (s.station.state = .listen ∨ s.station.state = .run ∨ s.station.state = .isolated →
      exec .hold s = .next (State.finish s s.holdTaken)) := by
  have hexec (hno : s.holdRefused = false) : exec .hold s = .next (State.finish s (s.takeHold.conclude .ok)) := by
    rw [exec_hold, event_of_due hl.1 hp.awaits, hp.takeCommand, hno, if_neg Bool.false_ne_true]
  refine ⟨fun hs => ?_, fun hs => ?_⟩
  · have hno : s.holdRefused = false := by rw [State.holdRefused, hs]; rfl
    have htake : s.takeHold = s := if_pos (beq_iff_eq.mpr hs)
    rw [hexec hno, htake, State.conclude_eq_done]
    exact congrArg Host.Outcome.next (finish_of_port rfl rfl rfl rfl rfl rfl)
  · have hno : s.holdRefused = false := by
      rw [State.holdRefused]
      rcases hs with hs | hs | hs <;> rw [hs] <;> rfl
    have htake : s.takeHold = s.enterHold := by
      refine if_neg (fun h => ?_)
      rw [beq_iff_eq.mp h] at hs
      simp at hs
    rw [hexec hno, htake]
    rfl

/-- R166, R167, R61, R148: what the entry to HOLD leaves at the end of its event. -/
theorem holdTaken_ended (s : State) : EntryEnded .hold s (State.finish s s.holdTaken) := by
  have hm := s.changeState_moved .hold none
  obtain ⟨hyc, hyf, hys, hyb, -⟩ := hm.calmIsolated s.station.state
  generalize hy : (s.changeState .hold none).calmIsolated s.station.state = y at *
  have hhalt := y.abortIfRunning_halted.trans y.abortIfRunning.releaseAll_halted
  have hcycle := y.halt_cycle
  have htaken : s.holdTaken = y.abortIfRunning.releaseAll.done .ok := by rw [State.holdTaken, hy]
  generalize y.abortIfRunning.releaseAll = z at *
  have hdone : FlagsKept z (z.done .ok) := z.raise_flagsKept .commandDone
  rw [htaken]
  exact EntryEnded.of_steps (z := z.done .ok) hm (hyb.trans hm.bio.symm) hys hyc hyf
    (hcycle.of_same rfl rfl rfl hdone) hhalt.steady (hhalt.flags.trans hdone) hhalt.confined.feed hhalt.confined.line
    hhalt.confined.counters

theorem State.holdTaken_parts (s : State) : s.holdTaken.port.mailbox = { s.port.mailbox with state := .done, result := .ok } ∧
    s.holdTaken.stats.flag .commandDone = true ∧ (∀ p, (s.holdTaken.engine p).state.passive = true) ∧
    (s.station.state = .isolated → Inactive .isolated s.holdTaken) ∧ s.holdTaken.tested s = s.holdTaken := by
  have hm := s.changeState_moved .hold none
  obtain ⟨hyc, -, hys, -⟩ := hm.calmIsolated s.station.state
  have hcalm (h : s.station.state = .isolated) :
      Inactive .isolated ((s.changeState .hold none).calmIsolated s.station.state) := by
    rw [State.calmIsolated, if_pos (beq_iff_eq.mpr h)]
    exact State.calm_inactive _ _
  generalize hy : (s.changeState .hold none).calmIsolated s.station.state = y at *
  have hhalt := y.abortIfRunning_halted.trans y.abortIfRunning.releaseAll_halted
  have hcycle := y.halt_cycle
  have hpassive (p : Pool) : (y.abortIfRunning.releaseAll.engine p).state.passive = true := by
    refine State.releaseAll_passive ?_ p
    obtain ⟨-, -, h1, -⟩ := y.abortIfRunning_steady
    obtain ⟨-, -, h2, -⟩ := hys
    rw [State.inRun, h1, h2, hm.station]
    rfl
  have htaken : s.holdTaken = y.abortIfRunning.releaseAll.done .ok := by rw [State.holdTaken, hy]
  rw [htaken]
  generalize y.abortIfRunning.releaseAll = z at *
  refine ⟨?_, State.raise_flag_self z .commandDone, hpassive, fun h => ?_, State.tested_of_not_abortable hcycle.ended⟩
  · have hport : z.port.mailbox = s.port.mailbox := by rw [hhalt.confined.port, hyc.port, hm.mailbox]
    show { z.port.mailbox with state := MailState.done, result := MailResult.ok } = _
    rw [hport]
  · exact (hhalt.inactive .isolated nofun (hcalm h)).of_alarms rfl

/-! ## RESUME (R166, R128) -/

/-- R127: the clock shows no stroke yet, or its interval passed. -/
def State.pacedFor (s : State) : Prop := s.feed.strokeClock = none ∨ s.feed.strokePassed = true

theorem State.strokeDue_iff (hf : s.station.state.feedRuns = true) : s.strokeDue = true ↔ 0 < s.feed.owed ∧ s.pacedFor := by
  simp only [State.strokeDue, Feed.paced, hf, Bool.and_true, Bool.and_eq_true, decide_eq_true_eq, Bool.or_eq_true,
    Option.isNone_iff_eq_none, State.pacedFor]

/-- What the test for a stroke leaves of the other units. -/
structure Stroked (s t : State) : Prop where
  claim : t.claim = s.claim
  bio : t.bio = s.bio
  demand : t.demand = s.demand
  meas : t.meas = s.meas
  peers : t.peers = s.peers
  station : t.station = s.station
  line : t.line = s.line
  port : t.port = s.port
  counters : CountersKept s t [.inhibitorStrokes, .reportsSuperseded]

theorem State.strokeTest_stroked (s : State) : Stroked s s.strokeTest := by
  rw [State.strokeTest]
  split
  · refine ⟨rfl, rfl, rfl, rfl, rfl, rfl, rfl, rfl, ?_⟩
    rw [State.stroke_eq]
    exact State.count_countersKept _ _ (by decide)
  · exact ⟨rfl, rfl, rfl, rfl, rfl, rfl, rfl, rfl, .of_counters rfl⟩

/-- R127, R128: the stroke that the test gives. -/
theorem State.strokeTest_given (hf : s.station.state.feedRuns = true) :
    (0 < s.feed.owed ∧ s.pacedFor → s.strokeTest.out.inhibitorPulse = some 0 ∧ s.strokeTest.feed.owed = s.feed.owed - 1) ∧
    (¬ (0 < s.feed.owed ∧ s.pacedFor) →
      s.strokeTest.out.inhibitorPulse = s.out.inhibitorPulse ∧ s.strokeTest.feed.owed = s.feed.owed) := by
  rw [State.strokeTest]
  refine ⟨fun h => ?_, fun h => ?_⟩
  · rw [if_pos ((State.strokeDue_iff hf).mpr h)]
    exact ⟨rfl, rfl⟩
  · rw [if_neg (fun hd => h ((State.strokeDue_iff hf).mp hd))]
    exact ⟨rfl, rfl⟩

/-- R166: the entry to LISTEN from HOLD. -/
theorem State.enterListen_of_hold (h : s.station.state = .hold) : s.enterListen =
    (({ s with line := { s.line with deliveryTimer := some 0 } } : State).changeState .listen (some 8000)).strokeTest := by
  have hm := ({ s with line := { s.line with deliveryTimer := some 0 } } : State).changeState_moved .listen (some 8000)
  have hrun : (!StationState.hold.feedRuns && ((({ s with line := { s.line with deliveryTimer := some 0 } } : State).changeState
      .listen (some 8000)).station.state).feedRuns) = true := by
    rw [hm.station]
    rfl
  rw [State.enterListen, h]
  exact if_pos hrun

/-- Settles O45, by what each entry leaves. -/
theorem holdReleasesAndResumeListens : Obligations.HoldReleasesAndResumeListens := by
  unfold Obligations.HoldReleasesAndResumeListens
  intro s hl
  refine ⟨fun hp => (exec_hold_of_posted hl hp).1, fun hp hs => ?_, fun hp hs => ?_⟩
  · have hexec := (exec_hold_of_posted hl hp).2 hs
    have hend := holdTaken_ended s
    obtain ⟨hmail, hflag, hpassive, hcalm, htested⟩ := s.holdTaken_parts
    refine ⟨_, hexec, linesFollow_finish _ _, hend.station, fun p => ?_, fun ha => ?_, hend.cycle.kept, fun hi => ?_, ?_,
      finish_flagsKept s _ _ hflag, hend.peers, hend.meas, hend.deliveryTimer, hend.seq, hend.feed, hend.counters⟩
    · rw [finish_engine, htested]
      exact hpassive p
    · obtain ⟨h1, h2, h3, h4, -⟩ := hend.cycle.aborted ha
      exact ⟨h1, h2, h3, h4⟩
    · exact finish_inactive (by rw [htested]; exact hcalm hi)
    · have hport : (State.finish s s.holdTaken).port.mailbox = s.holdTaken.port.mailbox := by rw [finish_eq, htested]
      rw [hport, hmail]
  · have hexec : exec .resume s = .next (State.finish s (s.enterListen.done .ok)) := by
      rw [exec_resume, event_of_due hl.1 hp.awaits, hp.takeCommand, if_neg (by rw [hs]; decide), State.conclude_eq_done]
    rw [State.enterListen_of_hold hs] at hexec
    have hm := ({ s with line := { s.line with deliveryTimer := some 0 } } : State).changeState_moved .listen (some 8000)
    generalize ({ s with line := { s.line with deliveryTimer := some 0 } } : State).changeState .listen (some 8000) = x at *
    have hstroke := x.strokeTest_stroked
    obtain ⟨hgiven, hkept⟩ := State.strokeTest_given (s := x) (by rw [hm.station]; rfl)
    have hpaced : x.pacedFor ↔ s.feed.strokeClock = none ∨ s.feed.strokePassed = true := by
      rw [State.pacedFor, hm.feed]
    simp only [hpaced, hm.feed, hm.out] at hgiven hkept
    generalize x.strokeTest = y at *
    have hclaim : y.claim = s.claim := hstroke.claim.trans hm.claim
    have hbio : y.bio = s.bio := hstroke.bio.trans hm.bio
    have htested : (y.done .ok).tested s = y.done .ok :=
      State.tested_of_not_due (closingTestDue_of_same (congrArg Sequencer.cycle hbio)
        (congrArg Engine.state (State.engine_of_claim (t := y.done .ok) (s := s) hclaim .discharge)))
    have hcounters : CountersKept s y [.inhibitorStrokes, .reportsSuperseded] := by
      intro i hi hn
      refine (hstroke.counters i hi hn).trans (hm.counters i hi ?_)
      intro hmem
      exact hn (List.mem_cons_of_mem _ hmem)
    have hport : (State.finish s (y.done .ok)).port.mailbox = { y.port.mailbox with state := .done, result := .ok } := by
      rw [finish_eq, htested]
      rfl
    have hst : (State.finish s (y.done .ok)).station = y.station := by rw [finish_eq, htested]; rfl
    have hline : (State.finish s (y.done .ok)).line.deliveryTimer = y.line.deliveryTimer := by rw [finish_eq, htested]; rfl
    have hseq : (State.finish s (y.done .ok)).line.seq = y.line.seq := by rw [finish_eq, htested]; rfl
    have hme : (State.finish s (y.done .ok)).meas = y.meas := by rw [finish_eq, htested]; rfl
    have hpe : (State.finish s (y.done .ok)).peers = y.peers := by rw [finish_eq, htested]; rfl
    refine ⟨_, hexec, linesFollow_finish _ _, ?_, ?_, ?_, ?_, ?_, ?_, ?_, ?_, ?_, ?_, ?_, ?_⟩
    · rw [hst, hstroke.station, hm.station]
    · rw [hline, hstroke.line, hm.deliveryTimer]
    · rw [hport, hstroke.port, hm.mailbox]
    · rw [finish_inhibitorPulse, htested]
      split
      · next h => exact (hgiven h).1
      · next h => exact (hkept h).1
    · rw [finish_feed, htested]
      show y.feed.owed = _
      split
      · next h =>
        by_cases ho : 0 < s.feed.owed
        · exact (hgiven ⟨ho, h⟩).2
        · rw [(hkept (fun hb => ho hb.1)).2]
          omega
      · next h => exact (hkept (fun hb => h hb.2)).2
    · rw [finish_claim, htested]
      exact hclaim
    · rw [finish_bio, htested]
      exact hbio
    · rw [finish_demand, htested]
      exact hstroke.demand.trans hm.demand
    · rw [hme, hstroke.meas, hm.meas]
    · rw [hpe, hstroke.peers, hm.peers]
    · rw [hseq, hstroke.line, hm.seq]
    · exact hcounters.trans ((CountersKept.of_counters (t := y.done .ok) rfl).trans (finish_countersKept s _ (by decide)))

end

end Sys2Proof.Machine
end

section
/-! SUPPORT. The listen timer and the delivery timer (R99, R165, R167). -/

namespace Sys2Proof.Machine
open Sys2Proof

set_option Elab.async false

section
variable {b s t u : State} {p : Pool}

/-! ## RUN (R165, R40) -/

/-- R40: an engine as the entry to RUN leaves it. -/
def State.asked (s : State) (p : Pool) : Engine :=
  if (s.engine p).state = .rest ∧ (s.engine p).need = true then (s.engine p).justAsking s.now else s.engine p

theorem State.askFromRest_eq (hr : s.inRun = true) (p : Pool) : s.askFromRest p = s.setEngine p (s.asked p) := by
  rw [State.askFromRest, State.asked]
  by_cases h : (s.engine p).state = .rest ∧ (s.engine p).need = true
  · have hb : ((s.engine p).state == .rest && s.inRun && (s.engine p).need) = true := by
      rw [h.1, hr, h.2]
      rfl
    rw [if_pos hb, if_pos h]
    rfl
  · have hb : ¬ ((s.engine p).state == .rest && s.inRun && (s.engine p).need) = true := by
      rw [hr, Bool.and_true, Bool.and_eq_true, beq_iff_eq]
      exact h
    rw [if_neg hb, if_neg h, State.setEngine_engine]

/-- R40: the three engines as the entry to RUN leaves them. -/
def State.askedClaim (s : State) : Claim :=
  { discharge := s.asked .discharge, supply := s.asked .supply, biocide := s.asked .biocide }

theorem State.askAll_eq (hr : s.inRun = true) :
    ((s.askFromRest .discharge).askFromRest .supply).askFromRest .biocide = { s with claim := s.askedClaim } := by
  have h1 := State.askFromRest_eq hr .discharge
  have h2 := State.askFromRest_eq (s := s.setEngine .discharge (s.asked .discharge)) hr .supply
  have h3 := State.askFromRest_eq (s := (s.setEngine .discharge (s.asked .discharge)).setEngine .supply (s.asked .supply))
    hr .biocide
  rw [h1, h2]
  exact h3

theorem State.asked_state (s : State) (p : Pool) : (s.asked p).state = (s.engine p).state ∨
    ((s.engine p).state = .rest ∧ (s.asked p).state = .asking) := by
  rw [State.asked]
  split
  · next h => exact .inr ⟨h.1, rfl⟩
  · exact .inl rfl

theorem State.asked_valveFault (s : State) (p : Pool) : (s.asked p).valveFault = (s.engine p).valveFault := by
  rw [State.asked]
  split
  · next h => simp only [Engine.valveFault, h.1]; rfl
  · rfl

theorem State.changeState_slots (s : State) (st : StationState) (l : Option Nat) : s.changeState st l =
    { s with
      station := { s.station with state := st, listen := l }
      line := { s.line with onLine := (s.changeState st l).line.onLine, nextSlot := (s.changeState st l).line.nextSlot }
      stats := { s.stats with counters := (s.changeState st l).stats.counters, flags := (s.changeState st l).stats.flags
                              lastCounter := (s.changeState st l).stats.lastCounter } } :=
  State.composeReport_slotsOnly { s with station := { s.station with state := st, listen := l } }

/-- R165: the listen timer, at the end of its event. -/
theorem listenTimerRuns (hh : s.held = none) (hs : s.station.state = .listen) (hl : s.station.listen = some 0) :
    ∃ t, exec .listenTimerExpiry s = .next t ∧ LinesFollow t ∧
      t.station = { s.station with state := .run, listen := none } ∧
      (∀ p, t.engine p =
        if (s.engine p).state = .rest ∧ (s.engine p).need = true then (s.engine p).justAsking s.now else s.engine p) ∧
      t = { s with station := t.station, claim := t.claim,
                   line := { s.line with onLine := t.line.onLine, nextSlot := t.line.nextSlot },
                   stats := { s.stats with counters := t.stats.counters, flags := t.stats.flags,
                                           lastCounter := t.stats.lastCounter },
                   out := { s.out with relay := t.out.relay },
                   port := { s.port with attention := t.port.attention } } ∧
      (∀ e : Event, e ≠ .counterHalf → e ≠ .counterWrap → t.stats.flag e = s.stats.flag e) ∧
      CountersKept s t [.reportsSuperseded] := by
  have hdue : (s.station.state == .listen && ranOut s.station.listen) = true := by rw [hs, hl]; rfl
  have hexec : exec .listenTimerExpiry s = .next (State.finish s s.enterRun) :=
    (exec_listenTimerExpiry s).trans (event_of_due hh hdue)
  have hm := s.changeState_moved .run none
  have hslots := State.changeState_slots s .run none
  have hcompose (e : Event) (h1 : e ≠ .counterHalf) (h2 : e ≠ .counterWrap) :
      (s.changeState .run none).stats.flag e = s.stats.flag e :=
    State.composeReports_flag_of_ne h1 h2 { s with station := { s.station with state := .run, listen := none } } 1
  have hrun : s.enterRun = { s.changeState .run none with claim := s.askedClaim } := by
    rw [State.enterRun, State.askAll_eq (by rw [State.inRun, hm.station]; rfl)]
    have hasked (p : Pool) : (s.changeState .run none).asked p = s.asked p := by
      rw [State.asked, State.asked, State.engine_of_claim hm.claim, hm.now]
    rw [State.askedClaim, State.askedClaim, hasked, hasked, hasked]
  generalize s.changeState .run none = x at *
  generalize hy : ({ x with claim := s.askedClaim } : State) = y at *
  have hengine (p : Pool) : y.engine p = s.asked p := by
    rw [← hy]
    cases p <;> rfl
  have htested : y.tested s = y := by
    rcases s.asked_state .discharge with h | ⟨-, h⟩
    · refine State.tested_of_not_due (closingTestDue_of_same ?_ (by rw [hengine, h]))
      rw [← hy]
      exact congrArg Sequencer.cycle hm.bio
    · rw [State.tested]
      split
      · exact State.closingTest_of_busy (.inl (by rw [hengine, h]; rfl))
      · rfl
  have hvf : y.valveFault = s.valveFault :=
    State.valveFault_of_engines (fun p => by rw [hengine, State.asked_valveFault])
  have hcalm : y.calmValveFault s = y := by
    rw [State.calmValveFault, hvf, Bool.and_not_self, if_neg Bool.false_ne_true]
  have hcounters : CountersKept s y [.reportsSuperseded] := by
    rw [← hy]
    exact hm.counters
  have hend := finish_told htested hcounters
  have hst : (State.finish s y).station = { s.station with state := .run, listen := none } := by
    rw [hend, ← hy]
    exact hm.station
  have hclaim : (State.finish s y).claim = s.askedClaim := by rw [hend, ← hy]
  rw [hrun] at hexec
  refine ⟨_, hexec, linesFollow_finish _ _, hst, fun p => ?_, ?_, fun e h1 h2 => ?_,
    hcounters.trans (finish_countersKept s y (by decide))⟩
  · rw [finish_engine, htested, hengine]
    rfl
  · have halarms : (State.finish s y).stats.alarms = s.stats.alarms := by
      rw [hend, hcalm, ← hy]
      exact hm.alarms
    rw [hcalm] at hend
    generalize State.finish s y = f at *
    subst hy
    rw [hst, hclaim]
    rw [hslots] at hend
    exact hend
  · rw [finish_flag_of_ne h1 h2, htested, ← hy]
    exact hcompose e h1 h2

/-! ## ISOLATED (R99, R167, R61, R148) -/

/-- What the entry's two alarms leave, in either order (log 9). -/
structure AlarmsMade (s t : State) : Prop where
  confined : Confined s t
  flags : FlagsKept s t
  steady : Steady s t
  cycle : CycleHalted s t
  flag : t.stats.flag .isolated = true
  latched : Latched .isolated t

/-- The alarm of the isolation alone. -/
def State.markIsolated (s : State) : State := (s.raise .isolated).occur .isolated

theorem State.isolatedAlarms_eq (s : State) : s.isolatedAlarms =
    if s.bio.cycle.abortable then
      if Config.abortAlarmFirst s.freeIx then ({ s with freeIx := s.freeIx + 1 } : State).abortCycle.markIsolated
      else ({ s with freeIx := s.freeIx + 1 } : State).markIsolated.abortCycle
    else s.markIsolated := rfl

/-- What the alarm of the isolation leaves of a state. -/
structure Marked (s t : State) : Prop where
  confined : Confined s t
  flags : FlagsKept s t
  steady : Steady s t
  bio : t.bio = s.bio
  demand : t.demand = s.demand
  flag : t.stats.flag .isolated = true
  latched : Latched .isolated t

theorem State.markIsolated_marked (s : State) : Marked s s.markIsolated :=
  ⟨.of_same, s.raise_flagsKept .isolated, ⟨rfl, rfl, rfl, rfl, rfl, rfl⟩, rfl, rfl, s.raise_flag_self .isolated,
    State.occur_latched _ _⟩

/-- What the abort of a running cycle leaves of a state. -/
structure Stopped (s t : State) : Prop where
  confined : Confined s t
  flags : FlagsKept s t
  steady : Steady s t
  latched : ∀ k, Latched k s → Latched k t
  bio : t.bio = { s.bio with cycle := .idle, interval := some 3600000, overdue := none, phase := none, abortMark := true }
  force : t.demand.force = false
  suppress : t.demand.suppress = false
  flag : t.stats.flag .biocideAborted = true

theorem State.abortCycle_stopped (s : State) : Stopped s s.abortCycle := by
  obtain ⟨h1, h2, h3⟩ := s.abortCycle_told
  exact ⟨s.abortCycle_confined, s.abortCycle_flagsKept, s.abortCycle_steady, fun _ h => h.abortCycle, s.abortCycle_bio, h1, h2, h3⟩

theorem AlarmsMade.of_marked (h : Marked s t) (hno : s.bio.cycle.abortable = false) : AlarmsMade s t :=
  ⟨h.confined, h.flags, h.steady,
    ⟨fun hrun => absurd (hno.symm.trans hrun) Bool.false_ne_true, fun _ => h.bio, by rw [h.bio]; exact hno⟩, h.flag, h.latched⟩

theorem AlarmsMade.of_stopped_marked (hrun : s.bio.cycle.abortable = true) (h : Stopped s t) (k : Marked t u) :
    AlarmsMade s u := by
  refine ⟨h.confined.trans k.confined, h.flags.trans k.flags, h.steady.trans k.steady,
    ⟨fun _ => ?_, fun hno => absurd (hno.symm.trans hrun) Bool.false_ne_true, by rw [k.bio, h.bio]; rfl⟩, k.flag, k.latched⟩
  rw [k.bio, k.demand, h.bio]
  exact ⟨rfl, rfl, rfl, k.flags _ h.flag, h.force, h.suppress⟩

theorem AlarmsMade.of_marked_stopped (hrun : s.bio.cycle.abortable = true) (h : Marked s t) (k : Stopped t u) :
    AlarmsMade s u := by
  refine ⟨h.confined.trans k.confined, h.flags.trans k.flags, h.steady.trans k.steady,
    ⟨fun _ => ?_, fun hno => absurd (hno.symm.trans hrun) Bool.false_ne_true, by rw [k.bio]; rfl⟩, k.flags _ h.flag,
    k.latched _ h.latched⟩
  rw [k.bio]
  exact ⟨rfl, rfl, rfl, k.flag, k.force, k.suppress⟩

/-- The choice of the order counts the free choices and touches nothing else. -/
theorem AlarmsMade.of_chosen (h : AlarmsMade { s with freeIx := s.freeIx + 1 } t) : AlarmsMade s t :=
  ⟨Confined.trans (t := { s with freeIx := s.freeIx + 1 }) .of_same h.confined, h.flags, h.steady,
    ⟨h.cycle.aborted, h.cycle.kept, h.cycle.ended⟩, h.flag, h.latched⟩

theorem State.isolatedAlarms_made (s : State) : AlarmsMade s s.isolatedAlarms := by
  rw [State.isolatedAlarms_eq]
  split
  · next hrun =>
    have hrun : ({ s with freeIx := s.freeIx + 1 } : State).bio.cycle.abortable = true := hrun
    refine AlarmsMade.of_chosen ?_
    generalize ({ s with freeIx := s.freeIx + 1 } : State) = x at *
    split
    · exact .of_stopped_marked hrun x.abortCycle_stopped (State.markIsolated_marked _)
    · exact .of_marked_stopped hrun x.markIsolated_marked (State.abortCycle_stopped _)
  · next hno => exact .of_marked s.markIsolated_marked (Bool.not_eq_true _ |>.mp hno)

/-- R167: the entry to ISOLATED. -/
theorem enterIsolated_ended (s : State) : EntryEnded .isolated s (State.finish s s.enterIsolated) ∧
    (State.finish s s.enterIsolated).stats.flag .isolated = true ∧ Latched .isolated (State.finish s s.enterIsolated) ∧
    ∀ p, ((State.finish s s.enterIsolated).engine p).state.passive = true := by
  have hm := s.changeState_moved .isolated none
  have hmade := (s.changeState .isolated none).isolatedAlarms_made
  have hpassive (p : Pool) : (s.enterIsolated.engine p).state.passive = true := by
    refine State.releaseAll_passive ?_ p
    obtain ⟨-, -, h1, -⟩ := hmade.steady
    rw [State.inRun, h1, hm.station]
    rfl
  rw [State.enterIsolated] at hpassive ⊢
  generalize s.changeState .isolated none = x at *
  generalize x.isolatedAlarms = y at *
  have hhalt := y.releaseAll_halted
  obtain ⟨hb, hd⟩ := hhalt.quiet hmade.cycle.ended
  generalize y.releaseAll = z at *
  have hcycle : CycleHalted x z := hmade.cycle.of_same rfl hb hd hhalt.flags
  have htested : z.tested s = z := State.tested_of_not_abortable hcycle.ended
  have hconf := hmade.confined.trans hhalt.confined
  refine ⟨EntryEnded.of_steps hm rfl ⟨rfl, rfl, rfl, rfl, rfl, rfl⟩ (.refl x) .of_flags hcycle
    (hmade.steady.trans hhalt.steady) (hmade.flags.trans hhalt.flags) hconf.feed hconf.line hconf.counters,
    finish_flagsKept s z _ (hhalt.flags _ hmade.flag), (hhalt.latched _ hmade.latched).finish s nofun, fun p => ?_⟩
  rw [finish_engine, htested]
  exact hpassive p

/-- Settles O30, timer by timer. -/
theorem stationTimersMoveTheStation : Obligations.StationTimersMoveTheStation := by
  unfold Obligations.StationTimersMoveTheStation
  refine ⟨fun s hh hs hl => listenTimerRuns hh hs hl, fun s hh hs hr => ?_, fun s hs => ?_⟩
  · have hisolable : s.station.state.isolable = true := by rcases hs with h | h <;> rw [h] <;> rfl
    have hdue : (s.station.state.isolable && reached Config.failsafe s.line.deliveryTimer) = true := by
      rw [hisolable]
      exact hr
    obtain ⟨hend, hflag, hlatched, hpassive⟩ := enterIsolated_ended s
    exact ⟨_, (exec_deliveryTimerExpiry s).trans (event_of_due hh hdue), linesFollow_finish _ _, hend.station, hflag, hlatched,
      hpassive, hend.cycle.aborted, hend.cycle.kept, hend.peers, hend.meas, hend.deliveryTimer, hend.seq⟩
  · have hno : (s.station.state.isolable && reached Config.failsafe s.line.deliveryTimer) = false := by
      rcases hs with h | h <;> rw [h] <;> rfl
    rw [exec_deliveryTimerExpiry, hno, event_of_not_due]

end

end Sys2Proof.Machine
end

section
/-! SUPPORT. Valve feedback and the two checks: what the output unit's events do (R105, R107 to R112). -/

namespace Sys2Proof.Machine
open Sys2Proof

set_option Elab.async false

section
variable {b s t u : State} {p : Pool} {v : Valve} {h : Nat} {lvl : ValvePos}

/-! ## A level seen settled (R105) -/

theorem exec_feedbackSettled_of_due (hh : s.held = none) (hw : s.station.state.working = true)
    (hf : (s.valve v).feedbackPresent = true) (hl : (s.valve v).settled ≠ lvl) (ht : 250 ≤ h) :
    exec (.feedbackSettled v { level := lvl, heldFor := h }) s = .next (State.finish s (s.feedbackSettles v lvl)) := by
  have hd : s.feedbackChanges v { level := lvl, heldFor := h } = true := by
    rw [State.feedbackChanges, hw, hf, bne_iff_ne.mpr hl]
    exact decide_eq_true ht
  exact (exec_feedbackSettled v _ s).trans (event_of_due hh hd)

theorem exec_feedbackSettled_of_early (ht : h < 250) :
    exec (.feedbackSettled v { level := lvl, heldFor := h }) s = .next s := by
  have hd : s.feedbackChanges v { level := lvl, heldFor := h } = false := by
    rw [State.feedbackChanges, Bool.and_eq_false_iff]
    exact .inr (decide_eq_false (Nat.not_le.mpr ht))
  rw [exec_feedbackSettled, hd, event_of_not_due]

/-! ## What a level seen settled does to the check (R107, R108, R109, R111, R112) -/

/-- R107: an open check passes. -/
theorem State.seenOpen_of_openCheck (hc : (s.valve v).check = .openCheck) : s.seenOpen v =
    s.setValve v { s.valve v with settled := .opened, check := .none, timer := none } := by
  simp only [State.seenOpen, hc]

/-- R112: an opening that no command asked for is watched. -/
theorem State.seenOpen_of_unbidden (hc : (s.valve v).check = .none) (hm : (s.valve v).commanded = .closed) : s.seenOpen v =
    (s.setValve v { s.valve v with settled := .opened, check := .closeWatch, timer := none }).unbiddenOpenNotice v := by
  simp only [State.seenOpen, hc, hm]
  rfl

theorem State.seenOpen_of_other (hc : (s.valve v).check = .closeCheck ∨ (s.valve v).check = .closeWatch ∨
    ((s.valve v).check = .none ∧ (s.valve v).commanded = .opened)) : s.seenOpen v =
    s.setValve v { s.valve v with settled := .opened } := by
  rcases hc with hc | hc | ⟨hc, hm⟩
  · simp only [State.seenOpen, hc]
  · simp only [State.seenOpen, hc]
  · simp only [State.seenOpen, hc, hm]
    rfl

/-- R109, R111: a close check, or the watch for a late closing, ends. -/
theorem State.seenClosed_of_awaited (hc : (s.valve v).check = .closeCheck ∨ (s.valve v).check = .closeWatch) :
    s.seenClosed v =
      (s.setValve v { s.valve v with settled := .closed, check := .none, timer := none }).closedNotice v := by
  rcases hc with hc | hc <;> simp only [State.seenClosed, hc]

/-- R108: a drop-out begins the open check again. -/
theorem State.seenClosed_of_dropout (hc : (s.valve v).check = .none) (hm : (s.valve v).commanded = .opened) : s.seenClosed v =
    s.setValve v { s.valve v with settled := .closed, check := .openCheck, timer := some 0 } := by
  simp only [State.seenClosed, hc, hm]
  rfl

theorem State.seenClosed_of_other (hc : (s.valve v).check = .openCheck ∨
    ((s.valve v).check = .none ∧ (s.valve v).commanded = .closed)) : s.seenClosed v =
    s.setValve v { s.valve v with settled := .closed } := by
  rcases hc with hc | ⟨hc, hm⟩
  · simp only [State.seenClosed, hc]
  · simp only [State.seenClosed, hc, hm]
    rfl

/-! ## No engine moves -/

theorem LinesFollow.setValve (hl : LinesFollow s) (v : Valve) (r : ValveRec) : LinesFollow (s.setValve v r) := by
  cases v <;> exact hl

/-- A change of a valve's record composes no report. -/
theorem finish_setValve (hl : LinesFollow s) (v : Valve) (r : ValveRec) : State.finish s (s.setValve v r) = s.setValve v r := by
  have hq : State.finish s (s.setValve v r) = (s.setValve v r).driveLines :=
    finish_of_quiet (fun p => by rw [State.engine_setValve]) (by rw [State.setValve_bio])
      (State.valveFault_of_engines (fun p => by rw [State.engine_setValve])) (by rw [State.setValve_stats])
      (by rw [State.setValve_stats]) (by rw [State.setValve_meas]) (by rw [State.setValve_feed]) (by rw [State.setValve_feed])
  rw [hq, driveLines_of_linesFollow (hl.setValve v r)]

end

/-- Settles O31, by the valve's check. -/
theorem feedbackFollowsTheCheck : Obligations.FeedbackFollowsTheCheck := by
  intro v h s ⟨hh, hl⟩ hw hf settles
  refine ⟨fun ht lvl => exec_feedbackSettled_of_early ht, fun ht => ?_⟩
  have hopens (hs : (s.valve v).settled = .closed) : exec (settles .opened) s = .next (State.finish s (s.seenOpen v)) :=
    exec_feedbackSettled_of_due hh hw hf (by rw [hs]; nofun) ht
  have hcloses (hs : (s.valve v).settled = .opened) : exec (settles .closed) s = .next (State.finish s (s.seenClosed v)) :=
    exec_feedbackSettled_of_due hh hw hf (by rw [hs]; nofun) ht
  refine ⟨fun hs hc => ?_, fun hs hc hm => ?_, fun hs hc => ?_, fun hs hc => ?_⟩
  · rw [hopens hs, State.seenOpen_of_openCheck hc, finish_setValve hl]
  · rw [hcloses hs, State.seenClosed_of_dropout hc hm, finish_setValve hl]
  · rw [hopens hs, State.seenOpen_of_other hc, finish_setValve hl]
  · rw [hcloses hs, State.seenClosed_of_other hc, finish_setValve hl]

end Sys2Proof.Machine
end

section
/-! SUPPORT. A valve seen closed: the end of a release, the clearing of a stuck valve, and the dose that may follow (R53, R55,
R109, R111, R145, R146). -/

namespace Sys2Proof.Machine
open Sys2Proof

set_option Elab.async false

section
variable {b s t u : State} {p : Pool} {v : Valve} {h : Nat} {e : Engine} {r : ValveRec}

/-! ## Where a release ends (R53) -/

theorem Engine.released_of_lock (hl : e.lock = true) : (e.released s).state = .locked := by
  rw [Engine.released, if_pos hl]

theorem Engine.released_of_reasks (hr : e.reasks s = true) : (e.released s).state = .asking := by
  simp only [Engine.reasks, Bool.and_eq_true, Bool.not_eq_true'] at hr
  obtain ⟨⟨⟨hl, hk⟩, hn⟩, hi⟩ := hr
  simp only [Engine.released, hl, hk, hn, hi, Bool.false_eq_true, if_false, Bool.and_self, if_true]

theorem Engine.released_of_unlocked (hl : e.lock = false) :
    (e.released s).state = .asking ∨ (e.released s).state = .rest := by
  rw [Engine.released, if_neg (by rw [hl]; exact Bool.false_ne_true)]
  split
  · exact .inl rfl
  · split
    · exact .inl rfl
    · exact .inr rfl

/-- Without a need a release ends in LOCKED or in REST. -/
theorem Engine.released_of_no_need (hn : e.need = false) :
    (e.released s).state = .rest ∨ (e.released s).state = .locked := by
  rw [Engine.released]
  split
  · exact .inr rfl
  · rw [hn, Bool.and_false, Bool.false_and, if_neg Bool.false_ne_true, Bool.and_false, if_neg Bool.false_ne_true]
    exact .inl rfl

theorem Engine.released_ne_releasing (e : Engine) (s : State) : (e.released s).state ≠ .releasing := by
  cases hl : e.lock with
  | true => rw [Engine.released_of_lock hl]; nofun
  | false => rcases Engine.released_of_unlocked (s := s) hl with k | k <;> rw [k] <;> nofun

/-- R59: the lock mark is the fault of an engine in RELEASING; LOCKED stands for it afterwards. -/
theorem Engine.released_valveFault (hs : e.state = .releasing) : (e.released s).valveFault = e.valveFault := by
  cases hl : e.lock with
  | true =>
    rw [Engine.valveFault, Engine.valveFault, Engine.released_of_lock hl, hs, hl]
    rfl
  | false =>
    rcases Engine.released_of_unlocked (s := s) hl with k | k <;>
    · rw [Engine.valveFault, Engine.valveFault, k, hs, hl]
      rfl

/-- The end of a release with one report, where no dose begins by it. -/
theorem finish_of_released (hs : (s.engine v.pool).state = .releasing)
    (hd : (v = .makeup ∨ s.bio.cycle ≠ .closing) ∨ (s.engine v.pool).reasks s = true) :
    State.finish s ((s.setValve v r).setEngine v.pool ((s.engine v.pool).released s)) =
      ((s.setValve v r).setEngine v.pool ((s.engine v.pool).released s)).told := by
  refine (finish_of_pool v.pool (fun q hq => ?_) ?_ ?_ (by simp) (fun hp hc => ?_) (by simp) (by simp) (by simp)
    (by simp)).trans (State.toldAfter_of_same (by simp) 1)
  · rw [State.engine_setEngine_ne _ _ hq, State.engine_setValve]
  · rw [State.engine_setEngine, hs]
    exact Engine.released_ne_releasing _ _
  · rw [State.engine_setEngine, Engine.released_valveFault hs]
  · rw [← hp, State.engine_setEngine]
    rcases hd with (hv | hv) | hr
    · subst hv
      cases hp
    · refine absurd ?_ hv
      rw [State.setEngine_bio, State.setValve_bio] at hc
      exact hc
    · rw [Engine.released_of_reasks hr]
      exact .inl rfl

/-! ## A stuck valve clears (R55, R59) -/

/-- R53, R40: an engine that arrives in REST at `s`. -/
def Engine.arrived (e : Engine) (s : State) : Engine := if s.inRun ∧ e.need = true then e.atRest.justAsking s.now else e.atRest

theorem Engine.arrived_state (e : Engine) (s : State) : (e.arrived s).state = .asking ∨ (e.arrived s).state = .rest := by
  rw [Engine.arrived]
  split
  · exact .inl rfl
  · exact .inr rfl

theorem Engine.arrived_of_no_need (hn : e.need = false) : (e.arrived s).state = .rest := by
  rw [Engine.arrived, if_neg (fun hk => absurd (hn.symm.trans hk.2) Bool.false_ne_true)]
  rfl

theorem State.closedNotice_clears (hs : (s.engine v.pool).state = .stuck) : (s.setValve v r).closedNotice v =
    ((s.setValve v r).setEngine v.pool ((s.engine v.pool).arrived s)).raise .valveCleared := by
  have hx : ((s.setValve v r).raise .valveCleared).engine v.pool = s.engine v.pool := State.engine_setValve s v r v.pool
  have hi : ((s.setValve v r).raise .valveCleared).inRun = s.inRun := State.inRun_setValve s v r
  have hn : ((s.setValve v r).raise .valveCleared).now = s.now := State.setValve_now s v r
  rw [State.closedNotice_of_stuck (by rwa [State.engine_setValve]), State.arriveRest_eq, hx, hi, hn]
  simp only [Engine.arrived, Bool.and_eq_true]
  cases v <;> rfl

theorem State.valveFault_of_engine (hs : (s.engine v.pool).valveFault = true) : s.valveFault = true := by
  cases v with
  | blowdown => exact Bool.or_eq_true_iff.mpr (.inl hs)
  | makeup => exact Bool.or_eq_true_iff.mpr (.inr hs)

/-- The end of the event in which a stuck valve clears. -/
theorem finish_of_cleared (hs : (s.engine v.pool).state = .stuck) (hd : v = .makeup ∨ s.bio.cycle ≠ .closing)
    (ht : t = ((s.setValve v r).setEngine v.pool ((s.engine v.pool).arrived s)).raise .valveCleared) :
    State.finish s t = if t.valveFault then t.toldTimes 1 else (t.calm .valveFault).toldTimes 2 := by
  have hother q (hq : q ≠ v.pool) : t.engine q = s.engine q := by
    rw [ht]
    exact (State.engine_setEngine_ne _ _ hq).trans (State.engine_setValve _ _ _ _)
  have hself : t.engine v.pool = (s.engine v.pool).arrived s := by
    rw [ht]
    exact State.engine_setEngine _ _ _
  have hbio : t.bio = s.bio := by rw [ht]; simp
  have halarms : t.stats.alarms = s.stats.alarms := by rw [ht]; simp
  have hcounters : t.stats.counters = s.stats.counters := by rw [ht]; simp
  have hmeas : t.meas = s.meas := by rw [ht]; simp
  have hfeed : t.feed = s.feed := by rw [ht]; simp
  have hsv : s.valveFault = true := State.valveFault_of_engine (v := v) (by rw [Engine.valveFault, hs]; rfl)
  have hmoved : (t.engine v.pool).state ≠ (s.engine v.pool).state := by
    rw [hself, hs]
    rcases (s.engine v.pool).arrived_state s with k | k <;> rw [k] <;> nofun
  have hdue : closingTestDue s t = false := by
    rcases hd with hv | hc
    · subst hv
      exact closingTestDue_of_same (by rw [hbio]) (by rw [hother .discharge (by decide)])
    · exact closingTestDue_of_not_closing (by rwa [hbio])
  clear ht
  have hfin (x : State) (hx : t.calmValveFault s = x) (n : Nat) (hn : reportTriggers s x = n)
      (hc : x.stats.counters = s.stats.counters) : State.finish s t = x.toldTimes n := by
    have h1 : State.finish s t = ((t.tested s).calmValveFault s).toldAfter s (reportTriggers s ((t.tested s).calmValveFault s)) :=
      rfl
    rw [h1, State.tested_of_not_due hdue, hx, hn, State.toldAfter_of_same hc]
  cases hv : t.valveFault with
  | true =>
    rw [if_pos rfl]
    refine hfin t (by rw [State.calmValveFault, hsv, hv]; rfl) 1 ?_ hcounters
    rw [reportTriggers_of_pool v.pool (fun q hq => by rw [hother q hq]), engineDiffers_eq_true hmoved, hbio, bne_self_eq_false,
      alarmSummaryDiffers_of_same halarms (hv.trans hsv.symm) (by rw [hmeas]) (by rw [hfeed]) (by rw [hfeed])]
    rfl
  | false =>
    rw [if_neg Bool.false_ne_true]
    have hdiffers : alarmSummaryDiffers s (t.calm .valveFault) = true := by
      rw [alarmSummaryDiffers, Bool.or_eq_true_iff]
      refine .inr (bne_iff_ne.mpr fun heq => absurd (congrArg FaultSummary.valve heq) ?_)
      show s.valveFault ≠ t.valveFault
      rw [hsv, hv]
      nofun
    refine hfin (t.calm .valveFault) (by rw [State.calmValveFault, hsv, hv]; rfl) 2 ?_ hcounters
    have hmoved' : ((t.calm .valveFault).engine v.pool).state ≠ (s.engine v.pool).state := hmoved
    have hbio' : (t.calm .valveFault).bio = s.bio := hbio
    have hothers (q : Pool) (hq : q ≠ v.pool) : ((t.calm .valveFault).engine q).state = (s.engine q).state :=
      congrArg Engine.state (hother q hq)
    rw [reportTriggers_of_pool v.pool hothers, engineDiffers_eq_true hmoved', hbio',
      bne_self_eq_false, hdiffers]
    rfl

/-! ## The dose begins (R145, R146) -/

/-- What the end of an event leaves of a body that ends the release of DISCHARGE in CLOSING. -/
structure DoseBegun (s t f : State) : Prop where
  lines : LinesFollow f
  engine : f.engine .discharge = t.engine .discharge
  bio : f.bio = { s.bio with cycle := .dosing, phase := some (s.station.cfg.doseTime * 1000) }
  pump : f.out.biocidePump = true
  suppress : f.demand.suppress = t.demand.suppress
  blowdown : f.out.blowdown = t.out.blowdown
  makeup : f.out.makeup = t.out.makeup
  supply : f.claim.supply = t.claim.supply
  station : f.station = t.station
  meas : f.meas = t.meas
  feed : f.feed = t.feed
  flags : FlagsKept t f

theorem finish_dose (hc : s.bio.cycle = .closing) (hbio : t.bio = s.bio) (hstation : t.station = s.station)
    (he : (t.engine .discharge).state = .rest ∨ (t.engine .discharge).state = .locked)
    (hs : (s.engine .discharge).state = .releasing ∨ (s.engine .discharge).state = .stuck ∨
      (s.engine .discharge).state = .holding) : DoseBegun s t (State.finish s t) ∧ t.tested s = t.enterDosing := by
  have hne : (s.engine .discharge).state ≠ (t.engine .discharge).state := by
    rcases hs with k | k | k <;> rcases he with j | j <;> rw [k, j] <;> nofun
  have hdue : closingTestDue s t = true := by
    rw [closingTestDue, hbio, hc, Bool.and_eq_true, Bool.or_eq_true]
    exact ⟨rfl, .inr (bne_iff_ne.mpr hne)⟩
  have htest : t.tested s = t.enterDosing := by
    rw [State.tested_of_due hdue, State.closingTest]
    rcases he with k | k <;> rw [k]
  obtain ⟨k, eb, hdose, -⟩ := t.enterDosing_eq
  refine ⟨?_, htest⟩
  have hend := finish_eq s t
  have hflags := finish_flagsKept s t
  have hlines := linesFollow_finish s t
  rw [htest, hdose] at hend
  generalize State.finish s t = f at *
  rw [hend] at hlines ⊢
  rw [hend] at hflags
  refine ⟨hlines, rfl, ?_, rfl, rfl, rfl, rfl, rfl, rfl, rfl, rfl, hflags⟩
  show { t.bio with cycle := Cycle.dosing, phase := some (t.station.cfg.doseTime * 1000) } = _
  rw [hbio, hstation]

end

/-- Settles O33, by the engine's state. -/
theorem seenClosedEndsTheRelease : Obligations.SeenClosedEndsTheRelease := by
  refine ⟨fun v h s ⟨hh, hl⟩ ht hw hf hs hc => ?_, fun h s hh ht hw hf hs hc hcyc hn hstate => ?_⟩
  · intro e outside w rest c
    have hexec : c = .next (State.finish s (w.closedNotice v)) := by
      have hx := exec_feedbackSettled_of_due (lvl := .closed) hh hw hf (by rw [hs]; nofun) ht
      rw [State.feedbackSettles, State.seenClosed_of_awaited hc] at hx
      exact hx
    have hwe : w.engine v.pool = s.engine v.pool := State.engine_setValve _ _ _ _
    refine ⟨fun he hd => ?_, fun he hd => ?_⟩
    · have hrel : (w.engine v.pool).released w = e.released s := by
        rw [hwe]
        exact Engine.released_congr _ (State.setValve_station _ _ _) (State.setValve_now _ _ _)
      rw [hexec, State.closedNotice_of_releasing (by rw [hwe]; exact he), hrel]
      exact congrArg Host.Outcome.next (finish_of_released he hd)
    · rw [hexec, State.closedNotice_clears he]
      exact congrArg Host.Outcome.next (finish_of_cleared he hd rfl)
  · generalize hw' : s.setValve .blowdown { s.valve .blowdown with settled := .closed, check := .none, timer := none } = w
    have hexec : exec (.feedbackSettled .blowdown { level := .closed, heldFor := h }) s =
        .next (State.finish s (w.closedNotice .blowdown)) := by
      have hx := exec_feedbackSettled_of_due (v := .blowdown) (lvl := .closed) hh hw hf (by
        show s.out.blowdown.settled ≠ _
        rw [hs]; nofun) ht
      rw [State.feedbackSettles, State.seenClosed_of_awaited (v := .blowdown) hc, hw'] at hx
      exact hx
    have hwe : w.engine .discharge = s.engine .discharge := by rw [← hw']; rfl
    have hbody : ∃ e x : _, ∃ hx : x = w.setEngine .discharge e ∨ x = (w.setEngine .discharge e).raise .valveCleared,
        w.closedNotice .blowdown = x ∧ (e.state = .rest ∨ e.state = .locked) := by
      rcases hstate with ⟨he, -⟩ | he
      · exact ⟨_, _, .inl rfl, State.closedNotice_of_releasing (v := .blowdown) (by rw [← hwe] at he; exact he),
          Engine.released_of_no_need (by rw [← hwe] at hn; exact hn)⟩
      · refine ⟨(s.engine .discharge).arrived s, _, .inr rfl, ?_, .inl (Engine.arrived_of_no_need hn)⟩
        rw [← hw']
        exact State.closedNotice_clears (v := .blowdown) he
    obtain ⟨e, x, hx, hnotice, he⟩ := hbody
    rw [hnotice] at hexec
    have hsame : x.engine .discharge = e ∧ x.bio = s.bio ∧ x.demand = s.demand ∧ x.out.makeup = s.out.makeup ∧
        x.station = s.station ∧ x.meas = s.meas ∧ x.claim.supply = s.claim.supply ∧ x.feed = s.feed := by
      rcases hx with rfl | rfl <;> subst hw' <;> exact ⟨rfl, rfl, rfl, rfl, rfl, rfl, rfl, rfl⟩
    obtain ⟨hxe, hxb, hxd, hxm, hxst, hxmeas, hxs, hxf⟩ := hsame
    have hfrom : (s.engine .discharge).state = .releasing ∨ (s.engine .discharge).state = .stuck ∨
        (s.engine .discharge).state = .holding := by
      rcases hstate with ⟨k, -⟩ | k
      · exact .inl k
      · exact .inr (.inl k)
    obtain ⟨hdose, -⟩ := finish_dose hcyc hxb hxst (by rw [hxe]; exact he) hfrom
    exact ⟨_, hexec, hdose.lines, by rw [hdose.engine, hxe]; exact he, hdose.bio, hdose.pump, by rw [hdose.suppress, hxd],
      hdose.makeup.trans hxm, hdose.station.trans hxst, hdose.meas.trans hxmeas, hdose.supply.trans hxs, hdose.feed.trans hxf⟩

end Sys2Proof.Machine
end

section
/-! SUPPORT. Valve faults: the reports of their events, and the abort of the cycle where the blowdown valve sticks in CLOSING
(R54, R57, R59, R112, R145, R149). -/

namespace Sys2Proof.Machine
open Sys2Proof

set_option Elab.async false

section
variable {b s t u : State} {p : Pool} {v : Valve} {h : Nat} {e : Engine} {r : ValveRec}

/-! ## The reports of a valve fault (R59, R90) -/

/-- What a body that takes one engine into a fault leaves of R90's other subjects. -/
structure Faulted (v : Valve) (s t : State) : Prop where
  others : ∀ q, q ≠ v.pool → t.engine q = s.engine q
  moved : (t.engine v.pool).state ≠ (s.engine v.pool).state
  fault : (t.engine v.pool).valveFault = true
  bio : t.bio = s.bio
  meas : t.meas = s.meas
  mismatch : t.feed.mismatch = s.feed.mismatch
  backlog : t.feed.backlog = s.feed.backlog
  counters : t.stats.counters = s.stats.counters
  condition : t.alarmCondition = true

theorem Faulted.reportTriggers (hf : Faulted v s t) : reportTriggers s t = s.faultTriggers := by
  have hvt : t.valveFault = true := State.valveFault_of_engine hf.fault
  have hsummary : t.faultSummary = { s.faultSummary with valve := true } := by
    rw [State.faultSummary, State.faultSummary, hf.meas, hf.mismatch, hf.backlog, hvt]
  rw [reportTriggers_of_pool v.pool (fun q hq => by rw [hf.others q hq]), engineDiffers_eq_true hf.moved, hf.bio,
    bne_self_eq_false, State.faultTriggers]
  have hd : alarmSummaryDiffers s t = false ↔ s.alarmCondition = true ∧ s.valveFault = true := by
    rw [alarmSummaryDiffers_eq_false_iff, hf.condition, hsummary]
    constructor
    · rintro ⟨h1, h2⟩
      exact ⟨h1.symm, (congrArg FaultSummary.valve h2).symm⟩
    · rintro ⟨h1, h2⟩
      exact ⟨h1.symm, by rw [← h2]; rfl⟩
  by_cases hk : s.alarmCondition = true ∧ s.valveFault = true
  · rw [hd.mpr hk, if_pos hk]
    rfl
  · have hdiffers : alarmSummaryDiffers s t = true := by
      cases hx : alarmSummaryDiffers s t
      · exact absurd (hd.mp hx) hk
      · rfl
    rw [hdiffers, if_neg hk]
    rfl

/-- The end of such an event where the closing test does nothing. -/
theorem finish_of_fault (hf : Faulted v s t) (hd : v = .makeup ∨ s.bio.cycle ≠ .closing ∨ (t.engine v.pool).state = .releasing) :
    State.finish s t = t.toldTimes s.faultTriggers := by
  rw [finish_eq_toldTimes (fun hdue => ?_) (fun _ => State.valveFault_of_engine hf.fault) hf.counters, hf.reportTriggers]
  cases v with
  | makeup =>
    have hno := closingTestDue_of_same (b := s) (s := t) (by rw [hf.bio]) (by rw [hf.others .discharge (by decide)])
    cases hno.symm.trans hdue
  | blowdown =>
    rcases hd with hv | hc | hr
    · cases hv
    · cases (closingTestDue_of_not_closing (b := s) (s := t) (by rwa [hf.bio])).symm.trans hdue
    · exact State.closingTest_of_busy (.inr hr)

/-- The last acts of a body that takes an engine into a fault. -/
theorem Faulted.of_alarm {n : Event} (hothers : ∀ q, q ≠ v.pool → u.engine q = s.engine q)
    (hmoved : (u.engine v.pool).state ≠ (s.engine v.pool).state) (hfault : (u.engine v.pool).valveFault = true)
    (hbio : u.bio = s.bio) (hmeas : u.meas = s.meas) (hmismatch : u.feed.mismatch = s.feed.mismatch)
    (hbacklog : u.feed.backlog = s.feed.backlog) (hcounters : u.stats.counters = s.stats.counters) :
    Faulted v s ((u.raise n).occur .valveFault) :=
  ⟨hothers, hmoved, hfault, hbio, hmeas, hmismatch, hbacklog, hcounters, State.occur_alarmCondition _ _⟩

/-! ## Entry to STUCK (R54, R57) -/

theorem State.enterStuck_of_outside (hd : v = .makeup ∨ s.bio.cycle ≠ .closing) (e : Engine) :
    s.enterStuck v.pool e = ((s.setEngine v.pool e).raise .valveStuck).occur .valveFault := by
  have hno : ¬ (v.pool == .discharge && s.bio.cycle == .closing) = true := by
    rw [Bool.and_eq_true, beq_iff_eq, beq_iff_eq]
    rintro ⟨hp, hc⟩
    rcases hd with rfl | hd
    · cases hp
    · exact hd hc
  have hbio : ((s.setEngine v.pool e).raise .valveStuck).bio = s.bio := State.setEngine_bio s v.pool e
  rw [State.enterStuck, State.stuckAlarms, hbio, if_neg hno]

/-- What an entry to STUCK leaves, whatever the order of its alarms (log 9). -/
theorem State.enterStuck_latched (s : State) (p : Pool) (e : Engine) : Latched .valveFault (s.enterStuck p e) ∧
    (s.enterStuck p e).stats.flag .valveStuck = true := by
  have hflag := (s.setEngine p e).raise_flag_self .valveStuck
  rw [State.enterStuck]
  generalize (s.setEngine p e).raise .valveStuck = u at *
  rw [State.stuckAlarms]
  split
  · dsimp only
    split
    · exact ⟨State.occur_latched _ _, hflag⟩
    · exact ⟨State.occur_latched _ _, hflag⟩
  · exact ⟨State.occur_latched _ _, hflag⟩

/-- An entry to STUCK from a state in which the valve's record alone has changed. -/
theorem Faulted.of_stuck (hs : (s.engine v.pool).state ≠ .stuck) (he : e.state = .stuck) (r : ValveRec) :
    Faulted v s ((((s.setValve v r).setEngine v.pool e).raise .valveStuck).occur .valveFault) := by
  refine .of_alarm (fun q hq => ?_) ?_ ?_ (by simp) (by simp) (by simp) (by simp) (by simp)
  · rw [State.engine_setEngine_ne _ _ hq, State.engine_setValve]
  · rw [State.engine_setEngine, he]
    exact Ne.symm hs
  · rw [State.engine_setEngine, Engine.valveFault, he]
    rfl

/-! ## An abort leaves a stuck valve (R149) -/

/-- The DISCHARGE engine stays in STUCK and its valve's record as it is. -/
structure StuckKept (s t : State) : Prop where
  engine : (s.engine .discharge).state = .stuck → (t.engine .discharge).state = .stuck
  valve : (s.engine .discharge).state = .stuck → t.out.blowdown = s.out.blowdown

theorem StuckKept.trans (h : StuckKept s t) (k : StuckKept t u) : StuckKept s u :=
  ⟨fun hs => k.engine (h.engine hs), fun hs => (k.valve (h.engine hs)).trans (h.valve hs)⟩

theorem StuckKept.of_same (he : t.engine .discharge = s.engine .discharge) (hv : t.out.blowdown = s.out.blowdown) :
    StuckKept s t :=
  ⟨fun hs => by rw [he]; exact hs, fun _ => hv⟩

theorem State.needNotice_stuckKept (s : State) (n : Bool) (k : Nat) : StuckKept s (s.needNotice .discharge n k) := by
  refine ⟨fun hs => State.needNotice_stuck hs n k, fun hs => ?_⟩
  by_cases hn : (s.engine .discharge).need = n
  · rw [State.needNotice_of_same k hn]
    rfl
  · cases n with
    | true => rw [State.needNotice_rises_other (.inr (.inr (.inl hs))) (Bool.not_eq_true _ |>.mp hn)]; rfl
    | false => rw [State.needNotice_falls_idle (.inr (.inl hs)) (Bool.not_eq_false _ |>.mp hn)]; rfl

theorem State.recomputeDischarge_stuckKept (s : State) : StuckKept s s.recomputeDischarge := by
  simp only [State.recomputeDischarge]
  generalize dischargeDemand s.station.cfg s.meas.derived s.demand = r
  split
  · exact .of_same rfl rfl
  · exact StuckKept.trans (t := { s with demand := { s.demand with dDemand := r.1, dBase := r.2 } }) (.of_same rfl rfl)
      (State.needNotice_stuckKept _ _ _)

theorem State.aborted_stuckKept (s : State) : StuckKept s s.aborted := by
  have hrequest (u : State) : StuckKept u (u.request false false) :=
    StuckKept.trans (t := { u with demand := { u.demand with force := false, suppress := false } }) (.of_same rfl rfl)
      (State.recomputeDischarge_stuckKept _)
  have hnotice (u : State) : StuckKept u u.cycleNotice := by
    rw [State.cycleNotice_eq]
    exact .of_same rfl rfl
  rw [State.aborted]
  refine StuckKept.trans ?_ (hrequest _)
  refine StuckKept.trans ?_ (hnotice _)
  exact .of_same rfl rfl

theorem State.abortCycle_stuckKept (s : State) : StuckKept s s.abortCycle := by
  rw [State.abortCycle_eq]
  refine StuckKept.trans (t := (if s.bio.cycle == .dosing then s.pump false else s).releaseBiocide) ?_ (State.aborted_stuckKept _)
  have hrest (u : State) : StuckKept u u.releaseBiocide := by
    rw [State.releaseBiocide]
    split
    · rw [State.biocideToRest_eq]
      exact .of_same rfl rfl
    · exact .of_same rfl rfl
  refine StuckKept.trans (t := if s.bio.cycle == .dosing then s.pump false else s) ?_ (hrest _)
  split <;> exact .of_same rfl rfl

/-- R178: the alarms of an event's body stay active while a valve fault stands. -/
theorem Latched.finish_of_tested {k : AlarmKind} (hl : Latched k (t.tested b)) (hv : (t.tested b).valveFault = true) :
    Latched k (State.finish b t) := by
  have hcalm : (t.tested b).calmValveFault b = t.tested b := by
    rw [State.calmValveFault, hv, Bool.not_true, Bool.and_false, if_neg Bool.false_ne_true]
  have hend : State.finish b t = (t.tested b).toldAfter b (reportTriggers b (t.tested b)) := by
    have h1 : State.finish b t = ((t.tested b).calmValveFault b).toldAfter b (reportTriggers b ((t.tested b).calmValveFault b)) :=
      rfl
    rw [h1, hcalm]
  rw [hend]
  refine hl.of_alarms ?_
  rw [State.toldAfter, State.driveLines_stats, State.nameLast_eq]
  exact State.composeReports_alarms _ _

/-- What the end of an event leaves of a body that takes DISCHARGE into STUCK in CLOSING (R145, R149). -/
structure ClosingStuck (t f : State) : Prop where
  lines : LinesFollow f
  engine : (f.engine .discharge).state = .stuck
  check : f.out.blowdown.check = t.out.blowdown.check
  stuck : f.stats.flag .valveStuck = true
  cycle : f.bio.cycle = .idle
  interval : f.bio.interval = some 3600000
  mark : f.bio.abortMark = true
  aborted : f.stats.flag .biocideAborted = true
  suppress : f.demand.suppress = false
  force : f.demand.force = false
  valveFault : Latched .valveFault f
  biocideAborted : Latched .biocideAborted f

theorem finish_closingStuck (hc : t.bio.cycle = .closing) (ht : (t.engine .discharge).state = .stuck)
    (hs : (s.engine .discharge).state ≠ .stuck) (hl : Latched .valveFault t) (hf : t.stats.flag .valveStuck = true) :
    ClosingStuck t (State.finish s t) := by
  have hdue : closingTestDue s t = true := by
    rw [closingTestDue, hc, ht, Bool.and_eq_true, Bool.or_eq_true]
    exact ⟨rfl, .inr (bne_iff_ne.mpr hs)⟩
  have htest : t.tested s = t.abortCycle := by rw [State.tested_of_due hdue, State.closingTest, ht]
  have hstopped := t.abortCycle_stopped
  have hkept := t.abortCycle_stuckKept
  have hlatched : Latched .biocideAborted t.abortCycle := (State.occur_latched _ _).of_stats t.abortCycle_stats
  have hvalve : (State.finish s t).out.blowdown = (t.tested s).out.blowdown := finish_valve s t .blowdown
  have hflag (k : Event) (hk : t.abortCycle.stats.flag k = true) : (State.finish s t).stats.flag k = true :=
    finish_flag_of_tested (by rw [htest]; exact hk)
  have hfault : (t.tested s).valveFault = true := by
    refine State.valveFault_of_engine (v := .blowdown) ?_
    show ((t.tested s).engine .discharge).valveFault = true
    rw [htest, Engine.valveFault, hkept.engine ht]
    rfl
  exact {
    lines := linesFollow_finish s t
    engine := by rw [finish_engine, htest]; exact hkept.engine ht
    check := by rw [hvalve, htest, hkept.valve ht]
    stuck := hflag _ (hstopped.flags _ hf)
    cycle := by rw [finish_bio, htest, hstopped.bio]
    interval := by rw [finish_bio, htest, hstopped.bio]
    mark := by rw [finish_bio, htest, hstopped.bio]
    aborted := hflag _ hstopped.flag
    suppress := by rw [finish_demand, htest, hstopped.suppress]
    force := by rw [finish_demand, htest, hstopped.force]
    valveFault := .finish_of_tested (by rw [htest]; exact hl.abortCycle) hfault
    biocideAborted := .finish_of_tested (by rw [htest]; exact hlatched) hfault }

/-! ## The unbidden opening (R57, R112) -/

theorem State.unbiddenOpenNotice_of_idle (h1 : (s.engine v.pool).state ≠ .holding) (h2 : (s.engine v.pool).state ≠ .releasing)
    (h3 : (s.engine v.pool).state ≠ .stuck) :
    s.unbiddenOpenNotice v = s.enterStuck v.pool (s.engine v.pool).toStuckUnbidden := by
  rw [State.unbiddenOpenNotice]
  cases hs : (s.engine v.pool).state with
  | holding => exact absurd hs h1
  | releasing => exact absurd hs h2
  | stuck => exact absurd hs h3
  | rest | asking | confirming | locked => rfl

end

/-- Settles O32, by where the cycle stands. -/
theorem unbiddenOpeningSticks : Obligations.UnbiddenOpeningSticks := by
  intro v h s ⟨hh, _⟩ ht hw hf hs hc hm h1 h2 h3 opens
  generalize hr : ({ s.valve v with settled := .opened, check := .closeWatch, timer := none } : ValveRec) = r
  have hwe : (s.setValve v r).engine v.pool = s.engine v.pool := State.engine_setValve _ _ _ _
  have hexec : exec opens s = .next (State.finish s ((s.setValve v r).enterStuck v.pool (s.engine v.pool).toStuckUnbidden)) := by
    have hx := exec_feedbackSettled_of_due (lvl := .opened) hh hw hf (by rw [hs]; nofun) ht
    rw [State.feedbackSettles, State.seenOpen_of_unbidden hc hm, hr,
      State.unbiddenOpenNotice_of_idle (by rwa [hwe]) (by rwa [hwe]) (by rwa [hwe]), hwe] at hx
    exact hx
  refine ⟨fun hd => ?_, fun hv hcyc => ?_⟩
  · have hout : v = .makeup ∨ (s.setValve v r).bio.cycle ≠ .closing := by rwa [State.setValve_bio]
    rw [hexec, State.enterStuck_of_outside hout,
      finish_of_fault (Faulted.of_stuck h3 (e := (s.engine v.pool).toStuckUnbidden) rfl r) (hd.imp id .inl)]
    rfl
  · subst hv
    obtain ⟨hl, hflag⟩ := (s.setValve .blowdown r).enterStuck_latched .discharge (s.engine .discharge).toStuckUnbidden
    have ⟨_, _, hbio, _, hout, _⟩ :=
      (s.setValve .blowdown r).enterStuck_stuckOnly .discharge (s.engine .discharge).toStuckUnbidden
    have heng : ((s.setValve .blowdown r).enterStuck .discharge (s.engine .discharge).toStuckUnbidden).engine .discharge =
        (s.engine .discharge).toStuckUnbidden := by
      rw [State.enterStuck, State.stuckAlarms_engine]
      rfl
    have hk := finish_closingStuck (s := s) (by rw [hbio]; exact hcyc) (by rw [heng]; rfl) h3 hl hflag
    have hcheck : (State.finish s ((s.setValve .blowdown r).enterStuck .discharge
        (s.engine .discharge).toStuckUnbidden)).out.blowdown.check = .closeWatch := by
      rw [hk.check, hout, ← hr]
      rfl
    exact ⟨_, hexec, hk.engine, hcheck, hk.stuck, hk.cycle, hk.interval, hk.mark, hk.aborted, hk.suppress, hk.force,
      hk.valveFault, hk.biocideAborted⟩

end Sys2Proof.Machine
end

section
/-! SUPPORT. The confirm time of a check: the open failure, the close failure and the release without feedback (R53, R54, R56,
R107, R109, R110, R145). -/

namespace Sys2Proof.Machine
open Sys2Proof

set_option Elab.async false

section
variable {b s t u w : State} {p : Pool} {v : Valve} {h : Nat} {e : Engine} {r : ValveRec} {c : Check}

theorem State.checkOver_of (hw : s.station.state.working = true)
    (hr : reached (s.station.cfg.confirmTime * 1000) (s.valve v).timer = true) (hc : (s.valve v).check = c) :
    s.checkOver v c = true := by
  rw [State.checkOver, hw, hc, confirmMs, hr]
  cases c <;> rfl

theorem exec_openCheckExpiry_of_due (hh : s.held = none) (hw : s.station.state.working = true)
    (hr : reached (s.station.cfg.confirmTime * 1000) (s.valve v).timer = true) (hc : (s.valve v).check = .openCheck) :
    exec (.openCheckExpiry { valve := v, openHeldFor := h }) s = .next (State.finish s (s.openFails v h)) :=
  (exec_openCheckExpiry _ s).trans (event_of_due hh (State.checkOver_of hw hr hc))

theorem exec_closeCheckExpiry_of_due (hh : s.held = none) (hw : s.station.state.working = true)
    (hr : reached (s.station.cfg.confirmTime * 1000) (s.valve v).timer = true) (hc : (s.valve v).check = .closeCheck) :
    exec (.closeCheckExpiry v) s = .next (State.finish s (s.closeCheckEnds v)) :=
  (exec_closeCheckExpiry v s).trans (event_of_due hh (State.checkOver_of hw hr hc))

/-! ## The open failure (R56, R107) -/

/-- R56: the alarmed state of a failure to open, the engine and the valve's record as the release leaves them. -/
def State.openFailed (s : State) (v : Valve) (e : Engine) (r : ValveRec) : State :=
  ((((s.setEngine v.pool e).endNoFlow v).setValve v r).raise .valveFailOpen).occur .valveFault

theorem Faulted.of_openFailed (hs : (s.engine v.pool).state ≠ e.state) (hf : e.valveFault = true) (r : ValveRec) :
    Faulted v s (s.openFailed v e r) := by
  obtain ⟨hmismatch, hbacklog⟩ := (s.setEngine v.pool e).endNoFlow_marks_setValve v r
  refine .of_alarm (fun q hq => ?_) ?_ ?_ (by simp) (by simp) (hmismatch.trans (by simp)) (hbacklog.trans (by simp)) (by simp)
  · rw [State.engine_setValve, State.engine_endNoFlow, State.engine_setEngine_ne _ _ hq]
  · rw [State.engine_setValve, State.engine_endNoFlow, State.engine_setEngine]
    exact Ne.symm hs
  · rw [State.engine_setValve, State.engine_endNoFlow, State.engine_setEngine]
    exact hf

theorem State.openFailedNotice_of_holding (hs : (s.engine v.pool).state = .holding) : s.openFailedNotice v =
    ((s.release v false true false).raise .valveFailOpen).occur .valveFault := by
  rw [State.openFailedNotice, hs, if_pos (beq_self_eq_true _)]

/-- R56, R53: an engine as a failure to open leaves it, its valve seen closed. -/
def Engine.failedOpen (e : Engine) : Engine :=
  { e with state := .locked, phase := none, holdStart := none, maxRun := none, releaseDeferred := false, ageing := 0,
           ageingClock := 0, reask := false, lock := false }

theorem Engine.failedOpen_valveFault (e : Engine) : e.failedOpen.valveFault = true := rfl

/-- A valve still seen closed: its engine passes through RELEASING to LOCKED. -/
theorem State.openFails_of_seenClosed (hsc : (s.valve v).seenClosed = true) (hs : (s.engine v.pool).state = .holding)
    (ht : h < 250) : s.openFails v h = s.openFailed v (s.engine v.pool).failedOpen (s.valve v).shut := by
  have hby : (s.valve v).openedBy h = s.valve v := by
    have hno : (decide (Config.settleTime ≤ h)) = false := decide_eq_false (Nat.not_le.mpr ht)
    rw [ValveRec.openedBy, hno, Bool.and_false, if_neg Bool.false_ne_true]
  rw [State.openFails, hby]
  generalize hw : s.setValve v { s.valve v with check := .none, timer := none } = w
  have hwe : w.engine v.pool = s.engine v.pool := by rw [← hw, State.engine_setValve]
  have hwv : w.valve v = { s.valve v with check := .none, timer := none } := by rw [← hw, State.valve_setValve]
  rw [State.openFailedNotice_of_holding (by rwa [hwe]),
    State.release_of_seenClosed _ _ _ (by rw [hwv]; exact hsc), hwe, hwv, ← hw]
  cases v <;> rfl

/-- R56: an engine as a failure to open leaves it, its valve seen open at that instant. -/
def Engine.failedLate (e : Engine) : Engine :=
  { e with state := .releasing, phase := none, holdStart := none, maxRun := none, releaseDeferred := false, ageing := 0,
           ageingClock := 0, reask := false, lock := true }

theorem Engine.failedLate_valveFault (e : Engine) : e.failedLate.valveFault = true := rfl

/-- R107: an observed OPEN at the same instant leaves the valve commanded closed while it is seen open. -/
theorem State.openFails_of_opened (hsc : (s.valve v).seenClosed = true) (hs : (s.engine v.pool).state = .holding)
    (ht : 250 ≤ h) : s.openFails v h = s.openFailed v (s.engine v.pool).failedLate
      { s.valve v with settled := .opened, commanded := .closed, check := .closeCheck, timer := some 0 } := by
  have hpresent : (s.valve v).feedbackPresent = true := by
    rw [ValveRec.seenClosed, Bool.and_eq_true] at hsc
    exact hsc.1
  have hby : (s.valve v).openedBy h = { s.valve v with settled := .opened } := by
    have hyes : (decide (Config.settleTime ≤ h)) = true := decide_eq_true ht
    rw [ValveRec.openedBy, if_pos (by rw [hpresent, hyes]; rfl)]
  rw [State.openFails, hby]
  generalize hw : s.setValve v { { s.valve v with settled := .opened } with check := .none, timer := none } = w
  have hwe : w.engine v.pool = s.engine v.pool := by rw [← hw, State.engine_setValve]
  have hwv : w.valve v = { s.valve v with settled := .opened, check := .none, timer := none } := by
    rw [← hw, State.valve_setValve]
  have hnot : (w.valve v).seenClosed = false := by
    rw [hwv, ValveRec.seenClosed, Bool.and_eq_false_iff]
    exact .inr rfl
  rw [State.openFailedNotice_of_holding (by rwa [hwe]), State.release_of_not_seenClosed _ _ _ hnot, hwe, hwv, ← hw]
  cases v <;> rfl

/-! ## The end of a close check (R109, R110) -/

/-- R54: a valve still seen open sticks. -/
theorem State.closeCheckEnds_of_open (hf : (s.valve v).feedbackPresent = true) (ho : (s.valve v).settled = .opened)
    (hs : (s.engine v.pool).state = .releasing) : s.closeCheckEnds v =
      (s.setValve v { s.valve v with check := .closeWatch, timer := none }).enterStuck v.pool (s.engine v.pool).toStuck := by
  have hobs : (s.valve v).observed = .opened := by rw [ValveRec.observed, hf, if_pos rfl, ho]
  rw [State.closeCheckEnds, hobs, if_pos (beq_self_eq_true _), State.closeFailedNotice, State.engine_setValve, hs,
    if_pos (beq_self_eq_true _)]

/-- R109: a valve without feedback is taken to have closed. -/
theorem State.closeCheckEnds_of_blind (hf : (s.valve v).feedbackPresent = false) (hm : (s.valve v).commanded = .closed)
    (hs : (s.engine v.pool).state = .releasing) : s.closeCheckEnds v =
      (s.setValve v { s.valve v with check := .none, timer := none }).setEngine v.pool ((s.engine v.pool).released s) := by
  have hobs : (s.valve v).observed = .closed := by
    rw [ValveRec.observed, hf, if_neg Bool.false_ne_true, hm]
  have hno : ¬ (ValvePos.closed == ValvePos.opened) = true := nofun
  rw [State.closeCheckEnds, hobs, if_neg hno, State.closedNotice_of_releasing (by rwa [State.engine_setValve]),
    State.engine_setValve]
  exact congrArg _ (Engine.released_congr _ (State.setValve_station _ _ _) (State.setValve_now _ _ _))

/-! ## The blowdown valve in CLOSING (R145, R149) -/

theorem closeFailure_in_closing (hc : s.bio.cycle = .closing) (hs : (s.engine .discharge).state = .releasing)
    (hk : s.closeCheckEnds .blowdown = (s.setValve .blowdown { s.out.blowdown with check := .closeWatch, timer := none }).enterStuck
      .discharge (s.engine .discharge).toStuck) :
    ClosingStuck (s.closeCheckEnds .blowdown) (State.finish s (s.closeCheckEnds .blowdown)) ∧
      (s.closeCheckEnds .blowdown).out.blowdown.check = .closeWatch := by
  generalize hr : ({ s.out.blowdown with check := .closeWatch, timer := none } : ValveRec) = r at hk
  rw [hk]
  obtain ⟨hl, hflag⟩ := (s.setValve .blowdown r).enterStuck_latched .discharge (s.engine .discharge).toStuck
  have ⟨_, _, hbio, _, hout, _⟩ := (s.setValve .blowdown r).enterStuck_stuckOnly .discharge (s.engine .discharge).toStuck
  have heng : ((s.setValve .blowdown r).enterStuck .discharge (s.engine .discharge).toStuck).engine .discharge =
      (s.engine .discharge).toStuck := by
    rw [State.enterStuck, State.stuckAlarms_engine]
    rfl
  refine ⟨finish_closingStuck (by rw [hbio]; exact hc) (by rw [heng]; rfl) (by rw [hs]; nofun) hl hflag, ?_⟩
  rw [hout, ← hr]
  rfl

theorem openFailure_in_closing (hc : s.bio.cycle = .closing) (hs : (s.engine .discharge).state = .holding)
    (ht : t = s.openFailed .blowdown (s.engine .discharge).failedOpen s.out.blowdown.shut) :
    DoseBegun s t (State.finish s t) ∧ (t.engine .discharge).state = .locked ∧ t.out.blowdown = s.out.blowdown.shut ∧
      t.stats.flag .valveFailOpen = true ∧ Latched .valveFault (State.finish s t) := by
  have he : t.engine .discharge = (s.engine .discharge).failedOpen := by rw [ht]; rfl
  have hstate : (t.engine .discharge).state = .locked := by rw [he]; rfl
  have hl : Latched .valveFault t := by rw [ht]; exact State.occur_latched _ _
  obtain ⟨hdose, htest⟩ := finish_dose (t := t) hc (by rw [ht]; rfl) (by rw [ht]; rfl) (.inr hstate) (.inr (.inr hs))
  refine ⟨hdose, hstate, by rw [ht]; rfl, by rw [ht]; exact State.raise_flag_self _ _, .finish_of_tested ?_ ?_⟩
  · rw [State.tested]
    split
    · exact hl.closingTest
    · exact hl
  · refine State.valveFault_of_engine (v := .blowdown) ?_
    show ((t.tested s).engine .discharge).valveFault = true
    rw [htest, State.enterDosing_engine_ne _ (by decide), he]
    rfl

end

/-- Settles O34, check by check. -/
theorem confirmTimeDecides : Obligations.ConfirmTimeDecides := by
  refine ⟨fun v h s ⟨hh, _⟩ hw hr => ?_, fun s hh hw hr hc hcyc hs => ⟨fun hf ho => ?_, fun hf hm hn hre => ?_⟩,
    fun h s hh hw hr hc hcyc hsc hs ht => ?_⟩
  · intro outside
    refine ⟨fun hc hsc hs ht hd => ?_, fun hc hsc hs ht => ?_, fun hc hf ho hs hd => ?_, fun hc hf hm hs hd => ?_⟩
    · rw [exec_openCheckExpiry_of_due hh hw hr hc, State.openFails_of_seenClosed hsc hs ht]
      exact congrArg Host.Outcome.next
        (finish_of_fault (.of_openFailed (by rw [hs]; nofun) (Engine.failedOpen_valveFault _) _) (hd.imp id .inl))
    · rw [exec_openCheckExpiry_of_due hh hw hr hc, State.openFails_of_opened hsc hs ht]
      refine congrArg Host.Outcome.next
        (finish_of_fault (.of_openFailed (by rw [hs]; nofun) (Engine.failedLate_valveFault _) _) (.inr (.inr ?_)))
      rw [State.openFailed]
      exact congrArg Engine.state
        ((State.engine_setValve _ _ _ _).trans ((State.engine_endNoFlow _ _ _).trans (State.engine_setEngine _ _ _)))
    · have hout : v = .makeup ∨ (s.setValve v { s.valve v with check := .closeWatch, timer := none }).bio.cycle ≠ .closing := by
        rw [State.setValve_bio]
        exact hd
      rw [exec_closeCheckExpiry_of_due hh hw hr hc, State.closeCheckEnds_of_open hf ho hs, State.enterStuck_of_outside hout]
      exact congrArg Host.Outcome.next (finish_of_fault (Faulted.of_stuck (by rw [hs]; nofun) rfl _) (hd.imp id .inl))
    · rw [exec_closeCheckExpiry_of_due hh hw hr hc, State.closeCheckEnds_of_blind hf hm hs]
      exact congrArg Host.Outcome.next (finish_of_released hs hd)
  · obtain ⟨hk, hcheck⟩ := closeFailure_in_closing hcyc hs (State.closeCheckEnds_of_open (v := .blowdown) hf ho hs)
    exact ⟨_, exec_closeCheckExpiry_of_due (v := .blowdown) hh hw hr hc, hk.lines, hk.engine, hk.check.trans hcheck, hk.stuck,
      hk.cycle, hk.interval, hk.mark, hk.aborted, hk.suppress, hk.force, hk.valveFault, hk.biocideAborted⟩
  · have hexec := exec_closeCheckExpiry_of_due (v := .blowdown) hh hw hr hc
    rw [State.closeCheckEnds_of_blind (v := .blowdown) hf hm hs] at hexec
    obtain ⟨hdose, -⟩ := finish_dose (s := s) (t := (s.setValve .blowdown { s.out.blowdown with check := .none, timer := none }).setEngine
      .discharge ((s.engine .discharge).released s)) hcyc rfl rfl (Engine.released_of_no_need hn) (.inl hs)
    have he : ((State.finish s ((s.setValve .blowdown { s.out.blowdown with check := .none, timer := none }).setEngine .discharge
        ((s.engine .discharge).released s))).engine .discharge) = (s.engine .discharge).released s := hdose.engine
    refine ⟨_, hexec, hdose.lines, ?_, hdose.bio, hdose.pump⟩
    exact (congrArg (fun e : Engine => e.state = .rest ∨ e.state = .locked) he).mpr (Engine.released_of_no_need hn)
  · have hexec := exec_openCheckExpiry_of_due (v := .blowdown) (h := h) hh hw hr hc
    rw [State.openFails_of_seenClosed (v := .blowdown) hsc hs ht] at hexec
    obtain ⟨hdose, hstate, hvalve, hflag, hl⟩ := openFailure_in_closing hcyc hs rfl
    exact ⟨_, hexec, hdose.lines, (congrArg Engine.state hdose.engine).trans hstate, hdose.blowdown.trans hvalve, hdose.flags _ hflag, hl,
      hdose.bio, hdose.pump⟩

end Sys2Proof.Machine
end

section
/-! SUPPORT. RESTART (R169, R170, R190): at once, or after its LEAVING. -/

namespace Sys2Proof.Machine
open Sys2Proof

set_option Elab.async false

section
variable {b s t u : State} {straps : BitVec 5}

/-- R169: the four kinds of state in which a RESTART does not wait. -/
theorem State.restartAtOnce_iff (s : State) : s.restartAtOnce = true ↔
    s.station.state = .quiet ∨ s.station.state = .configFault ∨ (s.engine .discharge).state = .stuck ∨
      (s.engine .supply).state = .stuck ∨ (s.engine .biocide).state = .stuck := by
  simp only [State.restartAtOnce, Bool.or_eq_true, beq_iff_eq, or_assoc]

theorem exec_restart_of_posted (hh : s.held = none) (hp : Posted s .restart) (hs : s.station.state ≠ .start) :
    exec (.restart straps) s = .next (State.finish s (s.takeRestart straps)) := by
  have hbody : s.restartCommand straps = s.takeRestart straps := by
    rw [State.restartCommand, hp.badArgument, if_neg Bool.false_ne_true, if_neg (by rwa [beq_iff_eq])]
  rw [exec_restart, event_of_due hh hp.awaits, hbody]

/-! ## At once (R170) -/

theorem State.warmRestart_alarms (s : State) (straps : BitVec 5) : (s.warmRestart straps).stats.alarms =
    if straps = 0 then [{ kind := .configFault, active := true, unack := true }] else [] := by
  simp only [State.warmRestart, State.readStraps]
  split <;> rfl

/-- The event in which a restart takes effect ends with the two lines. -/
theorem finish_warmRestart_eq (s : State) (straps : BitVec 5) :
    State.finish s (s.warmRestart straps) = (s.warmRestart straps).driveLines := by
  obtain ⟨-, -, hcounters, hsilent, hbio⟩ := s.warmRestart_line_counters straps
  have halarms := s.warmRestart_alarms straps
  have hcycle := s.bio.restarted_abortable
  rw [← hbio] at hcycle
  generalize s.warmRestart straps = w at *
  have htest : w.tested s = w :=
    State.tested_of_not_due (closingTestDue_of_not_closing (fun hcl => by rw [hcl] at hcycle; cases hcycle))
  have hcalm : w.calmValveFault s = w := by
    have hsame : calmAlarm w.stats.alarms .valveFault = w.stats.alarms := by
      rw [halarms]
      split <;> rfl
    rw [State.calmValveFault]
    split
    · rw [State.calm, hsame]
    · rfl
  have hfin : State.finish s w = ((w.tested s).calmValveFault s).toldAfter s
    (reportTriggers s ((w.tested s).calmValveFault s)) := rfl
  have hcompose (n : Nat) : w.composeReports n = w := by
    induction n with
    | zero => rfl
    | succ n ih =>
      have hone : w.composeReport = w := by
        rw [State.composeReport, State.composes, hsilent, Bool.false_and, if_neg Bool.false_ne_true]
      rw [State.composeReports, hone, ih]
  rw [hfin, htest, hcalm, State.toldAfter_of_same hcounters, State.toldTimes, hcompose]

/-- R157, R170: the state a restart takes effect in, field by field. -/
structure Restarted (straps : BitVec 5) (s t : State) : Prop where
  state : t.station.state = (if straps = 0 then .configFault else .start)
  number : t.station.number = straps.toNat
  causes : t.station.causes = { s.station.causes with command := true }
  pending : t.station.restartPending = false
  loaded : t.station.loaded = false
  peers : t.peers = []
  line : t.line.seq = 0 ∧ t.line.onLine = none ∧ t.line.nextSlot = none ∧ t.line.rxQueue = []
  outputs : t.out.blowdown = s.out.blowdown.restarted ∧ t.out.makeup = s.out.makeup.restarted ∧ t.out.biocidePump = false ∧
    t.out.inhibitorPulse = none
  stats : t.stats = { s.stats.restarted with
    alarms := if straps = 0 then [{ kind := .configFault, active := true, unack := true }] else [] }
  mailbox : t.port.mailbox = Mailbox.reset
  claim : t.claim = Claim.reset
  feed : t.feed = s.feed.restarted
  bio : t.bio = s.bio.restarted

theorem State.warmRestart_restarted (s : State) (straps : BitVec 5) : Restarted straps s (s.warmRestart straps).driveLines := by
  simp only [State.warmRestart, State.readStraps]
  split
  · next h => subst h; exact ⟨rfl, rfl, rfl, rfl, rfl, rfl, ⟨rfl, rfl, rfl, rfl⟩, ⟨rfl, rfl, rfl, rfl⟩, rfl, rfl, rfl, rfl, rfl⟩
  · next h => exact ⟨(if_neg h).symm, rfl, rfl, rfl, rfl, rfl, ⟨rfl, rfl, rfl, rfl⟩, ⟨rfl, rfl, rfl, rfl⟩, by rw [if_neg h]; rfl,
      rfl, rfl, rfl, rfl⟩

/-- R152: what a restart keeps of the sequencer. -/
theorem Sequencer.restarted_cases (q : Sequencer) : q.restarted.abortMark = q.abortMark ∧
    (q.cycle = .idle → q.restarted.cycle = .idle ∧ q.restarted.interval = q.interval) ∧
    (q.cycle = .contact → q.restarted.cycle = .contact ∧ q.restarted.phase = q.phase) ∧
    (q.cycle ≠ .idle → q.cycle ≠ .contact → q.restarted.cycle = .idle ∧ q.restarted.interval = some 3600000) := by
  rw [Sequencer.restarted]
  cases hc : q.cycle with
  | idle => exact ⟨rfl, fun _ => ⟨rfl, rfl⟩, nofun, fun h => absurd rfl h⟩
  | contact => exact ⟨rfl, nofun, fun _ => ⟨rfl, rfl⟩, fun _ h => absurd rfl h⟩
  | due | prebleed | closing | dosing => exact ⟨rfl, nofun, nofun, fun _ _ => ⟨rfl, rfl⟩⟩

/-! ## After its LEAVING (R88, R169) -/

/-- R169: the restart pending. -/
def State.awaitingLeave (s : State) : State := { s with station := { s.station with restartPending := true } }

theorem State.composeLeaving_empty (ho : s.line.onLine = none) (hn : s.line.nextSlot = none) : s.composeLeaving =
    { s with line := { s.line with leavingComposed := true, onLine := some (OnLine.first s.line.seq s.leavingFrame) } } := by
  simp only [State.composeLeaving, State.placeFrame, State.moveUp, Line.moveUp, hn, Option.isSome_none, Bool.false_eq_true, if_false, ho]
  rfl

theorem State.composeLeaving_behind {o : OnLine} (ho : s.line.onLine = some o) (hn : s.line.nextSlot = none) :
    s.composeLeaving = { s with line := { s.line with leavingComposed := true, nextSlot := some s.leavingFrame } } := by
  simp only [State.composeLeaving, State.placeFrame, State.moveUp, Line.moveUp, hn, Option.isSome_none, Bool.false_eq_true, if_false, ho]

/-- R91: the LEAVING takes the slot of a REPORT that waits. -/
theorem State.composeLeaving_over {o : OnLine} {f : TxFrame} (ho : s.line.onLine = some o) (hn : s.line.nextSlot = some f) :
    s.composeLeaving =
      ({ s with line := { s.line with leavingComposed := true, nextSlot := some s.leavingFrame } } : State).count
        .reportsSuperseded 1 := by
  have hline : (s.count .reportsSuperseded 1).line = s.line := rfl
  simp only [State.composeLeaving, State.placeFrame, State.moveUp, Line.moveUp, hn, Option.isSome_some, if_true, hline, ho]
  rfl

/-- A restart pending and the line's slots are none of what an event's end looks at. -/
theorem finish_leaving (hl : LinesFollow s) (l : Line) : State.finish s { s.awaitingLeave with line := l } =
    { s.awaitingLeave with line := l } := by
  have hlines : LinesFollow { s.awaitingLeave with line := l } := hl.of_same rfl rfl rfl rfl rfl
  rw [finish_of_same (b := s) (s := { s.awaitingLeave with line := l }) rfl rfl rfl rfl rfl rfl (State.nameLast_of_same rfl)]
  exact driveLines_of_linesFollow hlines

end

/-- Settles O47, by whether the restart takes effect at once. -/
theorem restartLeavesFirst : Obligations.RestartLeavesFirst := by
  unfold Obligations.RestartLeavesFirst
  intro straps s ⟨hh, hl⟩ hp hs atOnce
  have hexec := exec_restart_of_posted (straps := straps) hh hp hs
  refine ⟨fun hnow => ?_, fun hlater => ?_⟩
  · rw [State.takeRestart, if_pos (s.restartAtOnce_iff.mpr hnow), finish_warmRestart_eq] at hexec
    have hr := s.warmRestart_restarted straps
    have hlines := linesFollow_driveLines (s.warmRestart straps)
    generalize (s.warmRestart straps).driveLines = t at *
    obtain ⟨hseq, hon, hnext, hrx⟩ := hr.line
    obtain ⟨hblow, hmake, hpump, hpulse⟩ := hr.outputs
    obtain ⟨hmark, hidle, hcontact, hother⟩ := s.bio.restarted_cases
    have hvalve (v : Valve) : (t.valve v).commanded = .closed ∧ (t.valve v).check = .none := by
      cases v with
      | blowdown => exact ⟨congrArg ValveRec.commanded hblow, congrArg ValveRec.check hblow⟩
      | makeup => exact ⟨congrArg ValveRec.commanded hmake, congrArg ValveRec.check hmake⟩
    refine ⟨t, hexec, hlines, hr.state, hr.number, hr.causes, hr.pending, hr.loaded, hr.peers, hseq, hon, hnext, hvalve, hpump,
      hpulse, congrArg Stats.flags hr.stats, congrArg Stats.mask hr.stats, (congrArg Stats.counters hr.stats).trans rfl,
      (congrArg Stats.histogram hr.stats).trans rfl, (congrArg Stats.lastCounter hr.stats).trans rfl, hr.mailbox, hr.claim,
      congrArg Stats.alarms hr.stats, hrx, ?_⟩
    rw [hr.feed, hr.bio]
    exact ⟨rfl, rfl, rfl, rfl, rfl, rfl, rfl, rfl, hmark, hidle, hcontact, hother⟩
  · intro u leaving
    have hno : ¬ s.restartAtOnce = true := fun h => hlater (s.restartAtOnce_iff.mp h)
    have hpending : s.takeRestart straps = s.awaitingLeave.composeLeaving := by
      rw [State.takeRestart, if_neg hno]
      rfl
    rw [hexec, hpending]
    refine ⟨fun ho hn => ?_, fun ho hn => ?_, fun ho hn => ?_⟩
    · rw [State.composeLeaving_empty (s := s.awaitingLeave) ho hn]
      exact congrArg Host.Outcome.next (finish_leaving hl _)
    · obtain ⟨o, ho⟩ := Option.isSome_iff_exists.mp ho
      rw [State.composeLeaving_behind (s := s.awaitingLeave) ho hn]
      exact congrArg Host.Outcome.next (finish_leaving hl _)
    · obtain ⟨o, ho⟩ := Option.isSome_iff_exists.mp ho
      obtain ⟨f, hn⟩ := Option.isSome_iff_exists.mp hn
      rw [State.composeLeaving_over (s := s.awaitingLeave) ho hn]
      exact congrArg Host.Outcome.next (finish_of_towerCount (c := .reportsSuperseded) (by decide) rfl rfl
        (State.count_alarms _ _ _) rfl rfl rfl)

end Sys2Proof.Machine
end

section
/-! SUPPORT. Notices outside RUN to engines at rest or in release (R32, R37, R52): nothing moves; and the REPORTs composed on
an empty transmit path (R90, R91). -/

namespace Sys2Proof.Machine
open Sys2Proof

set_option Elab.async false

section
variable {b s t u : State} {p : Pool} {v : Valve} {n : Bool} {k : Nat}

/-! ## Notices outside RUN -/

/-- What a notice outside RUN leaves of an engine at rest or in release. -/
structure Dormant (e f : Engine) : Prop where
  state : f.state = e.state
  amount : f.amount = e.amount
  effCap : f.effCap = e.effCap
  ageing : f.ageing = e.ageing

theorem Dormant.refl (e : Engine) : Dormant e e := ⟨rfl, rfl, rfl, rfl⟩

theorem Dormant.trans {e f g : Engine} (h : Dormant e f) (k : Dormant f g) : Dormant e g :=
  ⟨k.state.trans h.state, k.amount.trans h.amount, k.effCap.trans h.effCap, k.ageing.trans h.ageing⟩

/-- Outside RUN, with every engine at rest or in release. -/
structure Asleep (s : State) : Prop where
  inRun : s.inRun = false
  engines : ∀ p, (s.engine p).state = .rest ∨ (s.engine p).state = .releasing

/-- A step that hands demands on to such engines. -/
structure Dozing (s t : State) : Prop where
  engines : ∀ p, Dormant (s.engine p) (t.engine p)
  same : t = { s with claim := t.claim, demand := t.demand }

theorem Dozing.refl (s : State) : Dozing s s := ⟨fun _ => .refl _, rfl⟩

theorem Dozing.trans (h : Dozing s t) (k : Dozing t u) : Dozing s u :=
  ⟨fun p => (h.engines p).trans (k.engines p), by rw [k.same, h.same]⟩

theorem Asleep.after (h : Asleep s) (k : Dozing s t) : Asleep t := by
  refine ⟨?_, fun p => by rw [(k.engines p).state]; exact h.engines p⟩
  rw [k.same]
  exact h.inRun

theorem State.needNotice_rises_quiet (hr : s.inRun = false) (hs : (s.engine p).state = .rest) (hn : (s.engine p).need = false) :
    s.needNotice p true k = s.setEngine p ((s.engine p).noticed true k) := by
  have hs' : ((s.engine p).noticed true k).state = .rest := hs
  rw [State.needNotice_of_rises hn, State.needRises]
  simp only [State.engine_setEngine, hs']
  rw [State.askFromRest, State.inRun_setEngine, hr, Bool.and_false, Bool.false_and, if_neg Bool.false_ne_true]

/-- R37: outside RUN a need is noted. -/
theorem State.needNotice_dormant (hr : s.inRun = false) (hs : (s.engine p).state = .rest ∨ (s.engine p).state = .releasing)
    (n : Bool) (k : Nat) : ∃ e, s.needNotice p n k = s.setEngine p e ∧ Dormant (s.engine p) e := by
  by_cases hn : (s.engine p).need = n
  · exact ⟨_, State.needNotice_of_same k hn, ⟨rfl, rfl, rfl, rfl⟩⟩
  cases n with
  | true =>
    have hno := Bool.not_eq_true _ |>.mp hn
    rcases hs with hs | hs
    · exact ⟨_, State.needNotice_rises_quiet hr hs hno, ⟨rfl, rfl, rfl, rfl⟩⟩
    · exact ⟨_, State.needNotice_rises_releasing hs hno, ⟨rfl, rfl, rfl, rfl⟩⟩
  | false =>
    have hyes := Bool.not_eq_false _ |>.mp hn
    rcases hs with hs | hs
    · exact ⟨_, State.needNotice_falls_idle (.inl hs) hyes, ⟨rfl, rfl, rfl, rfl⟩⟩
    · exact ⟨_, State.needNotice_falls_releasing hs hyes, ⟨rfl, rfl, rfl, rfl⟩⟩

theorem Dozing.of_setEngine {e : Engine} (q : Demand) (h : Dormant (s.engine p) e) :
    Dozing s (({ s with demand := q } : State).setEngine p e) := by
  refine ⟨fun r => ?_, by cases p <;> rfl⟩
  by_cases hr : r = p
  · subst hr
    rw [State.engine_setEngine]
    exact h
  · rw [State.engine_setEngine_ne _ _ hr]
    exact .refl _

theorem Asleep.notice (h : Asleep s) (q : Demand) (p : Pool) (n : Bool) (k : Nat) :
    Dozing s (({ s with demand := q } : State).needNotice p n k) := by
  obtain ⟨e, he, hd⟩ := State.needNotice_dormant (s := { s with demand := q }) (p := p) h.inRun (h.engines p) n k
  rw [he]
  exact .of_setEngine q hd

theorem Asleep.recomputeDischarge (h : Asleep s) : Dozing s s.recomputeDischarge := by
  simp only [State.recomputeDischarge]
  split
  · exact .refl s
  · exact h.notice _ _ _ _

theorem Asleep.recomputeSupply (h : Asleep s) : Dozing s s.recomputeSupply := by
  simp only [State.recomputeSupply]
  split
  · exact .refl s
  · exact h.notice _ _ _ _

theorem Asleep.recomputeBiocide (h : Asleep s) : Dozing s s.recomputeBiocide := h.notice _ _ _ _

theorem Asleep.cycleNotice (h : Asleep s) : Dozing s s.cycleNotice := h.notice _ _ _ _

theorem Asleep.request (h : Asleep s) (a c : Bool) : Dozing s (s.request a c) := by
  have hq : Dozing s { s with demand := { s.demand with force := a, suppress := c } } := ⟨fun _ => .refl _, rfl⟩
  exact hq.trans (h.after hq).recomputeDischarge

theorem Asleep.renewSuppression (h : Asleep s) : Dozing s s.renewSuppression := by
  rw [State.renewSuppression]
  split
  · exact h.request _ _
  · exact .refl s

/-- The whole hand-over of a scan (R19). -/
theorem Asleep.scanDemand (h : Asleep s) : Dozing s.marksTaken s.scanDemand := by
  have hm : Asleep s.marksTaken := by
    rw [State.marksTaken_eq]
    exact ⟨h.inRun, h.engines⟩
  rw [State.scanDemand_eq, ← State.marksTaken]
  have h1 := hm.recomputeDischarge
  have h2 := (hm.after h1).recomputeSupply
  exact (h1.trans h2).trans ((hm.after (h1.trans h2)).recomputeBiocide)

/-! ## REPORTs on an empty path (R90, R91, R92) -/

theorem State.composeReport_shows (s : State) : s.composeReport.reportFrame = s.reportFrame ∧
    s.composeReport.composes = s.composes := by
  have h := s.composeReport_slotsOnly
  unfold SlotsOnly at h
  rw [h]
  exact ⟨rfl, rfl⟩

theorem State.composeReport_line_empty (hc : s.composes = true) (ho : s.line.onLine = none) (hn : s.line.nextSlot = none) :
    s.composeReport.line = { s.line with onLine := some (OnLine.first s.line.seq s.reportFrame) } := by
  rw [State.composeReport, if_pos hc]
  simp only [State.placeFrame, State.moveUp, Line.moveUp, hn, Option.isSome_none, Bool.false_eq_true, if_false, ho]
  rfl

theorem State.composeReport_line_busy {o : OnLine} (hc : s.composes = true) (ho : s.line.onLine = some o) :
    s.composeReport.line = { s.line with nextSlot := some s.reportFrame } := by
  have hline : (if s.line.nextSlot.isSome then s.count .reportsSuperseded 1 else s : State).line = s.line := by
    split <;> rfl
  rw [State.composeReport, if_pos hc]
  simp only [State.placeFrame, State.moveUp, Line.moveUp, hline, ho]

theorem State.composeReports_line_busy {o : OnLine} (hc : s.composes = true) (ho : s.line.onLine = some o) (n : Nat) :
    (s.composeReports n).line = if n = 0 then s.line else { s.line with nextSlot := some s.reportFrame } := by
  induction n generalizing s with
  | zero => rfl
  | succ n ih =>
    obtain ⟨hframe, hcomposes⟩ := s.composeReport_shows
    have hline := State.composeReport_line_busy hc ho
    rw [State.composeReports_succ, ih (hcomposes.trans hc) (by rw [hline]; exact ho), hframe, hline,
      if_neg (Nat.succ_ne_zero n)]
    split <;> rfl

/-- R91: the first of an event's REPORTs goes on line, and the last of any others waits behind it. -/
theorem State.composeReports_line_empty (hc : s.composes = true) (ho : s.line.onLine = none) (hn : s.line.nextSlot = none)
    (n : Nat) : (s.composeReports (n + 1)).line.onLine = some (OnLine.first s.line.seq s.reportFrame) ∧
      (s.composeReports (n + 1)).line.nextSlot = if n = 0 then none else some s.reportFrame := by
  obtain ⟨hframe, hcomposes⟩ := s.composeReport_shows
  have hline := State.composeReport_line_empty hc ho hn
  have hrest := State.composeReports_line_busy (hcomposes.trans hc) (by rw [hline]) n
  rw [State.composeReports_succ, hrest, hframe, hline]
  split
  · exact ⟨rfl, hn⟩
  · exact ⟨rfl, rfl⟩

end

end Sys2Proof.Machine
end

section
/-! SUPPORT. The end of START (R163): what the load, the first acts of each unit and the first scan leave. -/

namespace Sys2Proof.Machine
open Sys2Proof

set_option Elab.async false

section
variable {b s t u : State} {p : Pool} {v : Valve} {k : Codes}

/-! ## The valves (R63, R113) -/

/-- R63: the valve has feedback and is seen open. -/
def ValveRec.seenOpen (r : ValveRec) : Bool := r.feedbackPresent && r.settled == .opened

theorem ValveRec.seenOpen_iff (r : ValveRec) : r.seenOpen = true ↔ r.feedbackPresent = true ∧ r.settled = .opened := by
  rw [ValveRec.seenOpen, Bool.and_eq_true, beq_iff_eq]

/-- What the end of START makes of the valve engines and of their valves. -/
structure ValvesStarted (s t : State) : Prop where
  same : t = { s with claim := t.claim, out := { s.out with blowdown := t.out.blowdown, makeup := t.out.makeup } }
  engine : ∀ v : Valve, t.engine v.pool = { s.engine v.pool with
    state := if (s.valve v).seenOpen then .releasing else (s.engine v.pool).state }
  valve : ∀ v : Valve, t.valve v = if (s.valve v).seenOpen then (s.valve v).closing else s.valve v
  biocide : t.engine .biocide = s.engine .biocide

theorem State.startValve_self (s : State) (v : Valve) :
    s.startValve v = { s with
      claim := (s.startValve v).claim
      out := { s.out with blowdown := (s.startValve v).out.blowdown, makeup := (s.startValve v).out.makeup } } ∧
    (s.startValve v).engine v.pool = { s.engine v.pool with
      state := if (s.valve v).seenOpen then .releasing else (s.engine v.pool).state } ∧
    (s.startValve v).valve v = if (s.valve v).seenOpen then (s.valve v).closing else s.valve v := by
  rw [State.startValve_eq]
  by_cases h : (s.valve v).feedbackPresent = true ∧ (s.valve v).settled = .opened
  · rw [if_pos h, if_pos ((ValveRec.seenOpen_iff _).mpr h), if_pos ((ValveRec.seenOpen_iff _).mpr h)]
    refine ⟨by cases v <;> rfl, ?_, by rw [State.valve_setValve]⟩
    rw [State.engine_setValve, State.engine_setEngine]
  · have hno : ¬ (s.valve v).seenOpen = true := fun hk => h ((ValveRec.seenOpen_iff _).mp hk)
    rw [if_neg h, if_neg hno, if_neg hno]
    exact ⟨rfl, rfl, rfl⟩

theorem State.startValves_started (s : State) : ValvesStarted s ((s.startValve .blowdown).startValve .makeup) := by
  obtain ⟨hsame, hengine, hvalve⟩ := s.startValve_self .blowdown
  have hsupply : (s.startValve .blowdown).engine .supply = s.engine .supply := s.startValve_engine_ne (by decide)
  have hmakeup : (s.startValve .blowdown).valve .makeup = s.valve .makeup := s.startValve_valve_ne (by decide)
  have hbiocide : (s.startValve .blowdown).engine .biocide = s.engine .biocide := s.startValve_engine_ne (by decide)
  generalize s.startValve .blowdown = x at *
  obtain ⟨ksame, kengine, kvalve⟩ := x.startValve_self .makeup
  have kdischarge : (x.startValve .makeup).engine .discharge = x.engine .discharge := x.startValve_engine_ne (by decide)
  have kblowdown : (x.startValve .makeup).valve .blowdown = x.valve .blowdown := x.startValve_valve_ne (by decide)
  have kbiocide : (x.startValve .makeup).engine .biocide = x.engine .biocide := x.startValve_engine_ne (by decide)
  generalize x.startValve .makeup = y at *
  refine ⟨by rw [ksame, hsame], fun v => ?_, fun v => ?_, kbiocide.trans hbiocide⟩
  · cases v with
    | blowdown => exact kdischarge.trans hengine
    | makeup =>
      have hs : x.engine Valve.makeup.pool = s.engine Valve.makeup.pool := hsupply
      rw [kengine, hmakeup, hs]
  · cases v with
    | blowdown => exact kblowdown.trans hvalve
    | makeup => rw [kvalve, hmakeup]

/-! ## The kept marks and strokes (R128, R133, R152) -/

theorem State.balanceAlarm_eq (s : State) : s.balanceAlarm =
    { s with stats := { s.stats with alarms := s.balanceAlarm.stats.alarms } } := by
  rw [State.balanceAlarm]
  split <;> rfl

theorem State.abortAlarm_eq (s : State) : s.abortAlarm =
    { s with stats := { s.stats with alarms := s.abortAlarm.stats.alarms } } := by
  rw [State.abortAlarm]
  split <;> rfl

/-- What the report of the two kept marks leaves, in either order (log 9). -/
structure MarksReported (s t : State) : Prop where
  same : t = { s with freeIx := t.freeIx, stats := { s.stats with alarms := t.stats.alarms } }
  mismatch : s.feed.mismatch = true → Latched .balanceMismatch t
  aborted : s.bio.abortMark = true → Latched .biocideAborted t

theorem Latched.balanceAlarm {a : AlarmKind} (h : Latched a s) : Latched a s.balanceAlarm := by
  rw [State.balanceAlarm]
  split
  · exact h.occur _
  · exact h

theorem Latched.abortAlarm {a : AlarmKind} (h : Latched a s) : Latched a s.abortAlarm := by
  rw [State.abortAlarm]
  split
  · exact h.occur _
  · exact h

theorem State.balanceAlarm_latched (h : s.feed.mismatch = true) : Latched .balanceMismatch s.balanceAlarm := by
  rw [State.balanceAlarm, if_pos h]
  exact State.occur_latched _ _

theorem State.abortAlarm_latched (h : s.bio.abortMark = true) : Latched .biocideAborted s.abortAlarm := by
  rw [State.abortAlarm, if_pos h]
  exact State.occur_latched _ _

theorem State.balanceAlarm_first (s : State) : MarksReported s s.balanceAlarm.abortAlarm := by
  have hb := s.balanceAlarm_eq
  have hl := State.balanceAlarm_latched (s := s)
  generalize s.balanceAlarm = x at *
  refine ⟨by rw [x.abortAlarm_eq, hb], fun h => (hl h).abortAlarm, fun h => State.abortAlarm_latched ?_⟩
  rw [hb]
  exact h

theorem State.abortAlarm_first (s : State) : MarksReported s s.abortAlarm.balanceAlarm := by
  have hb := s.abortAlarm_eq
  have hl := State.abortAlarm_latched (s := s)
  generalize s.abortAlarm = x at *
  refine ⟨by rw [x.balanceAlarm_eq, hb], fun h => State.balanceAlarm_latched ?_, fun h => (hl h).balanceAlarm⟩
  rw [hb]
  exact h

theorem MarksReported.of_chosen (h : MarksReported { s with freeIx := s.freeIx + 1 } t) : MarksReported s t :=
  ⟨h.same.trans rfl, h.mismatch, h.aborted⟩

theorem State.keptAlarms_reported (s : State) : MarksReported s s.keptAlarms := by
  rw [State.keptAlarms]
  split
  · dsimp only
    split
    · exact (State.abortAlarm_first _).of_chosen
    · exact (State.balanceAlarm_first _).of_chosen
  · exact s.balanceAlarm_first

/-- What the feed's start leaves: a kept stroke that is owed is given (R128). -/
structure FeedStarted (s t : State) : Prop where
  same : t = { s with
    feed := { s.feed with owed := t.feed.owed, strokeClock := t.feed.strokeClock, strokePassed := t.feed.strokePassed
                          backlog := t.feed.backlog }
    out := { s.out with inhibitorPulse := t.out.inhibitorPulse }
    stats := { s.stats with counters := t.stats.counters, flags := t.stats.flags, lastCounter := t.stats.lastCounter } }
  owed : t.feed.owed = s.feed.owed - (if s.feed.paced = true then 1 else 0)
  pulse : 0 < s.feed.owed → s.feed.paced = true → t.out.inhibitorPulse = some 0
  flags : ∀ e : Event, e ≠ .counterHalf → e ≠ .counterWrap → t.stats.flag e = s.stats.flag e

theorem State.stroke_started (hd : s.strokeDue = true) : FeedStarted s s.stroke := by
  have hpaced : s.feed.paced = true := by
    rw [State.strokeDue, Bool.and_eq_true] at hd
    exact hd.2
  have hcount (x : State) (c : Counter) : x.count c 1 = { x with stats := { x.stats with
      counters := (x.count c 1).stats.counters, flags := (x.count c 1).stats.flags
      lastCounter := (x.count c 1).stats.lastCounter } } := by
    obtain ⟨h1, h2, h3⟩ := x.stats.count_lists c 1
    simp only [State.count]
    generalize x.stats.count c 1 = y at *
    rw [← h1, ← h2, ← h3]
  refine ⟨hcount _ _, ?_, fun _ _ => rfl, fun e h1 h2 => ?_⟩
  · rw [if_pos hpaced]
    rfl
  · exact Stats.count_flag_of_ne h1 h2 _ _ _

theorem State.feedResumed_started (hl : s.station.state = .listen) : FeedStarted s (s.feedResumed .start) := by
  have hruns : (!StationState.start.feedRuns && s.station.state.feedRuns) = true := by rw [hl]; rfl
  rw [State.feedResumed, if_pos hruns, State.strokeTest]
  split
  · next hd => exact State.stroke_started hd
  · next hd =>
    have hno : ¬ (0 < s.feed.owed ∧ s.feed.paced = true) := by
      rintro ⟨h1, h2⟩
      refine hd ?_
      rw [State.strokeDue, h2, hl, decide_eq_true h1]
      rfl
    refine ⟨rfl, ?_, fun h1 h2 => absurd ⟨h1, h2⟩ hno, fun _ _ _ => rfl⟩
    split
    · next hp =>
      have hzero : s.feed.owed = 0 := Nat.eq_zero_of_not_pos (fun h => hno ⟨h, hp⟩)
      rw [hzero]
    · rfl

/-! ## The first scan (R163) -/

theorem State.scanChannel_stats (h : s.meas.recovers k c = false) : (s.scanChannel k c).stats = s.stats := by
  rw [State.scanChannel_eq, h, if_neg Bool.false_ne_true]

/-- With no channel in FAULT none recovers. -/
theorem State.scanChannels_stats (h : ∀ c, (s.meas.channel c).state ≠ .fault) : (s.scanChannels k).stats = s.stats := by
  have hr (c : Chan) : s.meas.recovers k c = false := by
    rw [Measurement.recovers, beq_false_of_ne (h c), Bool.false_and]
  have hne : Chan.tb ≠ .cb ∧ Chan.cm ≠ .cb ∧ Chan.cm ≠ .tb ∧ Chan.tm ≠ .cb ∧ Chan.tm ≠ .tb ∧ Chan.tm ≠ .cm ∧
    Chan.lv ≠ .cb ∧ Chan.lv ≠ .tb ∧ Chan.lv ≠ .cm ∧ Chan.lv ≠ .tm := by decide
  obtain ⟨h1, h2, h3, h4, h5, h6, h7, h8, h9, h10⟩ := hne
  rw [State.scanChannels, State.scanChannel_stats, State.scanChannel_stats, State.scanChannel_stats, State.scanChannel_stats,
    State.scanChannel_stats (hr _)]
  all_goals simp only [State.scanChannel_recovers, hr, h1, h2, h3, h4, h5, h6, h7, h8, h9, h10, ne_eq, not_false_eq_true]

theorem State.marksTaken_alarms (h1 : s.demand.hhCondition = false) (h2 : s.demand.llCondition = false) :
    s.marksTaken.stats.alarms = s.stats.alarms := by
  have hcalm (x : State) : x.calmEnded s.demand = x := by
    simp only [State.calmEnded, h1, h2, Bool.false_and, Bool.false_eq_true, if_false]
  rw [State.marksTaken, hcalm, State.scanMarked_eq]

/-- What the first scan leaves of a state outside RUN with sound channels. -/
structure FirstScan (k : Codes) (s t : State) : Prop where
  same : t = { s with
    meas := s.meas.scanned k s.station.cfg, claim := t.claim, demand := t.demand
    stats := { s.stats with flags := t.stats.flags } }
  engines : ∀ p, Dormant (s.engine p) (t.engine p)
  marks : t.demand = { s.demand.scanned s.station.cfg t.meas.derived with
    dDemand := t.demand.dDemand, dBase := t.demand.dBase, sDemand := t.demand.sDemand, sBase := t.demand.sBase
    bBase := t.demand.bBase }
  shown : DemandShown t
  supplied : (t.demand.sDemand, t.demand.sBase) = supplyDemand s.station.cfg t.meas.derived t.demand
  based : BaseShown t
  handed : HandedOn s → HandedOn t
  suppliedOn : SuppliedOn s → SuppliedOn t
  clamped : t.stats.flag .configClamped = s.stats.flag .configClamped

theorem Asleep.firstScan (ha : Asleep s) (hsound : ∀ c, (s.meas.channel c).state ≠ .fault)
    (h1 : s.demand.hhCondition = false) (h2 : s.demand.llCondition = false) (k : Codes) :
    FirstScan k s (s.takeScan k).scanDemand := by
  obtain ⟨hme, hst, hq, hcl, hout, hbio, hfeed, hnow⟩ := s.takeScan_keeps k
  obtain ⟨f, a, hscan⟩ := s.takeScan_measured k
  have halarms : (s.takeScan k).stats.alarms = s.stats.alarms := by
    rw [State.takeScan_alarms, State.scanChannels_stats hsound]
  have hflag := State.takeScan_flag s k .configClamped
  rw [beq_false_of_ne (a := Event.probeRecovered) (b := .configClamped) nofun,
    beq_false_of_ne (a := Event.cyclesLimit) (b := .configClamped) nofun, Bool.and_false, Bool.and_false, Bool.or_false,
    Bool.or_false] at hflag
  generalize s.takeScan k = x at *
  have hx : Asleep x := by
    rw [hscan]
    exact ⟨ha.inRun, ha.engines⟩
  have hscanned := x.scanDemand_scanned
  have hdozing := hx.scanDemand
  have hmarks := x.marksTaken_eq
  have hmarksAlarms : x.marksTaken.stats.alarms = x.stats.alarms :=
    State.marksTaken_alarms (by rw [hq, h1]) (by rw [hq, h2])
  have hmarksFlag := x.marksTaken_flag .configClamped
  rw [beq_false_of_ne (a := Event.modeFallback) (b := .configClamped) nofun, Bool.and_false, Bool.or_false] at hmarksFlag
  have hmarksStats : x.marksTaken.stats = { x.stats with flags := x.marksTaken.stats.flags, alarms := x.marksTaken.stats.alarms } := by
    rw [State.marksTaken, State.calmEnded_eq, State.scanMarked]
    split <;> rfl
  have hsame : x.scanDemand = { s with
      meas := s.meas.scanned k s.station.cfg, claim := x.scanDemand.claim, demand := x.scanDemand.demand
      stats := { s.stats with flags := x.scanDemand.stats.flags } } := by
    have hstats : x.scanDemand.stats = { s.stats with flags := x.scanDemand.stats.flags } := by
      rw [hscanned.stats, hmarksStats, hmarksAlarms, halarms, hscan]
    rw [← hstats]
    have hd := hdozing.same
    rw [hmarks] at hd
    rw [hd, hscan]
  generalize x.scanDemand = t at *
  refine
    { same := hsame, engines := fun p => ?_, marks := ?_, shown := hscanned.shown, supplied := ?_, based := hscanned.based
      handed := fun h => hscanned.handed ?_, suppliedOn := fun h => hscanned.suppliedOn ?_, clamped := ?_ }
  · have hp : x.marksTaken.engine p = s.engine p := by
      rw [hmarks]
      exact State.engine_of_claim hcl p
    rw [← hp]
    exact hdozing.engines p
  · have hm := hscanned.marks
    rw [hq, hst] at hm
    rw [hscanned.meas]
    exact hm
  · have hm := hscanned.supplied
    rw [hst] at hm
    rw [hscanned.meas]
    exact hm
  · rw [HandedOn, State.engine_of_claim hcl, hq]
    exact h
  · rw [SuppliedOn, State.engine_of_claim hcl, hq]
    exact h
  · rw [hscanned.stats, hmarksFlag, hflag]

end

end Sys2Proof.Machine
end

section
/-! SUPPORT. The entry to LISTEN from START as a whole (R163): the obligation. -/

namespace Sys2Proof.Machine
open Sys2Proof

set_option Elab.async false

section
variable {b s t u w x : State} {p : Pool} {v : Valve} {k : Codes} {c : EffConfig} {i : StartInputs} {bytes : List Byte}

/-! ## The notice of the kept cycle (R136, R152) -/

/-- What the sequencer's first notice and a kept CONTACT's request leave. -/
structure CycleTold (s t : State) : Prop where
  dozing : Dozing s t
  demand : t.demand = { s.demand with
    dDemand := t.demand.dDemand, dBase := t.demand.dBase, bBase := t.demand.bBase, suppress := s.bio.cycle == .contact }
  handed : HandedOn t
  supplied : SuppliedOn t

theorem Asleep.cycleTold (ha : Asleep s) (hf : s.demand.force = false) (hs : s.demand.suppress = false) (hh : HandedOn s)
    (hp : SuppliedOn s) : CycleTold s s.cycleNotice.renewSuppression := by
  have hnotice := ha.cycleNotice
  have hd := s.cycleNotice_engine_ne (p := .discharge) (by decide)
  have hsup := s.cycleNotice_engine_ne (p := .supply) (by decide)
  have hdemand : s.cycleNotice.demand = { s.demand with bBase := biocideBase s.bio } := by rw [State.cycleNotice_eq]; rfl
  generalize s.cycleNotice = w at *
  have hrenew := (ha.after hnotice).renewSuppression
  have hbio : w.bio = s.bio := by rw [hnotice.same]
  have hhw : HandedOn w := by
    rw [HandedOn, hd, hdemand]
    exact hh
  have hpw : SuppliedOn w := by
    rw [SuppliedOn, hsup, hdemand]
    exact hp
  rw [State.renewSuppression, hbio] at hrenew ⊢
  cases hc : s.bio.cycle == .contact with
  | false =>
    rw [hc, if_neg Bool.false_ne_true] at hrenew
    rw [if_neg Bool.false_ne_true]
    exact ⟨hnotice, by rw [hdemand, hc, hs.symm], hhw, hpw⟩
  | true =>
    rw [hc, if_pos rfl] at hrenew
    rw [if_pos rfl]
    have heased : Eased _ (w.request false true) := State.recomputeDischarge_eased
      ({ w with demand := { w.demand with force := false, suppress := true } } : State)
    generalize w.request false true = y at *
    refine ⟨hnotice.trans hrenew, ?_, heased.handed hhw, hpw.of_same heased.supply ?_ ?_⟩
    · rw [heased.demand, hdemand, hc, ← hf]
    · rw [heased.demand]
    · rw [heased.demand]

/-! ## The entry -/

/-- What the end of START leaves before its REPORTs, of the state it loads. -/
structure ListenEntered (c : EffConfig) (i : StartInputs) (s t : State) : Prop where
  same : t = { s.load c i with
    freeIx := t.freeIx, meas := (Measurement.loaded c).scanned i.codes c, claim := t.claim, demand := t.demand
    feed := { (s.load c i).feed with
      owed := t.feed.owed, strokeClock := t.feed.strokeClock, strokePassed := t.feed.strokePassed, backlog := t.feed.backlog }
    out := { (s.load c i).out with
      blowdown := t.out.blowdown, makeup := t.out.makeup, inhibitorPulse := t.out.inhibitorPulse }
    stats := t.stats }
  engine : ∀ v : Valve, Dormant { (s.load c i).engine v.pool with
    state := if ((s.load c i).valve v).seenOpen then .releasing else .rest } (t.engine v.pool)
  biocide : Dormant ((s.load c i).engine .biocide) (t.engine .biocide)
  valve : ∀ v : Valve, t.valve v = if ((s.load c i).valve v).seenOpen then ((s.load c i).valve v).closing else (s.load c i).valve v
  marks : t.demand = { ({ Demand.reset with mode := c.mode } : Demand).scanned c t.meas.derived with
    dDemand := t.demand.dDemand, dBase := t.demand.dBase, sDemand := t.demand.sDemand, sBase := t.demand.sBase
    bBase := t.demand.bBase, suppress := s.bio.cycle == .contact }
  shown : DemandShown t
  supplied : (t.demand.sDemand, t.demand.sBase) = supplyDemand c t.meas.derived t.demand
  based : BaseShown t
  handed : HandedOn t
  suppliedOn : SuppliedOn t
  owed : t.feed.owed = s.feed.owed - (if s.feed.paced = true then 1 else 0)
  pulse : 0 < s.feed.owed → s.feed.paced = true → t.out.inhibitorPulse = some 0
  mismatch : s.feed.mismatch = true → Latched .balanceMismatch t
  aborted : s.bio.abortMark = true → Latched .biocideAborted t
  clamped : t.stats.flag .configClamped = s.stats.flag .configClamped

/-- The entry's steps after the load. -/
def State.entered (s : State) (c : EffConfig) (i : StartInputs) : State :=
  (((((((s.load c i).startValve .blowdown).startValve .makeup).cycleNotice).renewSuppression.keptAlarms).feedResumed
    .start).takeScan i.codes).scanDemand

theorem State.load_sound (s : State) (c : EffConfig) (i : StartInputs) (n : Chan) :
    ((s.load c i).meas.channel n).state ≠ .fault := by
  have hloaded (e : Bool) : (ChannelRec.loaded e).state ≠ .fault := by cases e <;> nofun
  cases n <;> exact hloaded _

theorem ValvesStarted.asleep (h : ValvesStarted (s.load c i) t) : Asleep t := by
  have hrest (p : Pool) : ((s.load c i).engine p).state = .rest := by cases p <;> rfl
  have hvalve (v : Valve) : (t.engine v.pool).state = .rest ∨ (t.engine v.pool).state = .releasing := by
    rw [h.engine]
    dsimp only
    split
    · exact .inr rfl
    · exact .inl (hrest _)
  refine ⟨by rw [h.same]; rfl, fun p => ?_⟩
  cases p with
  | discharge => exact hvalve .blowdown
  | supply => exact hvalve .makeup
  | biocide => exact .inl (by rw [h.biocide]; rfl)

theorem State.entered_listen (s : State) (c : EffConfig) (i : StartInputs) : ListenEntered c i s (s.entered c i) := by
  have hvalves := (s.load c i).startValves_started
  have hasleep := hvalves.asleep
  rw [State.entered]
  generalize ((s.load c i).startValve .blowdown).startValve .makeup = w at *
  have hdischarge := hvalves.engine .blowdown
  have hsupply := hvalves.engine .makeup
  have hwd : w.demand = { Demand.reset with mode := c.mode } := by rw [hvalves.same]; rfl
  have hwbio : w.bio.cycle = s.bio.cycle := by
    rw [hvalves.same]
    exact Sequencer.atListen_cycle _ _
  have htold := hasleep.cycleTold (by rw [hwd]; rfl) (by rw [hwd]; rfl)
    (by rw [HandedOn, hwd]; exact ⟨congrArg Engine.need hdischarge, congrArg Engine.base hdischarge⟩)
    (by rw [SuppliedOn, hwd]; exact ⟨congrArg Engine.need hsupply, congrArg Engine.base hsupply⟩)
  generalize w.cycleNotice.renewSuppression = y at *
  have hy : y = { w with claim := y.claim, demand := y.demand } := htold.dozing.same
  have hyasleep := hasleep.after htold.dozing
  have hreported := y.keptAlarms_reported
  generalize y.keptAlarms = z at *
  have hz := hreported.same
  have hlisten : z.station.state = .listen := by rw [hz, hy, hvalves.same]; rfl
  have hstarted := State.feedResumed_started hlisten
  generalize z.feedResumed .start = x at *
  have hx := hstarted.same
  have hxclaim : x.claim = y.claim := by rw [hx, hz]
  have hxdemand : x.demand = y.demand := by rw [hx, hz]
  have hxalarms : x.stats.alarms = z.stats.alarms := by rw [hx]
  have hxst : x.station.cfg = c := by rw [hx, hz, hy, hvalves.same]; rfl
  have hxmeas : x.meas = Measurement.loaded c := by rw [hx, hz, hy, hvalves.same]; rfl
  have hxasleep : Asleep x := by
    rw [hx, hz]
    exact ⟨hyasleep.inRun, hyasleep.engines⟩
  have hxmarks := htold.demand
  rw [hwd, hwbio] at hxmarks
  have hscan := hxasleep.firstScan (fun n => by rw [hxmeas]; exact s.load_sound c i n) (by rw [hxdemand, hxmarks]; rfl)
    (by rw [hxdemand, hxmarks]; rfl) i.codes
  generalize (x.takeScan i.codes).scanDemand = t at *
  have ht := hscan.same
  rw [hxst, hxmeas] at ht
  have hdormant (p : Pool) : Dormant (w.engine p) (t.engine p) := by
    have he : x.engine p = y.engine p := State.engine_of_claim hxclaim p
    exact (htold.dozing.engines p).trans (he ▸ hscan.engines p)
  have hvalve (v : Valve) : t.valve v = w.valve v := by
    rw [ht, hx, hz, hy]
    cases v <;> rfl
  have hzfeed : z.feed = (s.load c i).feed := by rw [hz, hy, hvalves.same]
  have hyfeed : y.feed = (s.load c i).feed := by rw [hy, hvalves.same]
  have hybio : y.bio = (s.load c i).bio := by rw [hy, hvalves.same]
  have halarms : t.stats.alarms = z.stats.alarms := by rw [ht]; exact hxalarms
  have habort : (s.bio.atListen c).abortMark = s.bio.abortMark := by
    unfold Sequencer.atListen
    split <;> rfl
  have hsame : t = { s.load c i with
      freeIx := t.freeIx, meas := (Measurement.loaded c).scanned i.codes c, claim := t.claim, demand := t.demand
      feed := { (s.load c i).feed with
        owed := t.feed.owed, strokeClock := t.feed.strokeClock, strokePassed := t.feed.strokePassed, backlog := t.feed.backlog }
      out := { (s.load c i).out with
        blowdown := t.out.blowdown, makeup := t.out.makeup, inhibitorPulse := t.out.inhibitorPulse }
      stats := t.stats } := by
    rw [ht, hx, hz, hy, hvalves.same]
  refine
    { same := hsame, engine := fun v => ?_, biocide := ?_, valve := fun v => (hvalve v).trans (hvalves.valve v), marks := ?_
      shown := hscan.shown, supplied := ?_, based := hscan.based
      handed := hscan.handed ?_, suppliedOn := hscan.suppliedOn ?_, owed := ?_, pulse := fun h1 h2 => ?_
      mismatch := fun h => (hreported.mismatch ?_).of_alarms halarms
      aborted := fun h => (hreported.aborted ?_).of_alarms halarms, clamped := ?_ }
  · have hd := hdormant v.pool
    rw [hvalves.engine v] at hd
    have hrest : ((s.load c i).engine v.pool).state = .rest := by cases v <;> rfl
    rw [hrest] at hd
    exact hd
  · rw [← hvalves.biocide]
    exact hdormant .biocide
  · have hm := hscan.marks
    rw [hxst, hxdemand, hxmarks] at hm
    exact hm
  · have hm := hscan.supplied
    rw [hxst] at hm
    exact hm
  · rw [HandedOn, State.engine_of_claim hxclaim, hxdemand]
    exact htold.handed
  · rw [SuppliedOn, State.engine_of_claim hxclaim, hxdemand]
    exact htold.supplied
  · have ho := hstarted.owed
    rw [hzfeed] at ho
    rw [ht]
    exact ho
  · have ho := hstarted.pulse
    rw [hzfeed] at ho
    rw [ht]
    exact ho h1 h2
  · rw [hyfeed]
    exact h
  · rw [hybio]
    exact habort.trans h
  · rw [hscan.clamped, hstarted.flags .configClamped nofun nofun, hz, hy, hvalves.same]
    rfl

end

end Sys2Proof.Machine
end

section
/-! SUPPORT. CONFIG ATTEMPT with a sound image (R159 to R163): the REPORTs of the entry to LISTEN, and the obligation. -/

namespace Sys2Proof.Machine
open Sys2Proof

set_option Elab.async false

section
variable {b s t u w x : State} {p : Pool} {v : Valve} {k : Codes} {c : EffConfig} {i : StartInputs} {bytes : List Byte}

/-! ## The triggers of the entry (R90) -/

theorem reportTriggers_eq_zero_iff (hc : t.bio.cycle = s.bio.cycle) : reportTriggers s t = 0 ↔
    (∀ p, (t.engine p).state = (s.engine p).state) ∧ t.alarmCondition = s.alarmCondition ∧ t.faultSummary = s.faultSummary := by
  have hzero (x : Bool) : x.toNat = 0 ↔ x = false := by cases x <;> decide
  have hdiffers (p : Pool) : engineDiffers s t p = false ↔ (t.engine p).state = (s.engine p).state := by
    rw [engineDiffers, bne_eq_false_iff_eq]
    exact eq_comm
  rw [reportTriggers, hc, bne_self_eq_false]
  simp only [Nat.add_eq_zero_iff, hzero, hdiffers, alarmSummaryDiffers_eq_false_iff, and_true]
  constructor
  · rintro ⟨⟨⟨h1, h2⟩, h3⟩, h4⟩
    exact ⟨fun p => by cases p <;> assumption, h4⟩
  · rintro ⟨h, h4⟩
    exact ⟨⟨⟨h _, h _⟩, h _⟩, h4⟩

/-- The end of the attempt's event: `n` triggers beside the entry's own. -/
structure Composed (n : Nat) (s t : State) : Prop where
  same : t = { s with
    freeIx := t.freeIx
    line := { s.line with onLine := t.line.onLine, nextSlot := t.line.nextSlot }
    out := { s.out with relay := t.out.relay }
    port := { s.port with attention := t.port.attention }
    stats := { s.stats with counters := t.stats.counters, flags := t.stats.flags, lastCounter := t.stats.lastCounter } }
  lines : LinesFollow t
  flags : ∀ e : Event, e ≠ .counterHalf → e ≠ .counterWrap → t.stats.flag e = s.stats.flag e
  slots : s.composes = true → s.line.onLine = none → s.line.nextSlot = none →
    t.line.onLine = some (OnLine.first s.line.seq t.reportFrame) ∧
      t.line.nextSlot = if n = 0 then none else some t.reportFrame

theorem State.toldAfter_composed (s b : State) (n : Nat) : Composed n s (s.toldAfter b (n + 1)) := by
  have hsame := s.toldAfter_eq b (n + 1)
  have hline : (s.toldAfter b (n + 1)).line = (s.composeReports (n + 1)).line := by
    rw [State.toldAfter, State.driveLines_line, State.nameLast_eq]
  have hflags (e : Event) : (s.toldAfter b (n + 1)).stats.flag e = (s.composeReports (n + 1)).stats.flag e := by
    rw [State.toldAfter, State.driveLines_stats, State.nameLast_eq]
    rfl
  have hframe : (s.toldAfter b (n + 1)).reportFrame = s.reportFrame := by
    rw [hsame]
    rfl
  refine ⟨hsame, linesFollow_driveLines _, fun e h1 h2 => (hflags e).trans (State.composeReports_flag_of_ne h1 h2 s _),
    fun hc ho hn => ?_⟩
  rw [hline, hframe]
  exact State.composeReports_line_empty hc ho hn n

/-! ## The attempt -/

theorem State.enterListenFromStart_eq (hw : w = if configClampedBy bytes then u.raise .configClamped else u)
    (hx : x = w.entered (effectiveConfig bytes) i) :
    u.enterListenFromStart bytes i = x.composeReports (reportTriggers u x + 1) := by
  rw [State.composeReports_succ, hx, hw, State.entered]
  dsimp only [State.enterListenFromStart]

/-- R159, R161, R163: an attempt that reads a sound image. -/
theorem exec_configAttempt_of_sound (hh : s.held = none) (hs : s.station.state = .start) {n : Nat}
    (hw : s.station.work = .attempt n) (hb : imageFault bytes = none) (i : StartInputs) {a : MemoryAnswer}
    (ha : memoryAnswers a = true) (hbytes : a.bytes = bytes)
    (hu : u = { s with station := { s.station with bus := imageTransaction a } })
    (hw' : w = if configClampedBy bytes then u.raise .configClamped else u)
    (hx : x = w.entered (effectiveConfig bytes) i) :
    exec (.configAttempt a i) s = .next (x.toldAfter s (reportTriggers u x + 1)) := by
  have hfault : attemptFault a = none := by rw [attemptFault, if_pos ha, hbytes, hb]
  have hattempt := State.attempt_of_work hs hw
  rw [exec_configAttempt, quietEvent_of_due hh (by rw [hattempt]; rfl)]
  have hends : s.attemptEnds (s.attempt.getD 0) a i = x.composeReports (reportTriggers u x + 1) := by
    have hentry : u.enterListenFromStart a.bytes i = x.composeReports (reportTriggers u x + 1) := by
      rw [hbytes]
      exact State.enterListenFromStart_eq hw' hx
    rw [State.attemptEnds, hfault, ← hu]
    exact hentry
  rw [hends]
  rfl

/-- The flag of a clamped configuration is all that the state before the load has changed. -/
theorem State.clampTold (u : State) (bytes : List Byte) : ∃ f,
    (if configClampedBy bytes then u.raise .configClamped else u) = { u with stats := { u.stats with flags := f } } ∧
      (if configClampedBy bytes then u.raise .configClamped else u).stats.flag .configClamped =
        (u.stats.flag .configClamped || configClampedBy bytes) := by
  cases configClampedBy bytes with
  | true => exact ⟨_, rfl, by rw [if_pos rfl, State.raise_flag_self, Bool.or_true]⟩
  | false => exact ⟨u.stats.flags, rfl, by rw [if_neg Bool.false_ne_true, Bool.or_false]⟩

/-- R23, R24: a DISCHARGE mark set by the first scan. -/
theorem dischargeMark_first (c : EffConfig) (d : Derived) (m : ControlMode) : dischargeMark c d m false = true ↔
    ∃ k ∈ d.k25B, c.hh ≤ k ∨ setpoint c m ≤ controlled m d := by
  rw [dischargeMark_eq]
  cases d.k25B <;> simp

/-- R28: a SUPPLY mark set by the first scan. -/
theorem supplyMark_first (c : EffConfig) (d : Derived) : supplyMark c d false = true ↔ ∃ l ∈ d.lv10, l ≤ c.ll ∨ l ≤ c.lOn := by
  rw [supplyMark_eq]
  cases d.lv10 <;> simp

theorem runTimer_first (x : Bool) : (runTimer x none = some 0 ∨ runTimer x none = none) ∧ (runTimer x none = some 0 ↔ x = true) := by
  cases x <;> decide

/-! ## What the attempt leaves -/

/-- The end of the attempt, of the state before the load. -/
structure AttemptPassed (c : EffConfig) (i : StartInputs) (s x t : State) : Prop where
  entered : ListenEntered c i s x
  claim : t.claim = x.claim
  demand : t.demand = x.demand
  meas : t.meas = x.meas
  feed : t.feed = x.feed
  bio : t.bio = s.bio.atListen c
  station : t.station = (s.load c i).station
  blowdown : t.out.blowdown = x.out.blowdown
  makeup : t.out.makeup = x.out.makeup
  pulse : t.out.inhibitorPulse = x.out.inhibitorPulse
  alarms : t.stats.alarms = x.stats.alarms

theorem Composed.passed {n : Nat} (h : Composed n x t) (he : ListenEntered c i s x) : AttemptPassed c i s x t := by
  have hx := he.same
  have ht := h.same
  have hbio : x.bio = s.bio.atListen c := by rw [hx]; rfl
  have hstation : x.station = (s.load c i).station := by rw [hx]
  exact
    { entered := he, claim := by rw [ht], demand := by rw [ht], meas := by rw [ht], feed := by rw [ht]
      bio := by rw [ht]; exact hbio, station := by rw [ht]; exact hstation, blowdown := by rw [ht], makeup := by rw [ht]
      pulse := by rw [ht], alarms := by rw [ht] }

theorem AttemptPassed.engine (h : AttemptPassed c i s x t) (p : Pool) : t.engine p = x.engine p := State.engine_of_claim h.claim p

theorem AttemptPassed.valve (h : AttemptPassed c i s x t) (v : Valve) : t.valve v = x.valve v := by
  cases v with
  | blowdown => exact h.blowdown
  | makeup => exact h.makeup

/-- R63: each valve engine in RELEASING or in REST, as its valve is seen. -/
theorem AttemptPassed.state (h : AttemptPassed c i s x t) (v : Valve) : (t.engine v.pool).state =
    if ((s.load c i).valve v).seenOpen then .releasing else .rest := by
  rw [h.engine, (h.entered.engine v).state]

theorem AttemptPassed.biocide (h : AttemptPassed c i s x t) : (t.engine .biocide).state = .rest := by
  rw [h.engine, h.entered.biocide.state]
  rfl

/-- R35, R38, R75: amounts, caps and ageing as loaded. -/
theorem AttemptPassed.amounts (h : AttemptPassed c i s x t) (p : Pool) :
    (t.engine p).amount = c.amount p ∧ (t.engine p).effCap = c.cap p ∧ (t.engine p).ageing = 0 := by
  rw [h.engine]
  cases p with
  | discharge =>
    have hd := h.entered.engine .blowdown
    exact ⟨hd.amount, hd.effCap, hd.ageing⟩
  | supply =>
    have hd := h.entered.engine .makeup
    exact ⟨hd.amount, hd.effCap, hd.ageing⟩
  | biocide =>
    have hd := h.entered.biocide
    exact ⟨hd.amount, hd.effCap, hd.ageing⟩

/-- R105, R113: the valves' records. -/
theorem AttemptPassed.record (h : AttemptPassed c i s x t) (v : Valve) : t.valve v =
    { commanded := .closed, feedbackPresent := if v = .blowdown then c.feedbackBlowdown else c.feedbackMakeup,
      settled := if v = .blowdown then i.blowdownFeedback else i.makeupFeedback,
      check := if (t.engine v.pool).state = .releasing then .closeCheck else .none,
      timer := if (t.engine v.pool).state = .releasing then some 0 else none } := by
  rw [h.valve, h.entered.valve v, h.state]
  cases ((s.load c i).valve v).seenOpen <;> cases v <;> rfl

theorem AttemptPassed.commanded (h : AttemptPassed c i s x t) (v : Valve) : (t.valve v).commanded = .closed := by
  rw [h.record]

/-- R19 to R33: the demand unit as the first scan sets it. -/
theorem AttemptPassed.marks (h : AttemptPassed c i s x t) :
    t.demand.mode = (if c.mode = .k ∧ t.meas.derived.coc.isSome = true then .k else .c) ∧
    (t.demand.dMark = true ↔ ∃ k ∈ t.meas.derived.k25B,
      c.hh ≤ k ∨ setpoint c t.demand.mode ≤ controlled t.demand.mode t.meas.derived) ∧
    (t.demand.sMark = true ↔ ∃ l ∈ t.meas.derived.lv10, l ≤ c.ll ∨ l ≤ c.lOn) ∧
    t.demand.hhCondition = false ∧ t.demand.llCondition = false ∧
    (t.demand.hhTimer = some 0 ∨ t.demand.hhTimer = none) ∧
    (t.demand.hhTimer = some 0 ↔ ∃ k ∈ t.meas.derived.k25B, c.hh ≤ k) ∧
    (t.demand.llTimer = some 0 ∨ t.demand.llTimer = none) ∧
    (t.demand.llTimer = some 0 ↔ ∃ l ∈ t.meas.derived.lv10, l ≤ c.ll) ∧ t.demand.force = false ∧
    t.demand.suppress = (s.bio.cycle == Cycle.contact) := by
  have hm := h.entered.marks
  rw [← h.demand, ← h.meas] at hm
  have hmode : t.demand.mode = modeInForce c t.meas.derived := by rw [hm]; rfl
  have hd : t.demand.dMark = dischargeMark c t.meas.derived t.demand.mode false := by
    rw [hmode, hm]
    rfl
  have hs : t.demand.sMark = supplyMark c t.meas.derived false := by rw [hm]; rfl
  have hhh : t.demand.hhTimer = runTimer (aboveHh c t.meas.derived) none := by rw [hm]; rfl
  have hll : t.demand.llTimer = runTimer (belowLl c t.meas.derived) none := by rw [hm]; rfl
  obtain ⟨hhh1, hhh2⟩ := runTimer_first (aboveHh c t.meas.derived)
  obtain ⟨hll1, hll2⟩ := runTimer_first (belowLl c t.meas.derived)
  refine ⟨by rw [hmode, modeInForce_eq], by rw [hd, dischargeMark_first], by rw [hs, supplyMark_first], by rw [hm]; rfl,
    by rw [hm]; rfl, by rw [hhh]; exact hhh1, by rw [hhh, hhh2, aboveHh_iff], by rw [hll]; exact hll1,
    by rw [hll, hll2, belowLl_iff], by rw [hm]; rfl, by rw [hm]⟩

/-- R24 to R32: the demands, and their hand-over. -/
theorem AttemptPassed.demands (h : AttemptPassed c i s x t) :
    (t.demand.dDemand, t.demand.dBase) = dischargeDemand c t.meas.derived t.demand ∧
    (t.demand.sDemand, t.demand.sBase) = supplyDemand c t.meas.derived t.demand ∧ t.demand.bBase = biocideBase t.bio ∧
    (t.engine .discharge).need = t.demand.dDemand ∧ (t.engine .discharge).base = t.demand.dBase ∧
    (t.engine .supply).need = t.demand.sDemand ∧ (t.engine .supply).base = t.demand.sBase := by
  have hshown := h.entered.shown
  have hcfg : x.station.cfg = c := by rw [h.entered.same]; rfl
  have hbio : x.bio = t.bio := by rw [h.bio, h.entered.same]; rfl
  have hbased := h.entered.based
  obtain ⟨h1, h2⟩ := h.entered.handed
  obtain ⟨h3, h4⟩ := h.entered.suppliedOn
  rw [DemandShown, hcfg] at hshown
  rw [BaseShown, hbio] at hbased
  rw [h.demand, h.meas, h.engine, h.engine]
  exact ⟨hshown, h.entered.supplied, hbased, h1, h2, h3, h4⟩

/-- R152, R153: the sequencer's kept times. -/
theorem Sequencer.atListen_cases (q : Sequencer) (c : EffConfig) :
    (q.cycle = .idle → q.atListen c = { q with
      interval := some (min (q.interval.getD (c.biocideInterval * 3600000)) (c.biocideInterval * 3600000)) }) ∧
    (q.cycle = .contact → q.atListen c = { q with phase := q.phase.map (fun n => min n (c.contactTime * 1000)) }) := by
  refine ⟨fun h => ?_, fun h => ?_⟩
  · rw [Sequencer.atListen, h]
    rfl
  · rw [Sequencer.atListen, h]

/-- R128, R133: the feed as kept, but for the levels, the slot clock and a stroke given. -/
theorem AttemptPassed.kept (h : AttemptPassed c i s x t) : t.feed.makeupLevel = i.makeupMeter ∧
    t.feed.blowdownLevel = i.blowdownMeter ∧ t.feed.slotClock = some 0 ∧ t.feed.remainder = s.feed.remainder ∧
    t.feed.makeupAcc = s.feed.makeupAcc ∧ t.feed.blowdownAcc = s.feed.blowdownAcc ∧ t.feed.balance = s.feed.balance ∧
    t.feed.mismatch = s.feed.mismatch := by
  rw [h.feed, h.entered.same]
  exact ⟨rfl, rfl, rfl, rfl, rfl, rfl, rfl, rfl⟩

/-- R90: when the entry has a trigger beside its own. -/
theorem AttemptPassed.triggers (h : AttemptPassed c i s x t) : reportTriggers s x = 0 ↔
    (t.engine .discharge).state = (s.engine .discharge).state ∧ (t.engine .supply).state = (s.engine .supply).state ∧
      (s.engine .biocide).state = .rest ∧ t.alarmCondition = s.alarmCondition ∧ t.faultSummary = s.faultSummary := by
  have hcycle : x.bio.cycle = s.bio.cycle := by
    rw [h.entered.same]
    exact Sequencer.atListen_cycle _ _
  have hcondition : t.alarmCondition = x.alarmCondition := by rw [State.alarmCondition, h.alarms]; rfl
  have hvalve : t.valveFault = x.valveFault := State.valveFault_of_engines (fun p => by rw [h.engine])
  have hsummary : t.faultSummary = x.faultSummary := by
    rw [State.faultSummary, h.meas, hvalve, h.feed]
    rfl
  have hb : (x.engine .biocide).state = .rest := (congrArg Engine.state (h.engine .biocide)).symm.trans h.biocide
  rw [reportTriggers_eq_zero_iff hcycle, hcondition, hsummary, h.engine, h.engine]
  constructor
  · rintro ⟨hp, ha, hf⟩
    exact ⟨hp .discharge, hp .supply, (hp .biocide).symm.trans hb, ha, hf⟩
  · rintro ⟨h1, h2, h3, ha, hf⟩
    refine ⟨fun p => ?_, ha, hf⟩
    cases p with
    | discharge => exact h1
    | supply => exact h2
    | biocide => exact hb.trans h3.symm

end

/-- Settles O8, from the entry's stages. -/
theorem passingAttemptEntersListen : Obligations.PassingAttemptEntersListen := by
  unfold Obligations.PassingAttemptEntersListen
  intro bytes i n s hh hs hw hb answer
  obtain ⟨f, hflags, hclamped⟩ := State.clampTold { s with station := { s.station with bus := imageTransaction answer } } bytes
  have hexec := exec_configAttempt_of_sound (a := answer) hh hs hw hb i rfl rfl rfl rfl rfl
  rw [hflags] at hexec hclamped
  generalize effectiveConfig bytes = c at *
  have he := State.entered_listen ({ s with
    station := { s.station with bus := imageTransaction answer }, stats := { s.stats with flags := f } } : State) c i
  generalize State.entered ({ s with
    station := { s.station with bus := imageTransaction answer }, stats := { s.stats with flags := f } } : State) c i = x at *
  have htriggers : reportTriggers ({ s with station := { s.station with bus := imageTransaction answer } } : State) x =
    reportTriggers ({ s with station := { s.station with bus := imageTransaction answer }, stats := { s.stats with flags := f } } :
      State) x := rfl
  rw [htriggers] at hexec
  have ht := State.toldAfter_composed x s (reportTriggers
    ({ s with station := { s.station with bus := imageTransaction answer }, stats := { s.stats with flags := f } } : State) x)
  generalize x.toldAfter s _ = t at *
  have hp := ht.passed he
  obtain ⟨k1, k2, k3, k4, k5, k6, k7, k8⟩ := hp.kept
  obtain ⟨m1, m2, m3, m4, m5, m6, m7, m8, m9, m10, m11⟩ := hp.marks
  obtain ⟨d1, d2, d3, d4, d5, d6, d7⟩ := hp.demands
  obtain ⟨q1, q2⟩ := s.bio.atListen_cases c
  have hframe : t.now = s.now ∧ t.held = s.held ∧ t.peers = s.peers ∧ t.pending = s.pending ∧
      t.port.mailbox = s.port.mailbox ∧ t.line.rxMode = .skip ∧ t.line.reportTimer = some 0 ∧ t.line.deliveryTimer = some 0 := by
    rw [ht.same, he.same]
    exact ⟨rfl, rfl, rfl, rfl, rfl, rfl, rfl, rfl⟩
  obtain ⟨f1, f2, f3, f4, f5, f6, f7, f8⟩ := hframe
  have hmeas : t.meas = (Measurement.loaded c).scanned i.codes c := by rw [hp.meas, he.same]
  have hxline : x.line = { s.line with rxMode := .skip, reportTimer := some 0, deliveryTimer := some 0 } := by
    rw [he.same]
    rfl
  have hxstation : x.station.state = .listen := by
    rw [he.same]
    rfl
  refine ⟨t, hexec, ht.lines, hp.station, f1, f2.trans hh, f3, f4, f5, fun n => ?_, ?_, by rw [hmeas]; rfl, hp.amounts, hp.biocide,
    (hp.state .blowdown).trans (ite_congr (propext (ValveRec.seenOpen_iff _)) (fun _ => rfl) fun _ => rfl),
    (hp.state .makeup).trans (ite_congr (propext (ValveRec.seenOpen_iff _)) (fun _ => rfl) fun _ => rfl), hp.commanded, k1, k2, f6, f7, f8, ?_,
    fun ho hn hl => ?_, ?_⟩
  · rw [hmeas, Measurement.channel_scanned]
    cases n <;> rfl
  · rw [hmeas]
    exact Measurement.derived_scanned _ _ _
  · rw [ht.flags .configClamped nofun nofun, he.clamped, hclamped]
  · have hcomposes : x.composes = true := by
      rw [State.composes, hxstation, hxline, hl]
      rfl
    obtain ⟨h1, h2⟩ := ht.slots hcomposes (by rw [hxline]; exact ho) (by rw [hxline]; exact hn)
    rw [hxline] at h1
    exact ⟨h1, h2.trans (ite_congr (propext hp.triggers) (fun _ => rfl) fun _ => rfl)⟩
  · intro c'
    refine ⟨hp.record, m1, m2, m3, d1, d2, d3, m4, m5, m6, m7, m8, m9, m10, m11, d4, d5, d6, d7, fun h => ?_, fun h => ?_, k3, k4, k5,
      k6, k7, k8, by rw [hp.feed]; exact he.owed, fun h1 h2 => by rw [hp.pulse]; exact he.pulse h1 h2,
      fun h => (he.mismatch h).of_alarms hp.alarms, fun h => (he.aborted h).of_alarms hp.alarms⟩
    · rw [hp.bio]
      exact q1 h
    · rw [hp.bio]
      exact q2 h

end Sys2Proof.Machine
end
